-- ==== Sys2Proof/Word.lean ====
section
/-! DEFINITION. Words, bytes, the signature modulus and the stored word of the memory port. -/

namespace Sys2Proof

/-- Eight bits: one lane of a word, one byte of a frame. -/
abbrev Byte := BitVec 8

/-- The 64 data bits of a word (R8), an argument or result word of the aperture (R172), a record's value (R183). -/
abbrev Word := BitVec 64

/-- A cycle number: 32 bits, wrapping (00 section 4.3, R113). -/
abbrev Cycle := BitVec 32

/-- The signature modulus, the prime 2^61−1 (00 section 3). -/
def modulus : Nat := 2305843009213693951

/-- The greatest value of a 32-bit counter, at which counters saturate (00 section 4.3). -/
def counterMax : Nat := 4294967295

/-- A 32-bit count, one more, saturating (00 section 4.3). -/
def satSucc (n : Nat) : Nat := if n < counterMax then n + 1 else counterMax

/-- One stored word of the channel's memory: 64 data bits with 8 check bits (R22). The spec gives no check code, so the
check bits are held as what they say: `encodedAt = some a` for check bits computed over `value` and the logical word
address `a`, `none` for the poison code (R27). `flips` marks the stored bits upset since the word was written, data bits
0 to 63 and check bits 64 to 71. DESIGN CHOICE (log entry 2). -/
structure Stored where
  value : Word
  encodedAt : Option Nat
  flips : BitVec 72
  deriving DecidableEq, Repr

end Sys2Proof
end

