-- ==== Sys2Proof/Config.lean ====
section
/-! DEFINITION. Constants the manual fixes for every part, and the one value it leaves open. -/

namespace Sys2Proof.Config

/-- The outcome and value that the check coder delivers for a stored pattern farther than two bits from every good
encoding (R23: "may decode as any one of the three outcomes", with a value the manual does not fix). `none` is
UNCORRECTABLE, `some (false, v)` CLEAN with v, `some (true, v)` CORRECTED with v. A free value: no body (log entry 2). -/
opaque farDecode : Stored → Nat → Option (Bool × Word)

/-- Words in a line (00 section 3). -/
def wordsPerLine : Nat := 256

/-- Spare lines, the top of physical memory (R47). -/
def spares : Nat := 32

/-- Lines an address can name: 256 MiB of 2 KiB lines (R1). -/
def maxLines : Nat := 131072

/-- Capacity of the processor-port queue (R7). -/
def portDepth : Nat := 8

/-- Capacity of a link's receive buffer (R133, R147). -/
def bufferDepth : Nat := 4

/-- Records the waiting queue takes before records are withheld (R183). -/
def waitingDepth : Nat := 8

/-- Greatest length of the poisoned-lines list and of a need list (R63, R151). -/
def listDepth : Nat := 8

/-- Hail period in ms (R133). -/
def hailMs : Nat := 1

/-- Time in QUIET in ms (R145). -/
def quietMs : Nat := 4

end Sys2Proof.Config
end

