-- ==== Sys2Proof/Syntax.lean ====
section
/-! DEFINITION. The commands of the block: one constructor for each row of spec/opcode_table.json, with the operands the
spec gives the step. -/

namespace Sys2Proof

/-- LINK-1 and LINK-2 (R133). -/
inductive LinkId where
  | link1 | link2
  deriving DecidableEq, Repr

/-- One word of a write transaction: its data and its eight byte enables (R8). -/
structure WriteWord where
  data : Word
  enables : BitVec 8
  deriving DecidableEq, Repr

/-- A processor transaction (R8): direction, byte address of its first word (0 to 512 MiB−1), and 1 to 8 words. -/
inductive Transaction where
  | read (addr : BitVec 29) (count : Nat)
  | write (addr : BitVec 29) (words : List WriteWord)
  deriving DecidableEq, Repr

/-- A step of the part. Argument words are whole 64-bit words (R190, Table 11-6). A reception carries the bytes of the
frame as received, byte 0 first (R136, R189). -/
inductive Instr where
  -- power
  | powerOn
  | resetInput
  -- the processor port
  | transactionAccept (t : Transaction)
  | transactionDecide
  | processorRead
  | processorWrite
  -- the command protocol
  | issueDiscard
  | apertureRegisterWrite (index : Nat) (data : Word) (enables : BitVec 8)
  | unknownCommand (code : Word)
  -- the commands of Table 10-2
  | loadRegion (index base count cls flag : Word)
  | clearRegion (index : Word)
  | setKeys (k1 k2 k3 : Word)
  | setParameter (parameter value : Word)
  | commitTables
  | memInit (first count : Word)
  | proofTest (first count loop : Word)
  | stopTest
  | seal
  | join
  | resume
  | release
  | deferredCommandEffect
  | retireLine (line : Word)
  | eventAck (index : Word)
  | readStatus (page : Word)
  | readCounters (group clear : Word)
  | readEntry (table index : Word)
  | forceFault
  | clearFault
  -- the vote
  | cycleMark
  | voteWindowExpiry
  -- the engines
  | scrubPeriodExpiry
  | scrubStep
  | proofStep
  | initStep
  -- line sparing
  | serveSparePending
  | spareTestStep
  | copyStep
  -- signature, journal, events
  | rebuildStep
  | rollbackStep
  | eventWrite
  -- link timers
  | hailTimerExpiry (l : LinkId)
  | quietTimerExpiry (l : LinkId)
  | silenceTimerExpiry (l : LinkId)
  | beatTimerExpiry (l : LinkId)
  -- receptions
  | hailReceive (l : LinkId) (raw : List Byte)
  | beatReceive (l : LinkId) (raw : List Byte)
  | signReceive (l : LinkId) (raw : List Byte)
  | requestReceive (l : LinkId) (raw : List Byte)
  | acceptReceive (l : LinkId) (raw : List Byte)
  | refuseReceive (l : LinkId) (raw : List Byte)
  | lineReceive (l : LinkId) (raw : List Byte)
  | holdReceive (l : LinkId) (raw : List Byte)
  | goReceive (l : LinkId) (raw : List Byte)
  | closeReceive (l : LinkId) (raw : List Byte)
  | verdictReceive (l : LinkId) (raw : List Byte)
  | abortReceive (l : LinkId) (raw : List Byte)
  -- repair
  | lineCapture
  | receiveWrite
  | joinerVerdict
  | replyTimerExpiry
  | retryTimerExpiry
  | receiveTimerExpiry
  | holdTimerExpiry
  | catchupTimerExpiry
  | verdictTimerExpiry
  deriving DecidableEq, Repr

end Sys2Proof
end

