-- ==== Sys2Proof/Machine/State.lean ====
section
/-! DEFINITION. The state of the part: every register, table, queue, record and output the manual gives it, the queue of
commands, and the values after power-on and the RESET input. -/

namespace Sys2Proof.Machine

/-- A stop with a fault. No meaning raises one: the manual gives every step an effect, and every access that a unit makes
lies in a committed region or the spare pool (R5, R47, R177; log entry 29). -/
inductive Fault
  deriving DecidableEq, Repr

/-- A stop without a meaning. -/
inductive Refusal where
  /-- Raised by an arm of exec whose row has no meaning yet (safe: nothing is claimed of it). No arm raises it now. -/
  | notModelled (mnemonic : String)
  deriving DecidableEq, Repr

/-! ### Names the manual lists -/

/-- Channel identities (00 section 1.1), coded A 1, B 2, C 3 (R188). -/
inductive Identity where
  | a | b | c
  deriving DecidableEq, Repr

/-- The nine channel states (Table 6-1). -/
inductive ChannelState where
  | unconfigured | configured | sealing | sealed | voting | held | out | receiving | halted
  deriving DecidableEq, Repr

/-- Region classes (Table 1-2). -/
inductive RegionClass where
  | vital | plain | fixed | journal | events
  deriving DecidableEq, Repr

/-- Direction of a transaction (R8). -/
inductive Direction where
  | read | write
  deriving DecidableEq, Repr

/-- Reasons of the last-refusal record (R12); NONE is `Option.none`. -/
inductive RefuseAccess where
  | size | unmapped | aperture | class | state | uncorrectable
  deriving DecidableEq, Repr

/-- Event kinds (Table 10-7). -/
inductive EventKind where
  | stateChange | commandDone | lineSuspect | uncorrectable | spareDone | spareBad | sparesExhausted | scrubPass
  | proofResult | initDone | vote | voteUnanimous | rollbackCheck | journalPressure | journalOverflow | linkState
  | configMismatch | peerSkew | repair | accessRefused | summary | internalFault
  deriving DecidableEq, Repr

/-- Causes of a STATE-CHANGE record (Table 6-3). -/
inductive Cause where
  | tables | seal | sealDone | sealAborted | agree | dissent | noMajority | withdrawal | resume | served | join
  | accepted | matched | mismatch | repairAbort | release | record
  deriving DecidableEq, Repr

/-- Requester details of an UNCORRECTABLE record (Table 2-2). -/
inductive ReadBy where
  | processor | scrub | proofTest | copy | capture | receive | rebuild | rollback
  deriving DecidableEq, Repr

/-- Requesters of the memory port (Table 2-4); the spare test, the proof test and the initialise share rank 8. -/
inductive Requester where
  | processor | eventWrite | rollback | receiveWrite | lineCapture | copy | rebuild | spareTest | proof | init | scrub
  deriving DecidableEq, Repr

/-- Refusal codes of a command (R172). -/
inductive RefusalCode where
  | unknownCommand | badArgument | wrongState | engineBusy | tableInvalid
  deriving DecidableEq, Repr

/-- STATUS phases (R172). -/
inductive Phase where
  | idle | busy | done | refused
  deriving DecidableEq, Repr

/-- Commands whose effects wait for the end of the grant under way (R174). -/
inductive Deferred where
  | release | stopTest | commitTables
  deriving DecidableEq, Repr

/-- Frame kinds (Table 8-3). -/
inductive FrameKind where
  | hail | beat | sign | request | accept | refuse | line | hold | go | close | verdict | abort
  deriving DecidableEq, Repr

/-- Reasons of a REFUSE (R157). -/
inductive RefuseReason where
  | busy | notEligible | tooOld
  deriving DecidableEq, Repr

/-- Reasons of an abort (Table 9-5). -/
inductive AbortReason where
  | sourceFault | joinerFault | stalled | noConverge | linkLost | sourceState | released
  deriving DecidableEq, Repr

/-- A joiner's verdict (R167). -/
inductive Verdict where
  | matched | mismatch
  deriving DecidableEq, Repr

/-- How a counted SIGN came (R120). -/
inductive Arrival where
  | direct | relayed
  deriving DecidableEq, Repr

/-- Last vote status of a peer (R125). -/
inductive VoteStatus where
  | agree | dissent | absent
  deriving DecidableEq, Repr

/-- Repair relation of a peer (R151); none is `Option.none`. -/
inductive Relation where
  | sourceOf | joinerOf | joining
  deriving DecidableEq, Repr

/-- Link modes (R134). -/
inductive LinkMode where
  | off | passive | active
  deriving DecidableEq, Repr

/-- Link states (Table 8-1). -/
inductive LinkStatus where
  | down | hailing | mismatch | up | quiet
  deriving DecidableEq, Repr

/-- Causes of leaving UP and of the LINK-STATE record (R141, R144). -/
inductive LinkCause where
  | handshake | silence | restart | modeOff | tables
  deriving DecidableEq, Repr

/-- The rebuild walk's variant (R63). -/
inductive Walk where
  | idle | seal | preparation
  deriving DecidableEq, Repr

/-- Passes of a proof or spare test (R37, R50). -/
inductive Pass where
  | a | b
  deriving DecidableEq, Repr

/-- Phases of a pass (R37, R50). -/
inductive TestPhase where
  | write | read
  deriving DecidableEq, Repr

/-- Proof-test status (Table 2-7). -/
inductive ProofStatus where
  | idle | running | passed | failed | stopped
  deriving DecidableEq, Repr

/-- Fault outcome of a proof test (Table 2-7). -/
inductive FaultOutcome where
  | none | clean | corrected | uncorrectable
  deriving DecidableEq, Repr

/-- Initialise status (R40). -/
inductive InitStatus where
  | idle | running | stopped
  deriving DecidableEq, Repr

/-- Remap entry states with their targets (Table 3-2). -/
inductive RemapEntry where
  | untested
  | ready
  | copying (target : Nat)
  | active (target : Nat)
  | bad
  deriving DecidableEq, Repr

/-- Operations of the line sparing unit (R48). -/
inductive SpareOpKind where
  | idle | testing | copying
  deriving DecidableEq, Repr

/-- Reasons of a rollback (Table 5-3). -/
inductive RollbackReason where
  | dissent | noMajority | withdrawal
  deriving DecidableEq, Repr

/-- Results of a rollback (Table 5-4). -/
inductive RollbackResult where
  | complete | unsigned | checkFailed | broken
  deriving DecidableEq, Repr

/-- Phases of a source role (R151). -/
inductive SourcePhase where
  | pass | catchup | awaitVerdict
  deriving DecidableEq, Repr

/-- Phases of a joiner role (R151). -/
inductive JoinerPhase where
  | preparing | requesting | retryWait | gaveUp | receiving | closing
  deriving DecidableEq, Repr

/-- The outcome of decoding a stored word, with the data delivered, or the raw data for an UNCORRECTABLE word (R23). -/
inductive ReadOutcome where
  | clean (v : Word)
  | corrected (v : Word)
  | uncorrectable (raw : Word)
  deriving DecidableEq, Repr

/-! ### The units -/

/-- The channel's memory: (physical word address, stored word), addresses strictly rising, no entry equal to what an
unlisted address reads as. -/
abbrev Memory := List (Nat × Stored)

/-- The channel state record: every item with its inverted second copy (R95). The stored forms are the 8-bit code of the
state, 32-bit cycle numbers and a 64-bit C. DESIGN CHOICE for the two widths the manual leaves open (log entry 12). -/
structure ChannelRecord where
  state : ChannelState
  counter : Cycle
  committed : Cycle
  c : Nat
  stateInv : BitVec 8
  counterInv : Cycle
  committedInv : Cycle
  cInv : Word
  deriving DecidableEq, Repr

/-- The hold conditions of R19 that applied to the held transaction. -/
structure Hold where
  vote : Bool
  catchup : Bool
  rollback : Bool
  deriving DecidableEq, Repr

/-- The last-refusal record (R12). -/
structure LastRefusal where
  reason : Option RefuseAccess
  addr : BitVec 29
  direction : Direction
  deriving DecidableEq, Repr

/-- The processor port and transaction path (R7, R12, R19). -/
structure PortUnit where
  queue : List Transaction
  held : Option Hold
  lastRefusal : LastRefusal
  refused : Nat
  refusalReported : Bool
  deriving DecidableEq, Repr

/-- The arbiter (R28): the grant under way where the part knows one at a step boundary (log entries 3 and 4). -/
structure Arbiter where
  grant : Option Requester
  deriving DecidableEq, Repr

/-- A region table entry (Table 1-1). -/
structure RegionEntry where
  valid : Bool
  base : Nat
  count : Nat
  cls : RegionClass
  scrub : Bool
  deriving DecidableEq, Repr

/-- The two copies of the region table (R1). -/
structure RegionUnit where
  loaded : List RegionEntry
  committed : List RegionEntry
  deriving DecidableEq, Repr

/-- The check coder's counters (R41). -/
structure ErrorCounters where
  corrected : List Nat
  uncorrectable : Nat
  deriving DecidableEq, Repr

/-- The proof-test record (Table 2-7), with the phase and the position in the range that R37 implies. -/
structure ProofRecord where
  status : ProofStatus
  first : Nat
  count : Nat
  loop : Bool
  loops : Nat
  pass : Pass
  phase : TestPhase
  position : Nat
  faultAddr : Nat
  expected : Word
  found : Word
  outcome : FaultOutcome
  deriving DecidableEq, Repr

/-- The initialise record (R40). -/
structure InitRecord where
  status : InitStatus
  first : Nat
  count : Nat
  written : Nat
  deriving DecidableEq, Repr

/-- The scrub engine (R31). -/
structure ScrubUnit where
  line : Nat
  word : Nat
  passCount : BitVec 32
  allowance : Nat
  proof : ProofRecord
  init : InitRecord
  deriving DecidableEq, Repr

/-- A suspect table entry (Table 3-1). -/
structure Suspect where
  line : Nat
  count : Nat
  recency : Nat
  pending : Bool
  deriving DecidableEq, Repr

/-- The operation record of the line sparing unit (R48). `serving` is the line of the entry being served, which R50 comes
back to when a test ends (log entry 23). -/
structure SpareOp where
  kind : SpareOpKind
  spare : Nat
  pass : Pass
  phase : TestPhase
  word : Nat
  target : Nat
  source : Nat
  cursor : Nat
  serving : Nat
  deriving DecidableEq, Repr

/-- The line sparing unit (R42, R47, R48, R51). -/
structure SpareUnit where
  suspects : List (Option Suspect)
  remap : List RemapEntry
  op : SpareOp
  exhaustionReported : Bool
  deriving DecidableEq, Repr

/-- Three signature keys (R59). -/
structure Keys where
  k1 : Nat
  k2 : Nat
  k3 : Nat
  deriving DecidableEq, Repr

/-- The signature unit (R59, R60, R63). -/
structure SignatureUnit where
  loadedKeys : Keys
  keysSet : Bool
  committedKeys : Keys
  s : Nat
  valid : Bool
  walk : Walk
  cursor : Nat
  acc : Nat
  poisoned : List Nat
  overflow : Bool
  deriving DecidableEq, Repr

/-- The rollback record (R88). -/
structure RollbackRecord where
  rolling : Bool
  reason : Option RollbackReason
  validAtStart : Bool
  tagVoting : BitVec 16
  tagOpen : BitVec 16
  undone : Nat
  deriving DecidableEq, Repr

/-- The journal unit (Table 5-2). -/
structure JournalUnit where
  head : Nat
  boundary : Nat
  tail : Nat
  votingCount : Nat
  openCount : Nat
  votingPresent : Bool
  votingOver : Bool
  openOver : Bool
  pressure : Bool
  rb : RollbackRecord
  deriving DecidableEq, Repr

/-- A parked SIGN (R117). -/
structure Parked where
  cycle : Cycle
  signature : Nat
  arrival : Arrival
  deriving DecidableEq, Repr

/-- A peer table entry (Table 7-1). -/
structure Peer where
  link : Option LinkId
  state : Option ChannelState
  counter : Cycle
  committed : Cycle
  slot : Option Parked
  status : VoteStatus
  arrival : Option Arrival
  relation : Option Relation
  deriving DecidableEq, Repr

/-- The open-vote record (R123). -/
structure VoteRecord where
  isOpen : Bool
  cycle : Cycle
  snapshot : Nat
  window : Option Nat
  expected0 : Bool
  expected1 : Bool
  arrival0 : Option (Nat × Arrival)
  arrival1 : Option (Nat × Arrival)
  deriving DecidableEq, Repr

/-- The vote unit (R117, R122, R123). Entry 0 is the first other identity in identity order. -/
structure VoteUnit where
  record : VoteRecord
  peer0 : Peer
  peer1 : Peer
  skewReported : Bool
  deriving DecidableEq, Repr

/-- A LINE frame in a receive buffer (R133); `late` is the model's own mark of one that came after the CLOSE (R167; log entry
21). -/
structure LineFrame where
  ordinal : Nat
  words : List Word
  late : Bool := false
  deriving DecidableEq, Repr

/-- A cross-channel link (Table 8-1). A timer is stopped, or running with the period in ms it started with. -/
structure Link where
  mode : LinkMode
  status : LinkStatus
  heard : Option Identity
  peer : Option Identity
  hailTimer : Option Nat
  quietTimer : Option Nat
  silenceTimer : Option Nat
  beatTimer : Option Nat
  buffer : List LineFrame
  holdSent : Bool
  peerHolding : Bool
  badFrames : Nat
  discards : Nat
  deriving DecidableEq, Repr

/-- The source role record (R151). -/
structure SourceRole where
  joiner : Identity
  link : LinkId
  base : Option Cycle
  phase : SourcePhase
  cycles : Nat
  linesSent : Nat
  scan : Nat
  captured : Option LineFrame
  holdTimer : Option Nat
  catchupTimer : Option Nat
  verdictTimer : Option Nat
  closeCycle : Cycle
  target : Nat
  deriving DecidableEq, Repr

/-- The joiner role record (R151). `result` and `baseLost` hold what R152 waits for and what R153 says stays (log entry
25). -/
structure JoinerRole where
  phase : JoinerPhase
  base : Option Cycle
  forcedFull : Bool
  baseLost : Bool
  result : Option RollbackResult
  need : List Nat
  retry : Nat
  candidate : Option Identity
  tried : List Identity
  replyTimer : Option Nat
  retryTimer : Option Nat
  receiveTimer : Option Nat
  source : Option Identity
  link : Option LinkId
  linesWritten : Nat
  closeCycle : Cycle
  closeTarget : Nat
  closeLines : Nat
  deriving DecidableEq, Repr

/-- The one role a part may hold (R151). -/
inductive Role where
  | none
  | source (r : SourceRole)
  | joiner (r : JoinerRole)
  deriving DecidableEq, Repr

/-- The repair unit (R150, R151). A map is the rising list of its ordinals; its set count is the list's length. -/
structure RepairUnit where
  dc : List Nat
  dv : List Nat
  dO : List Nat
  r : List Nat
  dcValid : Bool
  role : Role
  deriving DecidableEq, Repr

/-- The parameters (Table 10-3) but the two link modes, which the links hold (R133). -/
structure Params where
  channelId : Option Identity
  memoryLines : Nat
  voteWindow : Nat
  beat : Nat
  silence : Nat
  catchupLines : Nat
  catchupLimit : Nat
  holdLimit : Nat
  repairCycleLimit : Nat
  rejoinRetries : Nat
  rejoinRetry : Nat
  retireThreshold : Nat
  scrubRate : Nat
  pressurePct : Nat
  intMask : Word
  deriving DecidableEq, Repr

/-- The management unit (Table 10-1, R174, R176). -/
structure MgmtUnit where
  area : List Word
  issued : List Word
  results : List Word
  phase : Phase
  code : Option RefusalCode
  command : Word
  overrun : Bool
  digest : BitVec 32
  deferred : Option Deferred
  params : Params
  deriving DecidableEq, Repr

/-- The subject of a record (Table 11-4). -/
inductive Subject where
  | none
  | line (n : Nat)
  | ordinal (n : Nat)
  | word (a : Nat)
  | link (l : LinkId)
  | peer (i : Identity)
  | peers (a b c : Bool)
  | command (code : Nat)
  | region (i : Nat)
  | channelState (st : ChannelState)
  deriving DecidableEq, Repr

/-- An event record as it is handed (R183). `detail` is its code of Table 11-5, 0 if none. -/
structure EventRecord where
  kind : EventKind
  detail : Nat
  state : ChannelState
  cycle : Cycle
  subject : Subject
  value : Word
  deriving DecidableEq, Repr

/-- The event unit (Table 10-6, R127, R187). A set of kinds has bit k for code k. -/
structure EventUnit where
  producer : Nat
  consumer : Nat
  waiting : List EventRecord
  withheld : Word
  kinds : List EventKind
  intBusy : Bool
  intLevel : Bool
  faultLatch : Bool
  health : Bool
  deriving DecidableEq, Repr

/-- The named fields of a frame's payload (Table 11-3). A channel state outside the list is UNKNOWN, `none` (R189). -/
inductive Payload where
  | hail (digest : BitVec 32) (state : Option ChannelState) (counter committed : Cycle)
  | beat (state : Option ChannelState) (counter committed : Cycle)
  | sign (cycle committed : Cycle) (state : Option ChannelState) (signature : Word)
  | request (base : Option Cycle) (need : List (BitVec 32))
  | accept (base : Option Cycle) (initial : BitVec 32)
  | refuse (reason : RefuseReason)
  | line (ordinal : BitVec 32) (words : List Word)
  | hold
  | go
  | close (cycle : Cycle) (lines : BitVec 32) (target : Word)
  | verdict (v : Verdict)
  | abort (reason : AbortReason)
  deriving DecidableEq, Repr

/-- A frame by its named fields (Tables 8-3, 11-2). -/
structure Frame where
  ack : Bool
  mismatch : Bool
  relayed : Bool
  sender : Identity
  originator : Identity
  payload : Payload
  deriving DecidableEq, Repr

/-- The answer to a transaction (R8, R14, R15). -/
inductive Response where
  | data (words : List Word)
  | completion
  | busError
  deriving DecidableEq, Repr

/-- What has left the part: answers at the processor port and frames sent, oldest first. Histories of the MODEL's own
(log entry 11). -/
structure Outputs where
  responses : List Response
  tx1 : List Frame
  tx2 : List Frame
  deriving DecidableEq, Repr

/-- The whole part, its channel's memory, and the commands that are waiting. -/
structure State where
  pending : List Instr
  mem : Memory
  csr : ChannelRecord
  port : PortUnit
  arb : Arbiter
  regions : RegionUnit
  counters : ErrorCounters
  scrub : ScrubUnit
  spare : SpareUnit
  sig : SignatureUnit
  jnl : JournalUnit
  vote : VoteUnit
  link1 : Link
  link2 : Link
  repair : RepairUnit
  mgmt : MgmtUnit
  ev : EventUnit
  out : Outputs
  deriving DecidableEq, Repr

/-! ### Reset values -/

/-- The cleared form of a region entry (R1). -/
def RegionEntry.cleared : RegionEntry := { valid := false, base := 0, count := 0, cls := .plain, scrub := false }

/-- The record in UNCONFIGURED with everything 0; the inverse of code 1 is 0xFE (R95). -/
def ChannelRecord.reset : ChannelRecord :=
  { state := .unconfigured, counter := 0, committed := 0, c := 0
    stateInv := 0xFE, counterInv := 0xFFFFFFFF, committedInv := 0xFFFFFFFF, cInv := 0xFFFFFFFFFFFFFFFF }

/-- R36, R31. -/
def ProofRecord.reset : ProofRecord :=
  { status := .idle, first := 0, count := 0, loop := false, loops := 0, pass := .a, phase := .write, position := 0
    faultAddr := 0, expected := 0, found := 0, outcome := .none }

/-- R40, R31. -/
def InitRecord.reset : InitRecord := { status := .idle, first := 0, count := 0, written := 0 }

/-- R48. -/
def SpareOp.reset : SpareOp :=
  { kind := .idle, spare := 0, pass := .a, phase := .write, word := 0, target := 0, source := 0, cursor := 0
    serving := 0 }

/-- R63. -/
def SignatureUnit.reset : SignatureUnit :=
  { loadedKeys := { k1 := 0, k2 := 0, k3 := 0 }, keysSet := false, committedKeys := { k1 := 0, k2 := 0, k3 := 0 }
    s := 0, valid := false, walk := .idle, cursor := 0, acc := 0, poisoned := [], overflow := false }

/-- R88. -/
def RollbackRecord.reset : RollbackRecord :=
  { rolling := false, reason := none, validAtStart := false, tagVoting := 0, tagOpen := 0, undone := 0 }

/-- The emptied form of R82, rollback record IDLE. -/
def JournalUnit.reset : JournalUnit :=
  { head := 0, boundary := 0, tail := 0, votingCount := 0, openCount := 0, votingPresent := false
    votingOver := false, openOver := false, pressure := false, rb := RollbackRecord.reset }

/-- R117. -/
def Peer.reset : Peer :=
  { link := none, state := none, counter := 0, committed := 0, slot := none, status := .absent, arrival := none
    relation := none }

/-- The cleared form of the open-vote record (R123). -/
def VoteRecord.cleared : VoteRecord :=
  { isOpen := false, cycle := 0, snapshot := 0, window := none, expected0 := false, expected1 := false
    arrival0 := none, arrival1 := none }

/-- R133. -/
def Link.reset : Link :=
  { mode := .active, status := .down, heard := none, peer := none, hailTimer := none, quietTimer := none
    silenceTimer := none, beatTimer := none, buffer := [], holdSent := false, peerHolding := false
    badFrames := 0, discards := 0 }

/-- The defaults of Table 10-3. INT-MASK holds every kind (bits 1 to 22) but SCRUB-PASS (8) and VOTE-UNANIMOUS (12). -/
def Params.reset : Params :=
  { channelId := none, memoryLines := 64, voteWindow := 50, beat := 5, silence := 20, catchupLines := 64
    catchupLimit := 20, holdLimit := 50, repairCycleLimit := 32, rejoinRetries := 3, rejoinRetry := 500
    retireThreshold := 4, scrubRate := 8, pressurePct := 75, intMask := 0x7FEEFE }

/-- R172. -/
def MgmtUnit.reset : MgmtUnit :=
  { area := List.replicate 16 0, issued := List.replicate 16 0, results := List.replicate 16 0, phase := .idle
    code := none, command := 0, overrun := false, digest := 0, deferred := none, params := Params.reset }

/-- R182, R127, R187: the latch is set, HEALTH is low. -/
def EventUnit.reset : EventUnit :=
  { producer := 0, consumer := 0, waiting := [], withheld := 0, kinds := [], intBusy := false, intLevel := false
    faultLatch := true, health := false }

/-- The part right after power-on or the RESET input, with nothing listed in memory and no command waiting. -/
def State.reset : State :=
  { pending := []
    mem := []
    csr := ChannelRecord.reset
    port := { queue := [], held := none, lastRefusal := { reason := none, addr := 0, direction := .read }, refused := 0
              refusalReported := false }
    arb := { grant := none }
    regions := { loaded := List.replicate 16 RegionEntry.cleared, committed := List.replicate 16 RegionEntry.cleared }
    counters := { corrected := List.replicate 16 0, uncorrectable := 0 }
    scrub := { line := 0, word := 0, passCount := 0, allowance := 0, proof := ProofRecord.reset, init := InitRecord.reset }
    spare := { suspects := List.replicate 16 none, remap := List.replicate 32 .untested, op := SpareOp.reset
               exhaustionReported := false }
    sig := SignatureUnit.reset
    jnl := JournalUnit.reset
    vote := { record := VoteRecord.cleared, peer0 := Peer.reset, peer1 := Peer.reset, skewReported := false }
    link1 := Link.reset
    link2 := Link.reset
    repair := { dc := [], dv := [], dO := [], r := [], dcValid := false, role := .none }
    mgmt := MgmtUnit.reset
    ev := EventUnit.reset
    out := { responses := [], tx1 := [], tx2 := [] } }

end Sys2Proof.Machine
end

