-- ==== Sys2Proof/Machine/Operands.lean ====
section
/-! DEFINITION. The coded forms of chapter 11: enumerated codes, argument words, byte order, CRC-32, link frames, event
records, journal entries, region records. -/

namespace Sys2Proof

/-- LINK-1 is 1 and LINK-2 is 2 (Table 11-4). -/
def LinkId.code : LinkId → Nat
  | .link1 => 1 | .link2 => 2

/-- First word address of a transaction: the byte address divided by 8, rounded down (R8). -/
def Transaction.firstWord : Transaction → Nat
  | .read a _ => a.toNat / 8
  | .write a _ => a.toNat / 8

/-- Word count of a transaction. -/
def Transaction.count : Transaction → Nat
  | .read _ n => n
  | .write _ ws => ws.length

def Transaction.direction : Transaction → Machine.Direction
  | .read _ _ => .read
  | .write _ _ => .write

/-- The words of a write that take part: those with an enable set (R15), with their word addresses. -/
def takingPart : Nat → List WriteWord → List (Nat × WriteWord)
  | _, [] => []
  | a, w :: ws => if w.enables = 0 then takingPart (a + 1) ws else (a, w) :: takingPart (a + 1) ws

end Sys2Proof

namespace Sys2Proof.Machine

/-! ### Codes (R188, Table 11-1): the place in the list, counting from 1; 0 is none -/

def ChannelState.code : ChannelState → Nat
  | .unconfigured => 1 | .configured => 2 | .sealing => 3 | .sealed => 4 | .voting => 5 | .held => 6 | .out => 7
  | .receiving => 8 | .halted => 9

/-- R189: a channel state outside 1 to 9 is UNKNOWN. -/
def channelStateOf : Nat → Option ChannelState
  | 1 => some .unconfigured | 2 => some .configured | 3 => some .sealing | 4 => some .sealed | 5 => some .voting
  | 6 => some .held | 7 => some .out | 8 => some .receiving | 9 => some .halted | _ => none

def Identity.code : Identity → Nat
  | .a => 1 | .b => 2 | .c => 3

def identityOf : Nat → Option Identity
  | 1 => some .a | 2 => some .b | 3 => some .c | _ => none

def RegionClass.code : RegionClass → Nat
  | .vital => 1 | .plain => 2 | .fixed => 3 | .journal => 4 | .events => 5

def regionClassOf : Nat → Option RegionClass
  | 1 => some .vital | 2 => some .plain | 3 => some .fixed | 4 => some .journal | 5 => some .events | _ => none

def FrameKind.code : FrameKind → Nat
  | .hail => 1 | .beat => 2 | .sign => 3 | .request => 4 | .accept => 5 | .refuse => 6 | .line => 7 | .hold => 8
  | .go => 9 | .close => 10 | .verdict => 11 | .abort => 12

def EventKind.code : EventKind → Nat
  | .stateChange => 1 | .commandDone => 2 | .lineSuspect => 3 | .uncorrectable => 4 | .spareDone => 5 | .spareBad => 6
  | .sparesExhausted => 7 | .scrubPass => 8 | .proofResult => 9 | .initDone => 10 | .vote => 11 | .voteUnanimous => 12
  | .rollbackCheck => 13 | .journalPressure => 14 | .journalOverflow => 15 | .linkState => 16 | .configMismatch => 17
  | .peerSkew => 18 | .repair => 19 | .accessRefused => 20 | .summary => 21 | .internalFault => 22

def Cause.code : Cause → Nat
  | .tables => 1 | .seal => 2 | .sealDone => 3 | .sealAborted => 4 | .agree => 5 | .dissent => 6 | .noMajority => 7
  | .withdrawal => 8 | .resume => 9 | .served => 10 | .join => 11 | .accepted => 12 | .matched => 13 | .mismatch => 14
  | .repairAbort => 15 | .release => 16 | .record => 17

def ReadBy.code : ReadBy → Nat
  | .processor => 1 | .scrub => 2 | .proofTest => 3 | .copy => 4 | .capture => 5 | .receive => 6 | .rebuild => 7
  | .rollback => 8

/-- Last-refusal reasons, and the details of ACCESS-REFUSED (Tables 11-1, 11-5). -/
def RefuseAccess.code : RefuseAccess → Nat
  | .size => 1 | .unmapped => 2 | .aperture => 3 | .class => 4 | .state => 5 | .uncorrectable => 6

def Direction.code : Direction → Nat
  | .read => 1 | .write => 2

def RefusalCode.code : RefusalCode → Nat
  | .unknownCommand => 1 | .badArgument => 2 | .wrongState => 3 | .engineBusy => 4 | .tableInvalid => 5

def Phase.code : Phase → Nat
  | .idle => 1 | .busy => 2 | .done => 3 | .refused => 4

def RefuseReason.code : RefuseReason → Nat
  | .busy => 1 | .notEligible => 2 | .tooOld => 3

/-- R189: a REFUSE reason outside the list is taken as NOT-ELIGIBLE. -/
def refuseReasonOf : Nat → RefuseReason
  | 1 => .busy | 3 => .tooOld | _ => .notEligible

def AbortReason.code : AbortReason → Nat
  | .sourceFault => 1 | .joinerFault => 2 | .stalled => 3 | .noConverge => 4 | .linkLost => 5 | .sourceState => 6
  | .released => 7

/-- R189: an ABORT reason outside the list is taken as STALLED. -/
def abortReasonOf : Nat → AbortReason
  | 1 => .sourceFault | 2 => .joinerFault | 4 => .noConverge | 5 => .linkLost | 6 => .sourceState | 7 => .released
  | _ => .stalled

def Verdict.code : Verdict → Nat
  | .matched => 1 | .mismatch => 2

/-- R189: a VERDICT other than MATCH is taken as MISMATCH. -/
def verdictOf : Nat → Verdict
  | 1 => .matched | _ => .mismatch

/-- DIRECT is 1 and RELAYED is 2; the arrival NONE of Table 7-1 is 0 (log entry 47). -/
def Arrival.code : Arrival → Nat
  | .direct => 1 | .relayed => 2

/-- Last vote status (Table 7-1): ABSENT has its place in the list, 3 (log entry 47). -/
def VoteStatus.code : VoteStatus → Nat
  | .agree => 1 | .dissent => 2 | .absent => 3

/-- SOURCE-OF is 1; the relation none of Table 7-1 is 0 (log entry 47). -/
def Relation.code : Relation → Nat
  | .sourceOf => 1 | .joinerOf => 2 | .joining => 3

def LinkMode.code : LinkMode → Nat
  | .off => 1 | .passive => 2 | .active => 3

def linkModeOf : Nat → Option LinkMode
  | 1 => some .off | 2 => some .passive | 3 => some .active | _ => none

def LinkStatus.code : LinkStatus → Nat
  | .down => 1 | .hailing => 2 | .mismatch => 3 | .up => 4 | .quiet => 5

def LinkCause.code : LinkCause → Nat
  | .handshake => 1 | .silence => 2 | .restart => 3 | .modeOff => 4 | .tables => 5

def Walk.code : Walk → Nat
  | .idle => 1 | .seal => 2 | .preparation => 3

def Pass.code : Pass → Nat
  | .a => 1 | .b => 2

def TestPhase.code : TestPhase → Nat
  | .write => 1 | .read => 2

def ProofStatus.code : ProofStatus → Nat
  | .idle => 1 | .running => 2 | .passed => 3 | .failed => 4 | .stopped => 5

def FaultOutcome.code : FaultOutcome → Nat
  | .none => 1 | .clean => 2 | .corrected => 3 | .uncorrectable => 4

def InitStatus.code : InitStatus → Nat
  | .idle => 1 | .running => 2 | .stopped => 3

def RemapEntry.code : RemapEntry → Nat
  | .untested => 1 | .ready => 2 | .copying _ => 3 | .active _ => 4 | .bad => 5

def SpareOpKind.code : SpareOpKind → Nat
  | .idle => 1 | .testing => 2 | .copying => 3

def SourcePhase.code : SourcePhase → Nat
  | .pass => 1 | .catchup => 2 | .awaitVerdict => 3

def JoinerPhase.code : JoinerPhase → Nat
  | .preparing => 1 | .requesting => 2 | .retryWait => 3 | .gaveUp => 4 | .receiving => 5 | .closing => 6

/-- A flag is 1 when set and 0 when clear (R188). -/
def flagCode (b : Bool) : Nat := if b then 1 else 0

/-- A code of an item that may be absent: 0 for none (R188). -/
def optCode {α : Type} (f : α → Nat) : Option α → Nat
  | none => 0
  | some x => f x

/-- A result word. -/
def wordOf (n : Nat) : Word := BitVec.ofNat 64 n

/-- A cycle number that may be none is 2^32 when it is none (R188). -/
def cycleWord : Option Cycle → Word
  | none => wordOf 4294967296
  | some n => wordOf n.toNat

/-- A flag argument: any value other than 0 is set (R188). -/
def flagArg (w : Word) : Bool := decide (w.toNat ≠ 0)

/-- The bit set of identities: bit k for code k (R188). -/
def peerSetCode (a b c : Bool) : Nat := 2 * flagCode a + 4 * flagCode b + 8 * flagCode c

/-- The set with the one kind, bit k for code k (R188). -/
def kindBit (k : EventKind) : Word := (1 : Word) <<< k.code

/-- Whether a set of kinds holds a kind. -/
def kindIn (k : EventKind) (m : Word) : Bool := m.getLsbD k.code

/-! ### Command codes (Table 10-2 in row order, R188) -/

def codeLoadRegion : Nat := 1
def codeClearRegion : Nat := 2
def codeSetKeys : Nat := 3
def codeSetParameter : Nat := 4
def codeCommitTables : Nat := 5
def codeMemInit : Nat := 6
def codeProofTest : Nat := 7
def codeStopTest : Nat := 8
def codeSeal : Nat := 9
def codeJoin : Nat := 10
def codeResume : Nat := 11
def codeRelease : Nat := 12
def codeRetireLine : Nat := 13
def codeEventAck : Nat := 14
def codeReadStatus : Nat := 15
def codeReadCounters : Nat := 16
def codeReadEntry : Nat := 17
def codeForceFault : Nat := 18
def codeClearFault : Nat := 19

/-! ### Byte order (R188) and CRC-32 (00 section 4.6) -/

/-- The `k` least significant bytes of `n`, least significant first. -/
def leBytes : Nat → Nat → List Byte
  | 0, _ => []
  | k + 1, n => BitVec.ofNat 8 n :: leBytes k (n / 256)

/-- The number whose bytes these are, least significant first. -/
def leNat : List Byte → Nat
  | [] => 0
  | b :: bs => b.toNat + 256 * leNat bs

/-- One bit of the reflected CRC-32: the reflection of 0x04C11DB7 is 0xEDB88320. -/
def crcBit (c : Nat) : Nat := if c % 2 = 1 then (c / 2) ^^^ 0xEDB88320 else c / 2

/-- One byte of the reflected CRC-32. -/
def crcByte (c : Nat) (b : Byte) : Nat :=
  crcBit (crcBit (crcBit (crcBit (crcBit (crcBit (crcBit (crcBit (c ^^^ b.toNat))))))))

/-- CRC-32: input and output reflected, initial value all ones, result inverted. -/
def crc32 (bs : List Byte) : Nat := (bs.foldl crcByte 0xFFFFFFFF) ^^^ 0xFFFFFFFF

/-! ### Link frames (R189) -/

def Payload.kind : Payload → FrameKind
  | .hail _ _ _ _ => .hail
  | .beat _ _ _ => .beat
  | .sign _ _ _ _ => .sign
  | .request _ _ => .request
  | .accept _ _ => .accept
  | .refuse _ => .refuse
  | .line _ _ => .line
  | .hold => .hold
  | .go => .go
  | .close _ _ _ => .close
  | .verdict _ => .verdict
  | .abort _ => .abort

def Frame.kind (f : Frame) : FrameKind := f.payload.kind

/-- The base flag and base cycle of REQUEST and ACCEPT: cycle 0 when none (Table 11-3). -/
def baseFlag : Option Cycle → Nat
  | none => 0
  | some _ => 1

def baseCycle : Option Cycle → Nat
  | none => 0
  | some n => n.toNat

/-- Payload bytes (Table 11-3). -/
def Payload.bytes : Payload → List Byte
  | .hail d st k n => leBytes 4 d.toNat ++ (leBytes 4 (optCode ChannelState.code st) ++ (leBytes 4 k.toNat ++ leBytes 4 n.toNat))
  | .beat st k n => leBytes 4 (optCode ChannelState.code st) ++ (leBytes 4 k.toNat ++ leBytes 4 n.toNat)
  | .sign k n st sg =>
    leBytes 4 k.toNat ++ (leBytes 4 n.toNat ++ (leBytes 8 (optCode ChannelState.code st) ++ leBytes 8 sg.toNat))
  | .request b need =>
    leBytes 1 (baseFlag b) ++ (leBytes 3 need.length ++ (leBytes 4 (baseCycle b) ++ need.flatMap (fun o => leBytes 4 o.toNat)))
  | .accept b n => leBytes 4 (baseFlag b) ++ (leBytes 4 (baseCycle b) ++ leBytes 4 n.toNat)
  | .refuse r => leBytes 4 r.code
  | .line o ws => leBytes 4 o.toNat ++ ws.flatMap (fun w => leBytes 8 w.toNat)
  | .hold => []
  | .go => []
  | .close k n t => leBytes 4 k.toNat ++ (leBytes 4 n.toNat ++ leBytes 8 t.toNat)
  | .verdict v => leBytes 4 v.code
  | .abort r => leBytes 4 r.code

/-- The flags byte: bit 0 ACK, bit 1 MISMATCH, bit 2 RELAYED (Table 11-2). -/
def Frame.flagsByte (f : Frame) : Nat := flagCode f.ack + 2 * flagCode f.mismatch + 4 * flagCode f.relayed

/-- Header and payload, the bytes the CRC covers (R189, Table 11-2). -/
def Frame.body (f : Frame) : List Byte :=
  leBytes 1 f.kind.code ++ (leBytes 1 f.flagsByte ++ (leBytes 1 f.sender.code ++ (leBytes 1 f.originator.code ++
    (leBytes 2 f.payload.bytes.length ++ (leBytes 2 0 ++ f.payload.bytes)))))

/-- The bytes of a frame on the wire (R189): header, payload, CRC-32. -/
def Frame.bytes (f : Frame) : List Byte := f.body ++ leBytes 4 (crc32 f.body)

/-- Bytes `i` to `i + k − 1` of a list as a number. -/
def fieldAt (bs : List Byte) (i k : Nat) : Nat := leNat ((bs.drop i).take k)

/-- Split a list of bytes into `k` numbers of `w` bytes each. -/
def fields (w : Nat) : Nat → List Byte → List Nat
  | 0, _ => []
  | k + 1, bs => leNat (bs.take w) :: fields w k (bs.drop w)

/-- The base that a flag and a cycle name: a flag other than 0 names the cycle (R189). -/
def baseOf (flag cycle : Nat) : Option Cycle := if flag = 0 then none else some (BitVec.ofNat 32 cycle)

/-- The payload of a kind read from its bytes, `none` when its length is not the one of Table 11-3 (check 3 of R136) or
the kind is none of the twelve (check 2). -/
def parsePayload (kind : Nat) (bs : List Byte) : Option Payload :=
  match kind with
  | 1 => if bs.length = 16 then
      some (.hail (BitVec.ofNat 32 (fieldAt bs 0 4)) (channelStateOf (fieldAt bs 4 1)) (BitVec.ofNat 32 (fieldAt bs 8 4))
        (BitVec.ofNat 32 (fieldAt bs 12 4))) else none
  | 2 => if bs.length = 12 then
      some (.beat (channelStateOf (fieldAt bs 0 1)) (BitVec.ofNat 32 (fieldAt bs 4 4)) (BitVec.ofNat 32 (fieldAt bs 8 4)))
      else none
  | 3 => if bs.length = 24 then
      some (.sign (BitVec.ofNat 32 (fieldAt bs 0 4)) (BitVec.ofNat 32 (fieldAt bs 4 4)) (channelStateOf (fieldAt bs 8 1))
        (BitVec.ofNat 64 (fieldAt bs 16 8))) else none
  | 4 => if fieldAt bs 1 1 ≤ 8 ∧ bs.length = 8 + 4 * fieldAt bs 1 1 then
      some (.request (baseOf (fieldAt bs 0 1) (fieldAt bs 4 4))
        ((fields 4 (fieldAt bs 1 1) (bs.drop 8)).map (BitVec.ofNat 32))) else none
  | 5 => if bs.length = 12 then
      some (.accept (baseOf (fieldAt bs 0 1) (fieldAt bs 4 4)) (BitVec.ofNat 32 (fieldAt bs 8 4))) else none
  | 6 => if bs.length = 4 then some (.refuse (refuseReasonOf (fieldAt bs 0 1))) else none
  | 7 => if bs.length = 2052 then
      some (.line (BitVec.ofNat 32 (fieldAt bs 0 4)) ((fields 8 256 (bs.drop 4)).map (BitVec.ofNat 64))) else none
  | 8 => if bs.length = 0 then some .hold else none
  | 9 => if bs.length = 0 then some .go else none
  | 10 => if bs.length = 16 then
      some (.close (BitVec.ofNat 32 (fieldAt bs 0 4)) (BitVec.ofNat 32 (fieldAt bs 4 4)) (BitVec.ofNat 64 (fieldAt bs 8 8)))
      else none
  | 11 => if bs.length = 4 then some (.verdict (verdictOf (fieldAt bs 0 1))) else none
  | 12 => if bs.length = 4 then some (.abort (abortReasonOf (fieldAt bs 0 1))) else none
  | _ => none

/-- The flags a kind uses; a flag that Table 8-3 does not give for the kind is ignored (R136). -/
def keptFlags (kind flags : Nat) : Bool × Bool × Bool :=
  (decide (kind = 1) && Nat.testBit flags 0, decide (kind = 1) && Nat.testBit flags 1,
    decide (kind = 3) && Nat.testBit flags 2)

/-- Check 4 of R136: the originator equals the sender, but for a relayed SIGN, where it must differ. -/
def identitiesFit (relayed : Bool) (sender originator : Identity) : Bool :=
  if relayed then decide (originator ≠ sender) else decide (originator = sender)

/-- The four checks of R136 on the bytes of a frame as received: CRC, kind, length, identities. `none` when one fails. -/
def checkFrame (raw : List Byte) : Option Frame :=
  if raw.length < 12 then none
  else
    let body := raw.take (raw.length - 4)
    if crc32 body ≠ leNat (raw.drop (raw.length - 4)) then none
    else if fieldAt body 4 2 ≠ (body.drop 8).length then none
    else
      match parsePayload (fieldAt body 0 1) (body.drop 8), identityOf (fieldAt body 2 1), identityOf (fieldAt body 3 1) with
      | some pl, some sd, some og =>
        let fl := keptFlags (fieldAt body 0 1) (fieldAt body 1 1)
        if identitiesFit fl.2.2 sd og then
          some { ack := fl.1, mismatch := fl.2.1, relayed := fl.2.2, sender := sd, originator := og, payload := pl }
        else none
      | _, _, _ => none

/-- The frames a part can send: lengths of Table 11-3, flags of Table 8-3, identities of R136. -/
def Frame.wellFormed (f : Frame) : Bool :=
  (match f.payload with
    | .request _ need => decide (need.length ≤ 8)
    | .line _ ws => decide (ws.length = 256)
    | _ => true) &&
  (match f.payload with
    | .hail _ _ _ _ => !f.relayed
    | .sign _ _ _ _ => !f.ack && !f.mismatch
    | _ => !f.ack && !f.mismatch && !f.relayed) &&
  identitiesFit f.relayed f.sender f.originator

/-! ### Event record, journal entry, region record (R190) -/

/-- Subject type and subject (Table 11-4). -/
def Subject.type : Subject → Nat
  | .none => 0 | .line _ => 1 | .ordinal _ => 2 | .word _ => 3 | .link _ => 4 | .peer _ => 5 | .peers _ _ _ => 6
  | .command _ => 7 | .region _ => 8 | .channelState _ => 9

def Subject.code : Subject → Nat
  | .none => 0 | .line n => n | .ordinal n => n | .word a => a | .link l => l.code | .peer i => i.code
  | .peers a b c => peerSetCode a b c | .command n => n | .region i => i | .channelState st => st.code

/-- The four words of a record (Table 11-4): kind, detail, channel state and subject type in bytes 0 to 3, cycle in 4 to 7;
subject; value; zero. -/
def EventRecord.words (e : EventRecord) : List Word :=
  [ wordOf (e.kind.code + 0x100 * e.detail + 0x10000 * e.state.code + 0x1000000 * e.subject.type
      + 0x100000000 * e.cycle.toNat),
    wordOf e.subject.code, e.value, 0 ]

/-- The first word of a journal entry: word address in bits 0 to 24, cycle tag in bits 32 to 47 (R190). -/
def journalWord (a : Nat) (tag : BitVec 16) : Word := wordOf (a % 33554432 + 4294967296 * tag.toNat)

def journalAddr (w : Word) : Nat := w.toNat % 33554432

def journalTag (w : Word) : BitVec 16 := BitVec.ofNat 16 (w.toNat / 4294967296)

/-- A region record of the digest, 16 bytes (R190). An invalid entry enters in its cleared form (R178). -/
def RegionEntry.bytes (e : RegionEntry) : List Byte :=
  let x := if e.valid then e else RegionEntry.cleared
  leBytes 4 x.base ++ (leBytes 4 x.count ++ (leBytes 1 x.cls.code ++ (leBytes 1 (flagCode x.scrub) ++
    leBytes 6 (flagCode x.valid))))

/-- The configuration digest (R178): CRC-32 over the 16 region records and the three keys. -/
def digestOf (table : List RegionEntry) (k : Keys) : BitVec 32 :=
  BitVec.ofNat 32 (crc32 (table.flatMap RegionEntry.bytes ++ (leBytes 8 k.k1 ++ (leBytes 8 k.k2 ++ leBytes 8 k.k3))))

/-! ### Words with byte enables (R8, R15) -/

/-- Every lane of `old` whose enable is set replaced by the lane of `new` (R8: enable i is lane i, data bits 8i to 8i+7). -/
def mergeLanes (enables : BitVec 8) (new old : Word) : Word :=
  let lane (i : Nat) : Nat := (if enables.getLsbD i then new.toNat / 2 ^ (8 * i) % 256 else old.toNat / 2 ^ (8 * i) % 256) * 2 ^ (8 * i)
  wordOf (lane 0 + lane 1 + lane 2 + lane 3 + lane 4 + lane 5 + lane 6 + lane 7)

/-- The byte address recorded for a word: the low three bits are ignored (R8; log entry 14). -/
def byteAddr (a : Nat) : BitVec 29 := BitVec.ofNat 29 (8 * a)

/-- Argument word `i` of the issued copy (R172: word 0 is the code, words 1 to 15 the arguments). -/
def MgmtUnit.arg (m : MgmtUnit) (i : Nat) : Word := m.issued.getD i 0

/-- Result words: the given ones first, the rest 0 (R173, R174). -/
def resultWords (ws : List Word) : List Word := (ws ++ List.replicate 16 0).take 16

end Sys2Proof.Machine
end

