-- ==== Sys2Proof/Machine/Flags.lean ====
section
/-! DEFINITION. What the part computes from its state: classes of lines, vital ordinals, the flags and levels that are
functions of other state (frozen table, FAULT output, broken and full journal, occupancy of the event ring). -/

namespace Sys2Proof.Machine

/-! ### Region table (R1, R2, R5, R6, R32) -/

/-- A valid entry holds the lines from its base, its count of them. -/
def RegionEntry.holds (e : RegionEntry) (l : Nat) : Bool := e.valid && decide (e.base ≤ l ∧ l < e.base + e.count)

/-- The index and entry of the region a logical line lies in. -/
def findRegion : List RegionEntry → Nat → Nat → Option (Nat × RegionEntry)
  | [], _, _ => none
  | e :: es, i, l => if e.holds l then some (i, e) else findRegion es (i + 1) l

/-- The region of a logical line in the committed table (R1). -/
def regionOf (s : State) (l : Nat) : Option (Nat × RegionEntry) := findRegion s.regions.committed 0 l

/-- The class of a logical line in the committed table. -/
def classOf (s : State) (l : Nat) : Option RegionClass := (regionOf s l).map (fun x => x.2.cls)

/-- The first valid entry of a class, with its index. -/
def findClass : List RegionEntry → Nat → RegionClass → Option (Nat × RegionEntry)
  | [], _, _ => none
  | e :: es, i, c => if e.valid && decide (e.cls = c) then some (i, e) else findClass es (i + 1) c

/-- Whether an entry is a valid VITAL entry. -/
def RegionEntry.isVital (e : RegionEntry) : Bool := e.valid && decide (e.cls = .vital)

/-- Lines of the valid VITAL entries whose base lies below `b` (R5). -/
def vitalBelow : List RegionEntry → Nat → Nat
  | [], _ => 0
  | e :: es, b => (if e.isVital && decide (e.base < b) then e.count else 0) + vitalBelow es b

/-- V, the number of vital lines (R5). -/
def vitalLines : List RegionEntry → Nat
  | [] => 0
  | e :: es => (if e.isVital then e.count else 0) + vitalLines es

/-- The vital ordinal of a logical line (R5, R6). -/
def ordinalOf (t : List RegionEntry) (l : Nat) : Option Nat :=
  match findRegion t 0 l with
  | some (_, e) => if e.cls = .vital then some (vitalBelow t e.base + (l - e.base)) else none
  | none => none

/-- The logical line of a vital ordinal among the entries still to look at (R6). -/
def lineOfGo (t : List RegionEntry) : List RegionEntry → Nat → Option Nat
  | [], _ => none
  | e :: es, o =>
    if e.isVital && decide (vitalBelow t e.base ≤ o ∧ o < vitalBelow t e.base + e.count) then
      some (e.base + (o - vitalBelow t e.base))
    else lineOfGo t es o

/-- The logical line of a vital ordinal; an ordinal from V up maps to no line (R6). -/
def lineOf (t : List RegionEntry) (o : Nat) : Option Nat := lineOfGo t t o

/-- V of the committed table. -/
def numVital (s : State) : Nat := vitalLines s.regions.committed

/-- Entries whose lines the scrub walk covers (R3, R32). -/
def RegionEntry.covered (e : RegionEntry) : Bool :=
  e.valid && (match e.cls with
    | .vital => true
    | .journal => true
    | .events => true
    | .plain => e.scrub
    | .fixed => e.scrub)

/-- The lowest covered line from `l` up. -/
def nextCovered : List RegionEntry → Nat → Option Nat
  | [], _ => none
  | e :: es, l =>
    if e.covered && decide (max e.base l < e.base + e.count) then
      some (match nextCovered es l with
        | some m => min m (max e.base l)
        | none => max e.base l)
    else nextCovered es l

/-- Whether every line of a range lies in a valid region that is not EVENTS (R36 check 3). -/
def rangeTestable (s : State) : Nat → Nat → Bool
  | _, 0 => true
  | l, n + 1 =>
    (match classOf s l with
      | none => false
      | some c => decide (c ≠ .events)) && rangeTestable s (l + 1) n

/-! ### Channel state (R4, R66, R112) -/

/-- SEALED, VOTING or HELD: the states in which S is valid (R66) and from which a channel withdraws (R26). -/
def ChannelState.signed : ChannelState → Bool
  | .sealed => true
  | .voting => true
  | .held => true
  | _ => false

/-- SEALED or VOTING: the states in which vital writes are journaled (R17) and marks are taken (R114). -/
def ChannelState.marking : ChannelState → Bool
  | .sealed => true
  | .voting => true
  | _ => false

/-- UNCONFIGURED or CONFIGURED: the states in which tables may be loaded (R4). -/
def ChannelState.loading : ChannelState → Bool
  | .unconfigured => true
  | .configured => true
  | _ => false

/-- The frozen-table flag (R4). -/
def frozenTable (s : State) : Bool := !s.csr.state.loading

/-- The FAULT output (R112, R187). -/
def faultLevel (s : State) : Bool := s.ev.faultLatch || decide (s.csr.state ≠ .voting)

/-- The open cycle: the cycle counter plus 1 modulo 2^32 (R113). -/
def openCycle (s : State) : Cycle := s.csr.counter + 1

/-- How far a cycle number is ahead of another, modulo 2^32 (R113). -/
def aheadBy (m k : Cycle) : Nat := (m - k).toNat

/-- m is ahead of k (R113). -/
def isAhead (m k : Cycle) : Bool := decide (1 ≤ aheadBy m k ∧ aheadBy m k ≤ 2147483647)

/-! ### Engines, journal, events -/

/-- A proof test or initialise of the scrub engine runs (R39). -/
def engineRunning (s : State) : Bool := decide (s.scrub.proof.status = .running) || decide (s.scrub.init.status = .running)

/-- The JOURNAL entry and its table index (R80). -/
def journalEntry (s : State) : Option (Nat × RegionEntry) := findClass s.regions.committed 0 .journal

/-- The table index of the JOURNAL entry, the subject of journal records (R84, R85, R91). -/
def journalIndex (s : State) : Nat := match journalEntry s with
  | some (i, _) => i
  | none => 16

/-- The capacity of the journal ring: 128 entries a line (R80). It is 0 while no committed entry is of class JOURNAL: DESIGN
CHOICE, log entry 54. -/
def journalCapacity (s : State) : Nat := match journalEntry s with
  | some (_, e) => e.count * 128
  | none => 0

/-- Word address of the first word of journal entry `i` (R80). -/
def journalSlot (s : State) (i : Nat) : Nat := match journalEntry s with
  | some (_, e) => (e.base + i / 128) * 256 + 2 * (i % 128)
  | none => 0

/-- Entries held: voting count plus open count (R81). -/
def JournalUnit.entries (j : JournalUnit) : Nat := j.votingCount + j.openCount

/-- The journal is broken when either overflowed flag is set (R81). -/
def JournalUnit.broken (j : JournalUnit) : Bool := j.votingOver || j.openOver

/-- The pressure level (R85). -/
def pressureLevel (s : State) : Nat := journalCapacity s * s.mgmt.params.pressurePct / 100

/-- The journal unit is rolling back. -/
def rolling (s : State) : Bool := s.jnl.rb.rolling

/-- The EVENTS entry (R182). -/
def eventsEntry (s : State) : Option (Nat × RegionEntry) := findClass s.regions.committed 0 .events

/-- The capacity of the event ring: 64 records a line (R182). It is 0 while no committed entry is of class EVENTS: DESIGN
CHOICE, log entry 54. -/
def eventCapacity (s : State) : Nat := match eventsEntry s with
  | some (_, e) => e.count * 64
  | none => 0

/-- Word address of the first word of record `i` (R182). -/
def eventSlot (s : State) (i : Nat) : Nat := match eventsEntry s with
  | some (_, e) => (e.base + i / 64) * 256 + 4 * (i % 64)
  | none => 0

/-- Ring distance from `a` up to `b` modulo the capacity. -/
def ringDistance (b a cap : Nat) : Nat := (b + cap - a) % cap

/-- Unacknowledged records (R182). -/
def unacknowledged (s : State) : Nat := ringDistance s.ev.producer s.ev.consumer (eventCapacity s)

/-- Occupancy: unacknowledged records and records in the waiting queue (R182). -/
def occupancy (s : State) : Nat := unacknowledged s + s.ev.waiting.length

/-! ### Peers and links -/

/-- The two other identities in identity order (R117). -/
def otherIds : Option Identity → Option (Identity × Identity)
  | some .a => some (.b, .c)
  | some .b => some (.a, .c)
  | some .c => some (.a, .b)
  | none => none

/-- Which peer table entry is a given identity's: 0 is `false`, 1 is `true` (R117, R180). -/
def peerSlot (s : State) (i : Identity) : Option Bool :=
  match otherIds s.mgmt.params.channelId with
  | some (x, y) => if i = x then some false else if i = y then some true else none
  | none => none

/-- The identity of a peer table entry. -/
def peerId (s : State) (k : Bool) : Option Identity :=
  (otherIds s.mgmt.params.channelId).map (fun x => if k then x.2 else x.1)

def getPeer (s : State) (k : Bool) : Peer := if k then s.vote.peer1 else s.vote.peer0

def getLink (s : State) : LinkId → Link
  | .link1 => s.link1
  | .link2 => s.link2

def otherLink : LinkId → LinkId
  | .link1 => .link2
  | .link2 => .link1

/-- The silence time: the larger of SILENCE-MS and twice BEAT-MS (R142). -/
def silenceTime (s : State) : Nat := max s.mgmt.params.silence (2 * s.mgmt.params.beat)

/-- This channel, as repair source, is in catch-up (R163). -/
def inCatchup (s : State) : Bool := match s.repair.role with
  | .source r => decide (r.phase = .catchup)
  | _ => false

/-- The joiner role is in RECEIVING or CLOSING (R165). -/
def JoinerRole.receiving (j : JoinerRole) : Bool := decide (j.phase = .receiving) || decide (j.phase = .closing)

/-- The link whose LINE frames the joiner writes (R165). -/
def receivingLink (s : State) : Option LinkId := match s.repair.role with
  | .joiner j => if j.receiving then j.link else none
  | _ => none

end Sys2Proof.Machine
end

