-- ==== Sys2Proof/Machine/Ops.lean ====
section
/-! DEFINITION. The named operations over memory, records, the channel state record, peers, links and the suspect table.
Every meaning is built from them. -/

namespace Sys2Proof.Machine

/-! ### Channel memory -/

/-- What an unlisted physical word reads as: zero with good check bits for its own address. DESIGN CHOICE (log entry 1). -/
def Memory.unlisted (a : Nat) : Stored := { value := 0, encodedAt := some a, flips := 0 }

/-- The stored word at a physical word address. -/
def Memory.read : Memory → Nat → Stored
  | [], a => Memory.unlisted a
  | (b, x) :: m, a => if b = a then x else Memory.read m a

/-- Store a word at a physical word address, keeping the canonical form. -/
def Memory.write : Memory → Nat → Stored → Memory
  | [], a, w => if w = Memory.unlisted a then [] else [(a, w)]
  | (b, x) :: m, a, w =>
    if a < b then (if w = Memory.unlisted a then (b, x) :: m else (a, w) :: (b, x) :: m)
    else if a = b then (if w = Memory.unlisted a then m else (a, w) :: m)
    else (b, x) :: Memory.write m a w

/-- Every address of a memory lies above `a`. -/
def Memory.above (a : Nat) : Memory → Bool
  | [] => true
  | (b, _) :: _ => decide (a < b)

/-- The canonical form: addresses strictly rising, no entry equal to what an unlisted address reads as. -/
def Memory.wf : Memory → Bool
  | [] => true
  | (a, w) :: m => decide (w ≠ Memory.unlisted a) && Memory.above a m && Memory.wf m

/-- Data with good check bits for a logical address (R22). -/
def goodWord (a : Nat) (v : Word) : Stored := { value := v, encodedAt := some a, flips := 0 }

/-- The poison code over raw data (R22, R27). -/
def poisonWord (raw : Word) : Stored := { value := raw, encodedAt := none, flips := 0 }

/-- The stored 64 data bits as read, the raw data of R23. -/
def rawData (w : Stored) : Word := w.value ^^^ BitVec.ofNat 64 w.flips.toNat

/-- How many of the 72 stored bits are upset. -/
def flipCount (w : Stored) : Nat := (List.range 72).countP (fun i => w.flips.getLsbD i)

/-- The outcome for a pattern farther than two bits from every good encoding: free (R23, log entry 2). -/
def farOutcome (w : Stored) (a : Nat) : ReadOutcome :=
  match Config.farDecode w a with
  | none => .uncorrectable (rawData w)
  | some (false, v) => .clean v
  | some (true, v) => .corrected v

/-- Decode a stored word read for logical word address `a` (Table 2-1). -/
def decodeStored (w : Stored) (a : Nat) : ReadOutcome :=
  match w.encodedAt with
  | none => if flipCount w ≤ 1 then .uncorrectable (rawData w) else farOutcome w a
  | some b =>
    if b = a then
      match flipCount w with
      | 0 => .clean w.value
      | 1 => .corrected w.value
      | 2 => .uncorrectable (rawData w)
      | _ => farOutcome w a
    else if flipCount w ≤ 1 then .uncorrectable (rawData w) else farOutcome w a

/-- The value a requester may use: CLEAN and CORRECTED deliver one (R23). -/
def ReadOutcome.value : ReadOutcome → Option Word
  | .clean v => some v
  | .corrected v => some v
  | .uncorrectable _ => none

/-! ### Placement (R13, R47, R54, R56) -/

/-- The physical line of spare `i` (R47). -/
def spareLine (s : State) (i : Nat) : Nat := s.mgmt.params.memoryLines - Config.spares + i

/-- The spare whose entry a test accepts first, from index `i` on. -/
def findRemap (f : RemapEntry → Bool) : List RemapEntry → Nat → Option Nat
  | [], _ => none
  | e :: es, i => if f e then some i else findRemap f es (i + 1)

/-- The spare that serves a logical line (ACTIVE, R56). -/
def activeSpare (s : State) (l : Nat) : Option Nat := findRemap (fun e => decide (e = .active l)) s.spare.remap 0

/-- The spare into which a logical line is being copied (COPYING, R54). -/
def copyingSpare (s : State) (l : Nat) : Option Nat := findRemap (fun e => decide (e = .copying l)) s.spare.remap 0

/-- The physical line that a logical line is read from (R13): the source of a copy, the spare of an ACTIVE entry, or the
line of the same index. -/
def readLine (s : State) (l : Nat) : Nat :=
  match copyingSpare s l with
  | some _ => s.spare.op.source
  | none => match activeSpare s l with
    | some i => spareLine s i
    | none => l

/-- The physical word that a logical word is read from and written back to. -/
def readPlace (s : State) (a : Nat) : Nat := readLine s (a / 256) * 256 + a % 256

/-- The second physical word of the write-both rule, for a word below the copy cursor (R54). -/
def secondPlace (s : State) (a : Nat) : Option Nat :=
  match copyingSpare s (a / 256) with
  | some i => if a % 256 < s.spare.op.cursor then some (spareLine s i * 256 + a % 256) else none
  | none => none

/-- The stored word of a logical word. -/
def storedAt (s : State) (a : Nat) : Stored := s.mem.read (readPlace s a)

/-- Write a stored word at a physical word address. -/
def poke (a : Nat) (w : Stored) (s : State) : State := { s with mem := s.mem.write a w }

/-- Write a value to a logical word, with fresh check bits for its logical address, in both places of a line that is being
copied (R13, R22, R54). -/
def writeWord (a : Nat) (v : Word) (s : State) : State :=
  let s1 := poke (readPlace s a) (goodWord a v) s
  match secondPlace s a with
  | some b => poke b (goodWord a v) s1
  | none => s1

/-- Write values to logical words, in order. -/
def writeWords : List (Nat × Word) → State → State
  | [], s => s
  | (a, v) :: ws, s => writeWords ws (writeWord a v s)

/-! ### Records (R183) -/

/-- Act on a record as it is handed: dropped in UNCONFIGURED, withheld when there is no room, else queued (R183). -/
def handRecord (e : EventRecord) (s : State) : State :=
  if s.csr.state = .unconfigured then s
  else if eventCapacity s - 1 ≤ occupancy s ∨ Config.waitingDepth ≤ s.ev.waiting.length then
    { s with ev.withheld := s.ev.withheld ||| kindBit e.kind }
  else { s with ev.waiting := s.ev.waiting ++ [e] }

/-- Hand a record that names its own cycle (R130). -/
def handAt (k : EventKind) (detail : Nat) (subj : Subject) (v : Word) (cyc : Cycle) (s : State) : State :=
  handRecord { kind := k, detail := detail, state := s.csr.state, cycle := cyc, subject := subj, value := v } s

/-- Hand a record with the state and the counter of the channel state record's first copy (R183). -/
def hand (k : EventKind) (detail : Nat) (subj : Subject) (v : Word) (s : State) : State :=
  handAt k detail subj v s.csr.counter s

/-! ### Channel state record (R95): both copies together -/

def setState (st : ChannelState) (s : State) : State :=
  { s with csr.state := st, csr.stateInv := ~~~ BitVec.ofNat 8 st.code }

def setCommitted (n : Cycle) (s : State) : State := { s with csr.committed := n, csr.committedInv := ~~~ n }

def setC (c : Nat) (s : State) : State := { s with csr.c := c, csr.cInv := ~~~ wordOf c }

/-- Empty both parking slots (R121). -/
def emptySlots (s : State) : State := { s with vote.peer0.slot := none, vote.peer1.slot := none }

/-- Write the cycle counter; a change of its value empties the parking slots (R121) and clears the skew-reported flag
(R122). -/
def setCounter (n : Cycle) (s : State) : State :=
  let s1 := { s with csr.counter := n, csr.counterInv := ~~~ n }
  if n = s.csr.counter then s1
  else emptySlots { s1 with vote.skewReported := false }

/-- Hand the STATE-CHANGE record of a change that has been made (R99). -/
def handStateChange (prev : ChannelState) (c : Cause) (s : State) : State :=
  hand .stateChange c.code (.channelState prev) (wordOf s.csr.committed.toNat) s

/-- Change the channel state and hand its record (R99). -/
def changeState (st : ChannelState) (c : Cause) (s : State) : State :=
  handStateChange s.csr.state c (setState st s)

/-- S is made invalid; its value is left (R67). -/
def invalidateS (s : State) : State := { s with sig.valid := false }

/-- Set the FAULT latch (R187). -/
def setLatch (s : State) : State := { s with ev.faultLatch := true }

/-! ### Outputs -/

/-- Answer a transaction at the processor port. -/
def respond (r : Response) (s : State) : State := { s with out.responses := s.out.responses ++ [r] }

/-- Change one link. -/
def updLink (l : LinkId) (f : Link → Link) (s : State) : State :=
  match l with
  | .link1 => { s with link1 := f s.link1 }
  | .link2 => { s with link2 := f s.link2 }

/-- Change the peer table entry of an identity; an identity without an entry changes nothing. -/
def updPeer (i : Identity) (f : Peer → Peer) (s : State) : State :=
  match peerSlot s i with
  | some false => { s with vote.peer0 := f s.vote.peer0 }
  | some true => { s with vote.peer1 := f s.vote.peer1 }
  | none => s

/-- Set the repair relation of a peer (R151). -/
def setRelation (i : Identity) (r : Option Relation) (s : State) : State := updPeer i (fun x => { x with relation := r }) s

/-- Put a frame on the wire of a link, whole (log entry 50). -/
def transmit (l : LinkId) (f : Frame) (s : State) : State :=
  match l with
  | .link1 => { s with out.tx1 := s.out.tx1 ++ [f] }
  | .link2 => { s with out.tx2 := s.out.tx2 ++ [f] }

/-- Hand a formed frame to a link (R135): in UP every kind is sent and restarts the beat timer; in HAILING and MISMATCH only
HAIL; in DOWN and QUIET nothing. -/
def sendFrame (l : LinkId) (f : Frame) (s : State) : State :=
  match (getLink s l).status with
  | .up => updLink l (fun k => { k with beatTimer := some s.mgmt.params.beat }) (transmit l f s)
  | .hailing => if f.kind = .hail then transmit l f s else s
  | .mismatch => if f.kind = .hail then transmit l f s else s
  | .down => s
  | .quiet => s

/-- Send a payload of this channel's own on a link, without flags (R135). A part whose CHANNEL-ID is not set has no link
that sends. -/
def send (l : LinkId) (pl : Payload) (s : State) : State :=
  match s.mgmt.params.channelId with
  | none => s
  | some me => sendFrame l { ack := false, mismatch := false, relayed := false, sender := me, originator := me, payload := pl } s

/-- Send a HAIL formed as the link's state gives (R138, R140): ACK when heard is not none, MISMATCH in MISMATCH. -/
def sendHail (l : LinkId) (s : State) : State :=
  match s.mgmt.params.channelId with
  | none => s
  | some me =>
    let k := getLink s l
    sendFrame l
      { ack := decide (k.status ≠ .mismatch) && k.heard.isSome
        mismatch := decide (k.status = .mismatch)
        relayed := false, sender := me, originator := me
        payload := .hail s.mgmt.digest (some s.csr.state) s.csr.counter s.csr.committed } s

/-! ### The suspect table (R42 to R46) -/

/-- The entry of a line. -/
def findSuspect : List (Option Suspect) → Nat → Option Suspect
  | [], _ => none
  | some e :: es, l => if e.line = l then some e else findSuspect es l
  | none :: es, l => findSuspect es l

/-- Every entry more recent than `r` moves one place down (R42). -/
def moveDown (r : Nat) (t : List (Option Suspect)) : List (Option Suspect) :=
  t.map (Option.map (fun e => if e.recency < r then { e with recency := e.recency + 1 } else e))

/-- Every entry less recent than `r` moves one place up (R42). -/
def moveUp (r : Nat) (t : List (Option Suspect)) : List (Option Suspect) :=
  t.map (Option.map (fun e => if r < e.recency then { e with recency := e.recency - 1 } else e))

/-- Change the entry of a line. -/
def updSuspect (l : Nat) (f : Suspect → Suspect) (t : List (Option Suspect)) : List (Option Suspect) :=
  t.map (Option.map (fun e => if e.line = l then f e else e))

/-- Index of the lowest empty slot, from `i` on. -/
def firstEmpty : List (Option Suspect) → Nat → Option Nat
  | [], _ => none
  | none :: _, i => some i
  | some _ :: es, i => firstEmpty es (i + 1)

/-- `x` is evicted rather than `y`: lower count, or equal count and higher recency (R44). -/
def evictedFirst (x y : Suspect) : Bool := decide (x.count < y.count ∨ (x.count = y.count ∧ y.recency < x.recency))

/-- The entry to evict, with its index: among those with spare-pending clear (R44). -/
def victim : List (Option Suspect) → Nat → Option (Nat × Suspect)
  | [], _ => none
  | none :: es, i => victim es (i + 1)
  | some e :: es, i =>
    if e.pending then victim es (i + 1)
    else match victim es (i + 1) with
      | none => some (i, e)
      | some (j, x) => if evictedFirst x e then some (j, x) else some (i, e)

/-- Enter an entry (recency 0) into the lowest empty slot, or in place of the evicted one; `none` when all 16 are
spare-pending (R42, R44). -/
def placeSuspect (e : Suspect) (t : List (Option Suspect)) : Option (List (Option Suspect)) :=
  match firstEmpty t 0 with
  | some i => some ((moveDown 16 t).set i (some e))
  | none => match victim t 0 with
    | some (i, v) => some ((moveDown v.recency t).set i (some e))
    | none => none

/-- An increment takes a count from below RETIRE-THRESHOLD to it or above, with spare-pending clear (R43). -/
def crosses (thr old new : Nat) (pending : Bool) : Bool := decide (old < thr ∧ thr ≤ new) && !pending

/-- One corrected error on a logical line, as the check coder passes it (R43, R44). -/
def suspectError (l : Nat) (s : State) : State :=
  let thr := s.mgmt.params.retireThreshold
  match findSuspect s.spare.suspects l with
  | some e =>
    let n := if e.count < 15 then e.count + 1 else e.count
    let x := crosses thr e.count n e.pending
    let t := updSuspect l (fun e => { e with count := n, recency := 0, pending := e.pending || x })
      (moveDown e.recency s.spare.suspects)
    let s1 := { s with spare.suspects := t }
    if x then hand .lineSuspect 2 (.line l) (wordOf n) s1 else s1
  | none =>
    let x := crosses thr 0 1 false
    match placeSuspect { line := l, count := 1, recency := 0, pending := x } s.spare.suspects with
    | some t =>
      let s1 := hand .lineSuspect 1 (.line l) 1 { s with spare.suspects := t }
      if x then hand .lineSuspect 2 (.line l) 1 s1 else s1
    | none => s

/-- One decrement of each count; an entry at 0 leaves unless it is spare-pending, which holds it at 1 (R45). -/
def decayEntry : Option Suspect → Option Suspect
  | none => none
  | some e => if e.count ≤ 1 then (if e.pending then some { e with count := 1 } else none) else some { e with count := e.count - 1 }

/-- How many entries are more recent than `r`. -/
def moreRecent (r : Nat) : List (Option Suspect) → Nat
  | [] => 0
  | none :: es => moreRecent r es
  | some e :: es => (if e.recency < r then 1 else 0) + moreRecent r es

/-- The decay of a completed pass (R45): the order of recency among the remaining entries stays, without gaps (R42). -/
def decaySuspects (t : List (Option Suspect)) : List (Option Suspect) :=
  let t1 := t.map decayEntry
  t1.map (Option.map (fun e => { e with recency := moreRecent e.recency t1 }))

/-- Remove a line's entry; the less recent ones move one place up (R42, R55). -/
def removeSuspect (l : Nat) (t : List (Option Suspect)) : List (Option Suspect) :=
  match findSuspect t l with
  | none => t
  | some e => moveUp e.recency (t.map (fun o => match o with
    | some x => if x.line = l then none else some x
    | none => none))

/-! ### Reading through the check coder (R23 to R25) -/

/-- A CORRECTED word of a logical line: written back where it was read, counted in its region, passed to the suspect table
(R24). -/
def correct (a : Nat) (v : Word) (s : State) : State :=
  let s1 := poke (readPlace s a) (goodWord a v) s
  let s2 := match regionOf s (a / 256) with
    | some (i, _) => { s1 with counters.corrected := s.counters.corrected.set i (satSucc (s.counters.corrected.getD i 0)) }
    | none => s1
  suspectError (a / 256) s2

/-- An UNCORRECTABLE word of a logical line: counted, reported, and S made invalid when the word is vital (R25). -/
def reportUncorrectable (by_ : ReadBy) (a : Nat) (raw : Word) (s : State) : State :=
  let s1 := { s with counters.uncorrectable := satSucc s.counters.uncorrectable }
  let s2 := hand .uncorrectable by_.code (.word a) raw s1
  if classOf s (a / 256) = some .vital then invalidateS s2 else s2

/-- Read one logical word within a grant (R23, R24, R25). -/
def readWord (by_ : ReadBy) (a : Nat) (s : State) : ReadOutcome × State :=
  match decodeStored (storedAt s a) a with
  | .clean v => (.clean v, s)
  | .corrected v => (.corrected v, correct a v s)
  | .uncorrectable raw => (.uncorrectable raw, reportUncorrectable by_ a raw s)

/-- Read logical words in order within a grant. -/
def readWords (by_ : ReadBy) : List Nat → State → List (Nat × ReadOutcome) × State
  | [], s => ([], s)
  | a :: as, s =>
    let r := readWord by_ a s
    let rs := readWords by_ as r.2
    ((a, r.1) :: rs.1, rs.2)

/-- The word addresses of those read UNCORRECTABLE, in order. -/
def badWords : List (Nat × ReadOutcome) → List Nat
  | [] => []
  | (a, .uncorrectable _) :: rs => a :: badWords rs
  | (_, .clean _) :: rs => badWords rs
  | (_, .corrected _) :: rs => badWords rs

/-- The value delivered for a word, 0 where none was. -/
def deliveredFor (a : Nat) : List (Nat × ReadOutcome) → Option Word
  | [] => none
  | (b, o) :: rs => if a = b then o.value else deliveredFor a rs

/-- The 256 word addresses of a logical line. -/
def lineWords (l : Nat) : List Nat := (List.range 256).map (fun i => l * 256 + i)

/-! ### Sets of ordinals (00 section 4.4) -/

/-- Add an ordinal to a rising list. -/
def setInsert (o : Nat) : List Nat → List Nat
  | [] => [o]
  | x :: xs => if o < x then o :: x :: xs else if o = x then x :: xs else x :: setInsert o xs

/-- The union of two sets. -/
def setUnion (a b : List Nat) : List Nat := b.foldr setInsert a

/-- Remove an ordinal. -/
def setErase (o : Nat) (l : List Nat) : List Nat := l.filter (fun x => decide (x ≠ o))

/-- Add an ordinal to the poisoned-lines list: at the end, once, at most 8; else the overflowed flag (step 3 of R77). -/
def listPoisoned (o : Nat) (s : State) : State :=
  if o ∈ s.sig.poisoned then s
  else if s.sig.poisoned.length < Config.listDepth then { s with sig.poisoned := s.sig.poisoned ++ [o] }
  else { s with sig.overflow := true }

end Sys2Proof.Machine
end

