-- ==== Sys2Proof/Machine/Signature.lean ====
section
/-! DEFINITION. The word hash, the signature's incremental update and the rebuild walk's bookkeeping (chapter 4). -/

namespace Sys2Proof.Machine

/-- The word hash h(a, v) under the committed keys (R61), exact integer arithmetic modulo 2^61−1. -/
def wordHash (k : Keys) (a : Nat) (v : Word) : Nat :=
  let x := (v.toNat % 4294967296 + k.k1 * (a + 1)) % modulus
  let y := (v.toNat / 4294967296 + k.k2 * (a + 1) + k.k3) % modulus
  (x * y) % modulus

/-- The remainder of sum + h(a, new) + (p − h(a, old)) divided by p (R64, R71). -/
def foldChange (k : Keys) (sum a : Nat) (old new : Word) : Nat :=
  (sum + wordHash k a new + (modulus - wordHash k a old)) % modulus

/-- A logical writer folds one word's change into S, if S is valid (R64). -/
def updateS (a : Nat) (old new : Word) (s : State) : State :=
  if s.sig.valid then { s with sig.s := foldChange s.sig.committedKeys s.sig.s a old new } else s

/-- The updates of a grant that changes several words, in ascending word order (R65). -/
def updateWordsS : List (Nat × Word × Word) → State → State
  | [], s => s
  | (a, old, new) :: ws, s => updateWordsS ws (updateS a old new s)

/-- The same changes folded into the rebuild accumulator (R71). -/
def updateWordsAcc : List (Nat × Word × Word) → State → State
  | [], s => s
  | (a, old, new) :: ws, s =>
    updateWordsAcc ws { s with sig.acc := foldChange s.sig.committedKeys s.sig.acc a old new }

/-- Add one word's hash to the rebuild accumulator (R70). -/
def addHash (a : Nat) (v : Word) (s : State) : State :=
  { s with sig.acc := (s.sig.acc + wordHash s.sig.committedKeys a v) % modulus }

/-- A rebuild walk begins: cursor and accumulator 0, poisoned-lines list empty (R72, R76). -/
def startWalk (w : Walk) (s : State) : State :=
  { s with sig.walk := w, sig.cursor := 0, sig.acc := 0, sig.poisoned := [], sig.overflow := false }

/-- A rebuild walk ends: status IDLE, cursor and accumulator 0 (R73 to R75, R79). -/
def stopWalk (s : State) : State := { s with sig.walk := .idle, sig.cursor := 0, sig.acc := 0 }

end Sys2Proof.Machine
end

