-- ==== Sys2Proof/Machine/Journal.lean ====
section
/-! DEFINITION. The journal ring: appends, segments, and the start and the end of a rollback (chapter 5). -/

namespace Sys2Proof.Machine

/-- Details of ROLLBACK-CHECK (Table 11-5). -/
def rollbackSignature : Nat := 1
def rollbackOverflowed : Nat := 2
def rollbackUnreadable : Nat := 3
def rollbackEntry : Nat := 4

/-- Emptying the journal (R82); the rollback record is not part of it. -/
def emptyJournal (s : State) : State :=
  { s with jnl := { s.jnl with
      head := 0, boundary := 0, tail := 0, votingCount := 0, openCount := 0, votingPresent := false
      votingOver := false, openOver := false, pressure := false } }

/-- Pressure reporting is rearmed when the entry count lies below the pressure level (R85). -/
def rearmPressure (s : State) : State :=
  if s.jnl.entries < pressureLevel s then { s with jnl.pressure := false } else s

/-- One append of a vital write (R83 to R85): the entry at the tail; or, when the ring is full, the open overflowed flag and
JOURNAL-OVERFLOW; or nothing once the flag is set. -/
def appendEntry (tag : BitVec 16) (opn : Cycle) (a : Nat) (old : Word) (s : State) : State :=
  if s.jnl.openOver then s
  else if journalCapacity s ≤ s.jnl.entries then
    hand .journalOverflow 1 (.region (journalIndex s)) (wordOf opn.toNat) { s with jnl.openOver := true }
  else
    let at_ := journalSlot s s.jnl.tail
    let s1 := writeWord (at_ + 1) old (writeWord at_ (journalWord a tag) s)
    let s2 := { s1 with jnl.tail := (s.jnl.tail + 1) % journalCapacity s, jnl.openCount := s.jnl.openCount + 1 }
    if pressureLevel s ≤ s.jnl.entries + 1 ∧ s.jnl.pressure = false then
      hand .journalPressure 0 (.region (journalIndex s)) (wordOf (s.jnl.entries + 1)) { s2 with jnl.pressure := true }
    else s2

/-- The appends of a vital write, in ascending word order (step 3 of R17). -/
def appendEntries (tag : BitVec 16) (opn : Cycle) : List (Nat × Word) → State → State
  | [], s => s
  | (a, old) :: ws, s => appendEntries tag opn ws (appendEntry tag opn a old s)

/-- The boundary move of a taken mark (R86). -/
def moveBoundary (s : State) : State :=
  { s with jnl := { s.jnl with
      votingCount := s.jnl.openCount, votingOver := s.jnl.openOver, boundary := s.jnl.tail, openCount := 0
      openOver := false, votingPresent := true } }

/-- The discard of the voting segment at a commit (R87). -/
def discardVoting (s : State) : State :=
  rearmPressure { s with jnl := { s.jnl with
      head := s.jnl.boundary, votingCount := 0, votingOver := false, votingPresent := false } }

/-- An unreadable JOURNAL word inside a live entry marks the entry's segment overflowed (R26). -/
def markSegment (a : Nat) (s : State) : State :=
  match journalEntry s with
  | none => s
  | some (_, e) =>
    let i := (a / 256 - e.base) * 128 + (a % 256) / 2
    let d := ringDistance i s.jnl.head (journalCapacity s)
    if d < s.jnl.votingCount then { s with jnl.votingOver := true }
    else if d < s.jnl.entries then { s with jnl.openOver := true }
    else s

/-- The overflowed flag of the newest entry's segment (R90): the newest entry belongs to the voting segment when the open
one holds none. -/
def markNewest (s : State) : State :=
  if s.jnl.openCount = 0 then { s with jnl.votingOver := true } else { s with jnl.openOver := true }

/-- The end of a rollback (R91), completed (`none`) or stopped with a detail. Answers the result for the requester. -/
def endRollback (stop : Option Nat) (s : State) : State × RollbackResult :=
  let res : RollbackResult := match stop with
    | some _ => .broken
    | none =>
      if s.jnl.rb.validAtStart && s.sig.valid then (if s.sig.s = s.csr.c then .complete else .checkFailed) else .unsigned
  let s1 := if res = RollbackResult.complete then s else invalidateS s
  let s2 := setCounter s1.csr.committed (emptyJournal s1)
  let s3 := match stop with
    | some d => hand .rollbackCheck d (.region (journalIndex s)) (wordOf s.jnl.rb.undone) s2
    | none => if res = RollbackResult.checkFailed then hand .rollbackCheck rollbackSignature (.region (journalIndex s)) (wordOf s.sig.s) s2
      else s2
  ({ s3 with jnl.rb.rolling := false }, res)

/-- A rollback is requested (R88): the record is set up; a broken journal stops it at once, an intact empty one completes it
at once, and otherwise the status becomes ROLLING. -/
def requestRollback (why : RollbackReason) (s : State) : State × Option RollbackResult :=
  let s1 := { s with jnl.rb :=
    { rolling := false, reason := some why, validAtStart := s.sig.valid
      tagVoting := BitVec.ofNat 16 s.csr.counter.toNat, tagOpen := BitVec.ofNat 16 (openCycle s).toNat, undone := 0 } }
  if s1.jnl.broken then
    let r := endRollback (some rollbackOverflowed) s1
    (r.1, some r.2)
  else if s1.jnl.entries = 0 then
    let r := endRollback none s1
    (r.1, some r.2)
  else ({ s1 with jnl.rb.rolling := true }, none)

/-- A rollback under way is abandoned (R94): status IDLE, no result, no record. -/
def abandonRollback (s : State) : State := { s with jnl.rb.rolling := false }

end Sys2Proof.Machine
end

