-- ==== Sys2Proof/Machine/Repair.lean ====
section
/-! DEFINITION. The repair unit: maps, receive buffers, joiner preparation, the search for a source, CLOSE, and the ends of
both roles (chapter 9). -/

namespace Sys2Proof.Machine

/-- Detail codes of REPAIR (Table 11-5). -/
def repairAccepted : Nat := 1
def repairVerdict : Verdict → Nat
  | .matched => 2
  | .mismatch => 3
def repairAbortDetail (r : AbortReason) : Nat := 3 + r.code
def repairGaveUp : Nat := 11

/-- The subject of a REPAIR record: the partner, or none. -/
def partnerSubject : Option Identity → Subject
  | none => .none
  | some i => .peer i

/-! ### Receive buffers (R147, R165) -/

/-- After a frame has left the buffer: GO when it holds 1 frame or none and hold sent is set (R147). -/
def goIfDrained (l : LinkId) (s : State) : State :=
  let k := getLink s l
  if k.buffer.length ≤ 1 ∧ k.holdSent = true then
    updLink l (fun k => { k with holdSent := false }) (send l .go s)
  else s

/-- Replace a link's buffer by what is left of it, and send GO if frames left and it has drained. -/
def leaveBuffer (l : LinkId) (rest : List LineFrame) (s : State) : State :=
  if rest.length < (getLink s l).buffer.length then goIfDrained l (updLink l (fun k => { k with buffer := rest }) s) else s

/-- Drop from one link's buffer the frames that no receive-write takes: all of them unless this is the link the joiner
receives on, and there the oldest while their ordinal is V or above (R165) or they came after the CLOSE (R167). -/
def dropLines (l : LinkId) (s : State) : State :=
  if receivingLink s = some l then
    leaveBuffer l ((getLink s l).buffer.dropWhile (fun f => decide (numVital s ≤ f.ordinal) || f.late)) s
  else leaveBuffer l [] s

/-- Drop from both buffers (R165). -/
def settleBuffers (s : State) : State := dropLines .link2 (dropLines .link1 s)

/-! ### The search for a source (R154 to R156) -/

/-- A peer is eligible when its entry has a link and a reported state of VOTING or HELD (R154). -/
def eligible (x : Peer) : Bool := x.link.isSome && (decide (x.state = some .voting) || decide (x.state = some .held))

/-- The next candidate: the first untried eligible peer in identity order, later than the present candidate (R154, R156; log
entry 15). Peers passed over count as tried. -/
def nextCandidate (j : JoinerRole) (s : State) : Option (Identity × List Identity) :=
  match otherIds s.mgmt.params.channelId with
  | none => none
  | some (x, y) =>
    if x ∉ j.tried ∧ y ∉ j.tried ∧ eligible s.vote.peer0 = true then some (x, x :: j.tried)
    else if y ∉ j.tried ∧ eligible s.vote.peer1 = true then some (y, x :: y :: j.tried)
    else none

/-- Send the REQUEST of the present base and need list to a candidate, set the relation, start the reply timer (R154). -/
def sendRequest (i : Identity) (s : State) : State :=
  match s.repair.role with
  | .joiner j =>
    let s1 := setRelation i (some .joinerOf)
      { s with repair.role := .joiner { j with
          phase := .requesting, candidate := some i, replyTimer := some s.mgmt.params.voteWindow } }
    match (peerSlot s i).bind (fun k => (getPeer s k).link) with
    | some l => send l (.request j.base (j.need.map (BitVec.ofNat 32))) s1
    | none => s1
  | _ => s

/-- A sequence ends without a source (R156). -/
def endSequence (s : State) : State :=
  match s.repair.role with
  | .joiner j =>
    if 0 < j.retry then
      { s with repair.role := .joiner { j with
          phase := .retryWait, retry := j.retry - 1, candidate := none, replyTimer := none
          retryTimer := some s.mgmt.params.rejoinRetry } }
    else
      hand .repair repairGaveUp .none 0
        { s with repair.role := .joiner { j with phase := .gaveUp, candidate := none, replyTimer := none } }
  | _ => s

/-- A try must be made: the next candidate gets a REQUEST, or the sequence ends (R154, R156). -/
def tryNext (s : State) : State :=
  match s.repair.role with
  | .joiner j => match nextCandidate j s with
    | some (i, tried) => sendRequest i { s with repair.role := .joiner { j with tried := tried } }
    | none => endSequence s
  | _ => s

/-- A fresh attempt sequence begins, with no peer tried (R154, R156). -/
def beginSequence (s : State) : State :=
  match s.repair.role with
  | .joiner j =>
    tryNext { s with repair.role := .joiner { j with tried := [], candidate := none, replyTimer := none, retryTimer := none } }
  | _ => s

/-- The present try has failed: its relation returns to none and the next candidate is tried (R155). -/
def failTry (s : State) : State :=
  match s.repair.role with
  | .joiner j =>
    let s1 := { s with repair.role := .joiner { j with replyTimer := none } }
    tryNext (match j.candidate with
      | some i => setRelation i none s1
      | none => s1)
  | _ => s

/-! ### Joiner preparation (R152, R153) -/

/-- Base and need list of Table 9-2. -/
def baseFor (j : JoinerRole) (s : State) : Option Cycle × List Nat :=
  if j.forcedFull || j.baseLost then (none, [])
  else match j.result with
    | some .complete => (some s.csr.committed, [])
    | some .unsigned => if s.sig.overflow then (none, []) else (some s.csr.committed, s.sig.poisoned)
    | _ => (none, [])

/-- Steps 4 and 5 of R152: set the base and the need list, set the retry count, begin a fresh sequence. -/
def finishPreparation (s : State) : State :=
  match s.repair.role with
  | .joiner j =>
    let b := baseFor j s
    beginSequence { s with repair.role := .joiner { j with
      base := b.1, need := b.2, baseLost := j.baseLost || b.1.isNone, retry := s.mgmt.params.rejoinRetries } }
  | _ => s

/-- Step 3 of R152: with S valid no walk is run; otherwise the preparation walk starts (R76). -/
def prepareSignature (s : State) : State :=
  if s.sig.valid then finishPreparation s else startWalk .preparation s

/-- Preparation takes the rollback result it has waited for (step 2 of R152, R93). -/
def prepareResult (r : RollbackResult) (s : State) : State :=
  match s.repair.role with
  | .joiner j => prepareSignature { s with repair.role := .joiner { j with result := some r } }
  | _ => s

/-- The joiner role as it is taken on entry to OUT (R152), with no retries and no base yet (log entry 44). -/
def freshJoiner (full : Bool) : JoinerRole :=
  { phase := .preparing, base := none, forcedFull := full, baseLost := full, result := none, need := [], retry := 0
    candidate := none, tried := [], replyTimer := none, retryTimer := none, receiveTimer := none, source := none
    link := none, linesWritten := 0, closeCycle := 0, closeTarget := 0, closeLines := 0 }

/-- Preparation begins on entry to OUT after dissent or withdrawal: the joiner role is taken; the rollback result comes with
`r`, or later (R152). -/
def beginPreparation (r : Option RollbackResult) (s : State) : State :=
  let s1 := { s with repair.role := .joiner (freshJoiner false) }
  match r with
  | some res => prepareResult res s1
  | none => s1

/-- S has become invalid in OUT after step 3 of preparation has ended: base none, back to step 3 (R152). -/
def restartPreparation (s : State) : State :=
  match s.repair.role with
  | .joiner j =>
    let s1 := match j.candidate with
      | some i => setRelation i none s
      | none => s
    prepareSignature { s1 with repair.role := .joiner { j with
      phase := .preparing, base := none, baseLost := true, need := [], candidate := none, tried := []
      replyTimer := none, retryTimer := none } }
  | _ => s

/-- The joiner leaves RECEIVING or CLOSING for OUT (R171): STATE-CHANGE, role PREPARING with base none and an empty need
list, buffers dropped, preparation from step 3. -/
def joinerReturn (c : Cause) (s : State) : State :=
  match s.repair.role with
  | .joiner j =>
    let s1 := emptySlots (changeState .out c s)
    let s2 := match j.source with
      | some i => setRelation i none s1
      | none => s1
    let s3 := { s2 with repair.role := .joiner { freshJoiner j.forcedFull with baseLost := true, retry := j.retry } }
    prepareSignature (settleBuffers s3)
  | _ => s

/-- Hand the REPAIR record of an abort at the joiner (R170). -/
def handJoinerAbort (why : AbortReason) (partner : Option Identity) (lines : Nat) (s : State) : State :=
  hand .repair (repairAbortDetail why) (partnerSubject partner) (wordOf lines) s

/-- Send ABORT on a link, where there is one. -/
def sendAbort (l : Option LinkId) (why : AbortReason) (s : State) : State :=
  match l with
  | some l => send l (.abort why) s
  | none => s

/-- A joiner role in RECEIVING or CLOSING ends by abort (R170), its REPAIR record first (log entry 43), and returns as
R171 gives. -/
def abortReceiving (why : AbortReason) (tell : Bool) (s : State) : State :=
  match s.repair.role with
  | .joiner j =>
    if j.receiving then
      let s1 := if tell then sendAbort j.link why s else s
      joinerReturn .repairAbort (handJoinerAbort why j.source j.linesWritten s1)
    else s
  | _ => s

/-- The link of a peer's table entry. -/
def peerLink (s : State) (i : Identity) : Option LinkId := (peerSlot s i).bind (fun k => (getPeer s k).link)

/-- A joiner role ends for good (entry to HALTED, RELEASE): ABORT goes to the candidate of an outstanding REQUEST or to the
source; one REPAIR record (R108, R110, R170; log entry 18). The receive buffers are dropped with it (R165; log entry 42). -/
def endJoiner (why : AbortReason) (s : State) : State :=
  match s.repair.role with
  | .joiner j =>
    let partner := if j.receiving then j.source else j.candidate
    let l := if j.receiving then j.link else j.candidate.bind (peerLink s)
    let s1 := sendAbort l why s
    let s2 := match partner with
      | some i => setRelation i none s1
      | none => s1
    settleBuffers (handJoinerAbort why partner j.linesWritten { s2 with repair.role := .none })
  | _ => s

/-! ### The source role (R158 to R164, R170) -/

/-- A source role ends (R169, R170): R is cleared, the relation returns to none, every timer of the role is gone with it. -/
def endSource (r : SourceRole) (s : State) : State :=
  setRelation r.joiner none { s with repair.role := .none, repair.r := [] }

/-- A source role is aborted (R170): ABORT where the partner is told, the role ends, one REPAIR record. -/
def abortSource (why : AbortReason) (tell : Bool) (s : State) : State :=
  match s.repair.role with
  | .source r =>
    let s1 := if tell then send r.link (.abort why) s else s
    hand .repair (repairAbortDetail why) (.peer r.joiner) (wordOf r.linesSent) (endSource r s1)
  | _ => s

/-- Send CLOSE and await the verdict (R163, R164). -/
def sendClose (r : SourceRole) (cyc : Cycle) (target : Nat) (s : State) : State :=
  setRelation r.joiner (some .joining)
    { send r.link (.close cyc (BitVec.ofNat 32 r.linesSent) (wordOf target)) s with
      repair.role := .source { r with
        phase := .awaitVerdict, catchupTimer := none, verdictTimer := some s.mgmt.params.holdLimit, closeCycle := cyc
        target := target } }

/-- CLOSE is due when R is empty and no captured frame waits: in CATCHUP with the mark's cycle and snapshot (R163), in PASS
in HELD with the committed cycle and S (R164). -/
def closeIfDone (s : State) : State :=
  match s.repair.role with
  | .source r =>
    if s.repair.r = [] ∧ r.captured = none then
      match r.phase with
      | .catchup => sendClose r r.closeCycle r.target s
      | .pass => if s.csr.state = .held then sendClose r s.csr.committed s.sig.s s else s
      | .awaitVerdict => s
    else s
  | _ => s

/-- Hand a LINE frame to the link of a source role; the lines sent increase by 1, saturating (R160, R151). -/
def sendLine (r : SourceRole) (f : LineFrame) (s : State) : State :=
  { send r.link (.line (BitVec.ofNat 32 f.ordinal) f.words) s with
    repair.role := .source { r with captured := none, linesSent := satSucc r.linesSent } }

/-- Clear the dirty maps (R150): seal completion, MATCH, HALTED, RELEASE. -/
def clearDirty (s : State) : State :=
  { s with repair.dc := [], repair.dv := [], repair.dO := [], repair.dcValid := false }

/-- Step 5 of R17: the line's ordinal joins Do, and R while a source role is active. -/
def markLine (o : Nat) (s : State) : State :=
  match s.repair.role with
  | .source _ => { s with repair.dO := setInsert o s.repair.dO, repair.r := setInsert o s.repair.r }
  | _ => { s with repair.dO := setInsert o s.repair.dO }

end Sys2Proof.Machine
end

