-- ==== Sys2Proof/Machine/Channel.lean ====
section
/-! DEFINITION. Channel state changes that many steps share: comparison of the record's copies, HALTED, withdrawal, seal
abort, the consequences of an uncorrectable word, the watch kept in HELD, and the action on a rollback result (chapter 6). -/

namespace Sys2Proof.Machine

/-- Details of COMMAND-DONE (Table 11-5). -/
def sealDoneDetail : Nat := 1
def sealAbortedDetail : Nat := 2

/-- An open vote is cancelled (step 3 of R101): the open-vote record cleared, the parking slots emptied. The voting segment
stays present until the journal is emptied (R132; log entry 35). -/
def cancelVote (s : State) : State := emptySlots { s with vote.record := VoteRecord.cleared }

/-- A seal walk under way is ended by RELEASE or entry to HALTED (R75): COMMAND-DONE with value 0. A preparation walk ends
without a record (R79). -/
def endWalk (s : State) : State :=
  match s.sig.walk with
  | .seal => hand .commandDone sealAbortedDetail (.command codeSeal) 0 (stopWalk s)
  | .preparation => stopWalk s
  | .idle => s

/-- Entry to HALTED (R108), with the cause of its STATE-CHANGE record. From HALTED itself the record is rewritten and no
STATE-CHANGE is handed (R96). A proof test or initialise goes on (R109; log entry 37). -/
def enterHalted (c : Cause) (s : State) : State :=
  let prev := s.csr.state
  let s1 := setCounter s.csr.committed (setC s.csr.c (setCommitted s.csr.committed (setState .halted s)))
  let s2 := emptyJournal (invalidateS (setLatch s1))
  let s3 := endWalk (abandonRollback (cancelVote s2))
  let s4 := endJoiner .joinerFault (abortSource .sourceFault true s3)
  let s5 := clearDirty { s4 with repair.r := [] }
  if prev = .halted then s5 else handStateChange prev c s5

/-- The first item whose second copy is not the inverse of its first, in the order state, cycle counter, committed cycle, C:
its INTERNAL-FAULT detail and its first copy's value (R96, Table 11-5). -/
def recordUpset (s : State) : Option (Nat × Word) :=
  if s.csr.stateInv ≠ ~~~ BitVec.ofNat 8 s.csr.state.code then some (1, wordOf s.csr.state.code)
  else if s.csr.counterInv ≠ ~~~ s.csr.counter then some (2, wordOf s.csr.counter.toNat)
  else if s.csr.committedInv ≠ ~~~ s.csr.committed then some (3, wordOf s.csr.committed.toNat)
  else if s.csr.cInv ≠ ~~~ wordOf s.csr.c then some (4, wordOf s.csr.c)
  else none

/-- Steps 2 and 3 of R96: INTERNAL-FAULT, which sets the FAULT latch (R187), then HALTED. -/
def recordFault (u : Nat × Word) (s : State) : State :=
  enterHalted .record (setLatch (hand .internalFault u.1 .none u.2 s))

/-- Withdrawal from SEALED, VOTING or HELD at the end of the grant that met an uncorrectable vital word (R101). -/
def withdraw (s : State) : State :=
  let s1 := emptySlots (changeState .out .withdrawal (setLatch s))
  let s2 := abortSource .sourceFault true (cancelVote s1)
  if rolling s2 then beginPreparation none { s2 with jnl.rb.reason := some .withdrawal }
  else
    let r := requestRollback .withdrawal s2
    beginPreparation r.2 r.1

/-- The seal is aborted by an uncorrectable vital word (R73). -/
def abortSeal (first : Nat) (s : State) : State :=
  hand .commandDone sealAbortedDetail (.command codeSeal) (wordOf first) (changeState .configured .sealAborted (stopWalk s))

/-- The ordinal of a vital word's line. -/
def wordOrdinal (s : State) (a : Nat) : Option Nat := ordinalOf s.regions.committed (a / 256)

/-- Uncorrectable vital words met below the rebuild cursor are listed (R78). -/
def listBelow (cursor : Nat) : List Nat → State → State
  | [], s => s
  | a :: as, s => listBelow cursor as (match wordOrdinal s a with
    | some o => if o < cursor then listPoisoned o s else s
    | none => s)

/-- Uncorrectable vital words in OUT: they act on the preparation walk by R78, and on a preparation past step 3 by R152. The
walk's own rebuild step has dealt with them (R77). -/
def vitalInOut (by_ : ReadBy) (bad : List Nat) (s : State) : State :=
  match s.repair.role with
  | .joiner j =>
    if s.sig.walk = .preparation ∧ by_ ≠ .rebuild then
      let cur := s.sig.cursor
      if bad.any (fun a => match wordOrdinal s a with
          | some o => decide (o < cur)
          | none => false) then
        let s1 := listBelow cur bad s
        { s1 with sig.cursor := 0, sig.acc := 0 }
      else s
    else if j.phase = .requesting ∨ j.phase = .retryWait ∨ j.phase = .gaveUp then restartPreparation s
    else s
  | _ => s

/-- JOURNAL words read UNCORRECTABLE mark their segments (R26). -/
def markSegments : List Nat → State → State
  | [], s => s
  | a :: as, s => markSegments as (if classOf s (a / 256) = some .journal then markSegment a s else s)

/-- The consequences of the words a grant read UNCORRECTABLE, taken once when the grant ends (R26, R30). -/
def consequences (by_ : ReadBy) (bad : List Nat) (s : State) : State :=
  let s1 := markSegments bad s
  match bad.filter (fun a => decide (classOf s1 (a / 256) = some .vital)) with
  | [] => s1
  | a :: as => match s1.csr.state with
    | .sealed => withdraw s1
    | .voting => withdraw s1
    | .held => withdraw s1
    | .sealing => abortSeal a s1
    | .receiving => abortReceiving .joinerFault true s1
    | .out => vitalInOut by_ (a :: as) s1
    | .unconfigured => s1
    | .configured => s1
    | .halted => s1

/-- The set of peers marked DISSENT or ABSENT (R130). -/
def absentPeers (s : State) : Subject :=
  let out (x : Peer) : Bool := decide (x.status ≠ .agree)
  match otherIds s.mgmt.params.channelId with
  | some (.b, .c) => .peers false (out s.vote.peer0) (out s.vote.peer1)
  | some (.a, .c) => .peers (out s.vote.peer0) false (out s.vote.peer1)
  | some (.a, .b) => .peers (out s.vote.peer0) (out s.vote.peer1) false
  | _ => .peers false false false

/-- Details of VOTE (Table 11-5). -/
def voteAgree : Nat := 1
def voteLocalDissent : Nat := 2
def voteNoMajority : Nat := 3

/-- The watch kept in HELD (R131): both peers VOTING and ahead of this channel's committed cycle are a LOCAL-DISSENT. The empty
subject of its VOTE record is the empty set of peers (log entry 38). -/
def heldWatch (s : State) : State :=
  let ahead (x : Peer) : Bool := decide (x.state = some .voting) && isAhead x.committed s.csr.committed
  if s.csr.state = .held ∧ ahead s.vote.peer0 = true ∧ ahead s.vote.peer1 = true then
    match recordUpset s with
    | some u => recordFault u s
    | none =>
      let s1 := { s with
        vote.peer0.status := .agree, vote.peer0.arrival := none, vote.peer1.status := .agree, vote.peer1.arrival := none }
      let s2 := abortSource .sourceState true (emptySlots (setState .out s1))
      let r := requestRollback .dissent s2
      let s3 := beginPreparation r.2 r.1
      handStateChange .held .dissent
        (handAt .vote voteLocalDissent (.peers false false false) (wordOf s.csr.c) s3.csr.counter s3)
  else s

/-- NO-MAJORITY's rollback ended COMPLETE: the channel enters HELD (R103, R129) and begins its watch (R131). -/
def enterHeld (s : State) : State := heldWatch (emptySlots (changeState .held .noMajority s))

/-- The requester acts on a rollback result (Table 5-5). -/
def actOnResult (why : Option RollbackReason) (r : RollbackResult) (s : State) : State :=
  match why with
  | some .noMajority => if r = .complete then enterHeld s else enterHalted .noMajority s
  | _ => prepareResult r s

end Sys2Proof.Machine
end

