-- ==== Sys2Proof/Machine/Vote.lean ====
section
/-! DEFINITION. Cycle marks, the use of SIGN frames, and the vote with its outcomes (chapter 7). -/

namespace Sys2Proof.Machine

/-! ### Outcomes (R125 to R130) -/

/-- A peer's last vote status and last counted arrival after a vote with a majority value, or with none (R125). -/
def votedPeer (majority : Option Nat) (a : Option (Nat × Arrival)) (x : Peer) : Peer :=
  match a with
  | some (v, how) => { x with status := if majority = some v then .agree else .dissent, arrival := some how }
  | none => { x with status := .absent, arrival := none }

/-- The peer table entries of both peers after a vote (R125). -/
def markPeers (majority : Option Nat) (s : State) : State :=
  { s with
    vote.peer0 := votedPeer majority s.vote.record.arrival0 s.vote.peer0
    vote.peer1 := votedPeer majority s.vote.record.arrival1 s.vote.peer1 }

/-- Whether an arrival carries a value. -/
def arrivalIs (v : Nat) : Option (Nat × Arrival) → Bool
  | some (w, _) => decide (w = v)
  | none => false

/-- The value that two peers hold together without this channel (Table 7-3). A signature of p or above agrees with none
(R189). -/
def peersAgree (r : VoteRecord) : Option Nat :=
  match r.arrival0, r.arrival1 with
  | some (v, _), some (w, _) => if v = w ∧ v < modulus then some v else none
  | _, _ => none

/-- HEALTH at an AGREE outcome: inverted if the FAULT latch is clear (R127). -/
def toggleHealth (s : State) : State := if s.ev.faultLatch then s else { s with ev.health := !s.ev.health }

/-- Both peers are marked AGREE. -/
def unanimous (s : State) : Bool := decide (s.vote.peer0.status = .agree) && decide (s.vote.peer1.status = .agree)

/-- The dirty maps at a commit: Dc takes Dv, Dv is cleared, Dc-valid is set (step 3 of R126, Table 9-1). -/
def commitMaps (s : State) : State := { s with repair.dc := s.repair.dv, repair.dv := [], repair.dcValid := true }

/-- AGREE on the open vote's cycle (R126), peers already marked. -/
def agree (s : State) : State :=
  let n := s.vote.record.cycle
  let sn := s.vote.record.snapshot
  let prev := s.csr.state
  let s1 := commitMaps (setCommitted n (setC sn (discardVoting s)))
  let s2 := toggleHealth (if prev = .sealed then setState .voting s1 else s1)
  let s3 :=
    if unanimous s2 then handAt .voteUnanimous voteAgree .none (wordOf sn) n s2
    else handAt .vote voteAgree (absentPeers s2) (wordOf sn) n s2
  if prev = .sealed then handStateChange prev .agree s3 else s3

/-- LOCAL-DISSENT on the open vote's cycle (R128), peers already marked. The voting segment stays present for the rollback
(log entry 35). -/
def localDissent (s : State) : State :=
  let n := s.vote.record.cycle
  let sn := s.vote.record.snapshot
  let prev := s.csr.state
  let s1 := abortSource .sourceState true (emptySlots (setState .out s))
  let r := requestRollback .dissent s1
  let s2 := beginPreparation r.2 r.1
  handStateChange prev .dissent (handAt .vote voteLocalDissent (absentPeers s2) (wordOf sn) n s2)

/-- NO-MAJORITY on the open vote's cycle (R129), peers already marked. A rollback that ends at once has its result acted on
last, within the same event (R93, R129). The voting segment stays present for the rollback (log entry 35). -/
def noMajority (s : State) : State :=
  let n := s.vote.record.cycle
  let sn := s.vote.record.snapshot
  let s1 := abortSource .sourceState true (setLatch s)
  let r := requestRollback .noMajority s1
  let s2 := emptySlots (setCounter r.1.csr.committed r.1)
  let s3 := handAt .vote voteNoMajority (absentPeers s2) (wordOf sn) n s2
  match r.2 with
  | some res => actOnResult (some .noMajority) res s3
  | none => s3

/-- The open-vote record takes its cleared form (R123). -/
def clearVote (s : State) : State := { s with vote.record := VoteRecord.cleared }

/-- The outcome that R125 decides, acted on. -/
def actOnVote (s : State) : State :=
  let r := s.vote.record
  if arrivalIs r.snapshot r.arrival0 || arrivalIs r.snapshot r.arrival1 then agree (markPeers (some r.snapshot) s)
  else match peersAgree r with
    | some v => localDissent (markPeers (some v) s)
    | none => noMajority (markPeers none s)

/-- The open vote resolves (R124): the record's copies are compared first; a failed comparison clears the vote and leads to
HALTED (R96). -/
def resolveVote (s : State) : State :=
  match recordUpset s with
  | some u => recordFault u (clearVote s)
  | none => clearVote (actOnVote s)

/-- Every expected peer's SIGN is in the record (R124). -/
def VoteRecord.complete (r : VoteRecord) : Bool :=
  (!r.expected0 || r.arrival0.isSome) && (!r.expected1 || r.arrival1.isSome)

/-- Resolve a vote whose set is complete (R124). -/
def resolveIfComplete (s : State) : State :=
  if s.vote.record.isOpen && s.vote.record.complete then resolveVote s else s

/-! ### The mark (R114 to R116, R162) -/

/-- A peer is expected when its reported state is VOTING or SEALED (R123). -/
def Peer.expected (x : Peer) : Bool := decide (x.state = some .voting) || decide (x.state = some .sealed)

/-- The parked SIGN of an expected peer for cycle n, as an arrival (step 6 of R115). -/
def parkedArrival (n : Cycle) (x : Peer) : Option (Nat × Arrival) :=
  match x.slot with
  | some p => if x.expected && decide (p.cycle = n) then some (p.signature, p.arrival) else none
  | none => none

/-- The record of the vote that a mark opens on cycle n (R123). -/
def openRecord (n : Cycle) (s : State) : VoteRecord :=
  { isOpen := true, cycle := n, snapshot := s.sig.s, window := some s.mgmt.params.voteWindow
    expected0 := s.vote.peer0.expected, expected1 := s.vote.peer1.expected
    arrival0 := parkedArrival n s.vote.peer0, arrival1 := parkedArrival n s.vote.peer1 }

/-- The dirty maps at a taken mark: Dv takes Do, Do is cleared (step 4 of R115). -/
def rotateMaps (s : State) : State := { s with repair.dv := s.repair.dO, repair.dO := [] }

/-- SIGN goes out on each link that is UP (R116). -/
def sendSign (s : State) : State :=
  let pl (t : State) : Payload := .sign t.vote.record.cycle t.csr.committed (some t.csr.state) (wordOf t.vote.record.snapshot)
  send .link2 (pl s) (send .link1 (pl s) s)

/-- Step 8 of R115: a source in PASS counts the mark, gives up above REPAIR-CYCLE-LIMIT, or enters CATCHUP for the mark's
cycle; with R already empty CLOSE follows at once (R162, R163). -/
def countMark (s : State) : State :=
  match s.repair.role with
  | .source r =>
    if r.phase = .pass then
      let s1 := { s with repair.role := .source { r with cycles := r.cycles + 1 } }
      if s.mgmt.params.repairCycleLimit < r.cycles + 1 then abortSource .noConverge true s1
      else if s.repair.r.length ≤ s.mgmt.params.catchupLines then
        closeIfDone { s1 with repair.role := .source { r with
          cycles := r.cycles + 1, phase := .catchup, closeCycle := s.vote.record.cycle, target := s.vote.record.snapshot
          catchupTimer := some s.mgmt.params.catchupLimit } }
      else s1
    else s
  | _ => s

/-- The refusal-reported flag is cleared (R12, R114). -/
def clearReported (s : State) : State := { s with port.refusalReported := false }

/-- A mark taken in SEALED or VOTING opens its vote (R115). -/
def openMark (s : State) : State :=
  let n := openCycle s
  let s1 := rotateMaps (moveBoundary (setCounter n s))
  let s2 := clearReported { s1 with vote.skewReported := false }
  let s3 := emptySlots { s2 with vote.record := openRecord n s }
  countMark (sendSign s3)

/-- A mark is taken: it opens its vote, and a vote whose set is complete resolves at once (R115, R124). -/
def takeMark (s : State) : State := resolveIfComplete (openMark s)

/-- A decided write to the mark word (R114). -/
def markWord (s : State) : State :=
  if s.csr.state = .unconfigured then clearReported s
  else match recordUpset s with
    | some u => recordFault u s
    | none => if s.csr.state.marking then takeMark s else clearReported s

/-! ### Use of an arriving SIGN (R118 to R122) -/

/-- Details of PEER-SKEW: the arrival's code (R122, Table 11-5). -/
def reportSkew (x : Identity) (m : Cycle) (how : Arrival) (s : State) : State :=
  if s.vote.skewReported then s
  else { hand .peerSkew how.code (.peer x) (wordOf m.toNat) s with vote.skewReported := true }

/-- Park a SIGN in its originator's slot if the slot is empty (Table 7-2). -/
def parkSign (x : Identity) (p : Parked) (s : State) : State :=
  updPeer x (fun y => if y.slot = none then { y with slot := some p } else y) s

/-- Store a SIGN for the open cycle in the record, if its originator is expected and has no arrival yet; the vote resolves
when that completes the set (Table 7-2, R124). -/
def storeArrival (x : Identity) (sg : Nat) (how : Arrival) (s : State) : State :=
  match peerSlot s x with
  | some false =>
    if s.vote.record.expected0 && decide (s.vote.record.arrival0 = none) then
      resolveIfComplete { s with vote.record.arrival0 := some (sg, how) }
    else s
  | some true =>
    if s.vote.record.expected1 && decide (s.vote.record.arrival1 = none) then
      resolveIfComplete { s with vote.record.arrival1 := some (sg, how) }
    else s
  | none => s

/-- Table 7-2: what is done with a SIGN from X for cycle m. -/
def useSign (x : Identity) (m : Cycle) (sg : Nat) (how : Arrival) (s : State) : State :=
  let d := aheadBy m s.csr.counter
  if s.csr.state.signed && !rolling s then
    if d = 0 then (if s.vote.record.isOpen then storeArrival x sg how s else s)
    else if d = 1 then parkSign x { cycle := m, signature := sg, arrival := how } s
    else if d ≤ 2147483647 then reportSkew x m how s
    else s
  else s

/-- Replace a peer's report (R118), and keep the watch of HELD (R131). -/
def updateReport (x : Identity) (st : Option ChannelState) (counter committed : Cycle) (s : State) : State :=
  heldWatch (updPeer x (fun y => { y with state := st, counter := counter, committed := committed }) s)

/-- Send a direct SIGN on over the other link (R119); a state outside the list goes on as 0 (log entry 39). -/
def forwardSign (l : LinkId) (f : Frame) (s : State) : State :=
  match s.mgmt.params.channelId with
  | none => s
  | some me => if f.relayed then s else sendFrame (otherLink l) { f with relayed := true, sender := me } s

end Sys2Proof.Machine
end

