-- ==== Sys2Proof/Machine/Links.lean ====
section
/-! DEFINITION. The cross-channel links: HAILING, MISMATCH, UP, leaving UP, modes, timers, and the checks that every received
frame passes (chapter 8). -/

namespace Sys2Proof.Machine

/-- Entry to HAILING (R138): in ACTIVE mode the hail timer starts and a HAIL goes out at once. -/
def enterHailing (l : LinkId) (s : State) : State :=
  let s1 := updLink l (fun k => { k with
    status := .hailing, heard := none, peer := none, silenceTimer := none, beatTimer := none, quietTimer := none
    hailTimer := if k.mode = .active then some Config.hailMs else none }) s
  if (getLink s l).mode = .active then sendHail l s1 else s1

/-- The repair unit is told that the link to a peer has left UP (step 4 of R144): a role whose partner was reached over the
link is aborted with LINK-LOST; an outstanding REQUEST fails as at its expiry (R155). -/
def repairLinkLost (l : LinkId) (x : Identity) (s : State) : State :=
  match s.repair.role with
  | .source r => if r.link = l then abortSource .linkLost false s else s
  | .joiner j =>
    if j.receiving then (if j.link = some l then abortReceiving .linkLost false s else s)
    else if j.phase = .requesting ∧ j.candidate = some x then failTry s
    else s
  | .none => s

/-- Leaving UP (R144) towards another link state, which the link has from the first effect on. -/
def leaveUp (l : LinkId) (c : LinkCause) (next : LinkStatus) (s : State) : State :=
  let former := (getLink s l).peer
  let s1 := updLink l (fun k => { k with
    status := next, silenceTimer := none, beatTimer := none, buffer := [], holdSent := false, peerHolding := false }) s
  match former with
  | some x =>
    let s2 := repairLinkLost l x (updPeer x (fun y => { y with link := none, state := none }) s1)
    updLink l (fun k => { k with peer := none }) (hand .linkState c.code (.link l) (wordOf x.code) s2)
  | none => s1

/-- Entry to UP with a peer (R141); the peer's report is already the HAIL's. -/
def enterUp (l : LinkId) (x : Identity) (s : State) : State :=
  let s1 := updLink l (fun k => { k with
    status := .up, peer := some x, heard := none, hailTimer := none, silenceTimer := some (silenceTime s)
    beatTimer := some s.mgmt.params.beat, holdSent := false, peerHolding := false }) s
  hand .linkState LinkCause.handshake.code (.link l) (wordOf x.code) (updPeer x (fun y => { y with link := some l }) s1)

/-- The three conditions of R139, as the detail and the value of the CONFIG-MISMATCH record of the first that fails (Table
8-6); `none` when the HAIL is matching. -/
def hailConflict (l : LinkId) (digest : BitVec 32) (sender : Identity) (s : State) : Option (Nat × Word) :=
  let o := getLink s (otherLink l)
  if digest ≠ s.mgmt.digest then some (1, wordOf digest.toNat)
  else if s.mgmt.params.channelId = some sender then some (2, wordOf sender.code)
  else if o.status = .up ∧ o.peer = some sender then some (3, wordOf sender.code)
  else none

/-- Entry to MISMATCH from HAILING (R140). A PASSIVE link replies to the HAIL that brings it there (R134, R140; log entry
19). -/
def enterMismatch (l : LinkId) (u : Nat × Word) (s : State) : State :=
  let s1 := hand .configMismatch u.1 (.link l) u.2 (updLink l (fun k => { k with status := .mismatch, heard := none }) s)
  if (getLink s l).mode = .passive then sendHail l s1 else s1

/-- The fields of a HAIL that its receiver uses. -/
structure Hail where
  ack : Bool
  mismatch : Bool
  sender : Identity
  digest : BitVec 32
  state : Option ChannelState
  counter : Cycle
  committed : Cycle
  deriving DecidableEq, Repr

/-- A HAIL received in HAILING (R139, Table 8-5). -/
def hailInHailing (l : LinkId) (h : Hail) (s : State) : State :=
  match hailConflict l h.digest h.sender s with
  | some u => enterMismatch l u s
  | none =>
    let s1 := updateReport h.sender h.state h.counter h.committed s
    if h.mismatch then updLink l (fun k => { k with heard := none }) s1
    else if !h.ack then sendHail l (updLink l (fun k => { k with heard := some h.sender }) s1)
    else if (getLink s l).heard = some h.sender then enterUp l h.sender s1
    else enterUp l h.sender (sendHail l (updLink l (fun k => { k with heard := some h.sender }) s1))

/-- A HAIL received in MISMATCH (R140). A matching one is answered, on a PASSIVE link too, as Table 8-5 gives and not with the
MISMATCH flag besides: DESIGN CHOICE, log entry 57. -/
def hailInMismatch (l : LinkId) (h : Hail) (s : State) : State :=
  match hailConflict l h.digest h.sender s with
  | some _ => if (getLink s l).mode = .passive then sendHail l s else s
  | none => hailInHailing l h (enterHailing l s)

/-- The silence timer starts again (R142). -/
def restartSilence (l : LinkId) (s : State) : State :=
  updLink l (fun k => { k with silenceTimer := some (silenceTime s) }) s

/-- A HAIL received in UP (R143). -/
def hailInUp (l : LinkId) (h : Hail) (s : State) : State :=
  if (getLink s l).peer = some h.sender ∧ h.digest = s.mgmt.digest ∧ h.ack = true ∧ h.mismatch = false then
    updateReport h.sender h.state h.counter h.committed (restartSilence l s)
  else hailInHailing l h (enterHailing l (leaveUp l .restart .hailing s))

/-- A checked HAIL is taken according to the link state (Table 8-4). -/
def takeHail (l : LinkId) (h : Hail) (s : State) : State :=
  match (getLink s l).status with
  | .hailing => hailInHailing l h s
  | .mismatch => hailInMismatch l h s
  | .up => hailInUp l h s
  | .down => s
  | .quiet => s

/-- Count a discarded frame (R136, R149). -/
def countBad (l : LinkId) (s : State) : State := updLink l (fun k => { k with badFrames := satSucc k.badFrames }) s

/-- The reception of the bytes of a frame on a link (R136, R137): nothing is taken in DOWN and QUIET; a frame that fails a
check is counted; a checked HAIL goes to `use`; a checked frame of another kind goes there in UP only, from the peer only,
and restarts the silence timer. Bytes that are a good frame of a kind other than the step's are not the step's (log entry
10). -/
def receiveFrame (l : LinkId) (kind : FrameKind) (raw : List Byte) (use : Frame → State → State) (s : State) : State :=
  let k := getLink s l
  if k.status = .down ∨ k.status = .quiet then s
  else match checkFrame raw with
    | none => countBad l s
    | some f =>
      if f.kind ≠ kind then s
      else if kind = .hail then use f s
      else if k.status ≠ .up then s
      else if k.peer ≠ some f.sender then countBad l s
      else use f (restartSilence l s)

/-- Entry to DOWN by mode OFF (R134): every timer of the link stops. -/
def enterDown (l : LinkId) (s : State) : State :=
  let s1 := if (getLink s l).status = .up then leaveUp l .modeOff .down s else s
  updLink l (fun k => { k with
    status := .down, hailTimer := none, quietTimer := none, silenceTimer := none, beatTimer := none }) s1

/-- A change between PASSIVE and ACTIVE, or to one of them from OFF (Table 8-2). -/
def changeHailing (l : LinkId) (m : LinkMode) (s : State) : State :=
  match (getLink s l).status with
  | .down => if s.csr.state = .unconfigured then s else enterHailing l s
  | .hailing =>
    if m = .active then updLink l (fun k => { k with hailTimer := some Config.hailMs }) (sendHail l s)
    else updLink l (fun k => { k with hailTimer := none }) s
  | .mismatch =>
    if m = .active then updLink l (fun k => { k with hailTimer := some Config.hailMs }) (sendHail l s)
    else updLink l (fun k => { k with hailTimer := none }) s
  | .up => s
  | .quiet => s

/-- A link's mode is set (R134, Table 8-2). -/
def setMode (l : LinkId) (m : LinkMode) (s : State) : State :=
  if (getLink s l).mode = m then s
  else
    let s1 := updLink l (fun k => { k with mode := m }) s
    if m = .off then enterDown l s1 else changeHailing l m s1

/-- What a link does when COMMIT-TABLES succeeds (R146). -/
def commitLink (l : LinkId) (s : State) : State :=
  if (getLink s l).mode = .off then s
  else if (getLink s l).status = .up then enterHailing l (leaveUp l .tables .hailing s)
  else enterHailing l s

/-- The expiry of the hail timer (R138, R140). -/
def hailExpiry (l : LinkId) (s : State) : State :=
  if (getLink s l).hailTimer.isSome then
    updLink l (fun k => { k with hailTimer := some Config.hailMs }) (sendHail l s)
  else s

/-- The expiry of the quiet timer (R145). -/
def quietExpiry (l : LinkId) (s : State) : State := if (getLink s l).quietTimer.isSome then enterHailing l s else s

/-- The expiry of the silence timer (R142, R145). -/
def silenceExpiry (l : LinkId) (s : State) : State :=
  if (getLink s l).silenceTimer.isSome then
    leaveUp l .silence .quiet (updLink l (fun k => { k with quietTimer := some Config.quietMs }) s)
  else s

/-- The expiry of the beat timer: a BEAT is sent, which starts the timer again (R142). -/
def beatExpiry (l : LinkId) (s : State) : State :=
  if (getLink s l).beatTimer.isSome then send l (.beat (some s.csr.state) s.csr.counter s.csr.committed) s else s

end Sys2Proof.Machine
end

