-- ==== Sys2Proof/Machine/Exchange.lean ====
section
/-! DEFINITION. What the two sides of a repair do with each other's frames and with the expiry of their timers (chapter 9),
and the receive buffer's flow control (R147, R148). -/

namespace Sys2Proof.Machine

/-! ### At the joiner -/

/-- ACCEPT for the outstanding REQUEST (R159). -/
def enterReceiving (l : LinkId) (x : Identity) (j : JoinerRole) (s : State) : State :=
  changeState .receiving .accepted
    { s with repair.role := .joiner { j with
        phase := .receiving, replyTimer := none, candidate := none, source := some x, link := some l, linesWritten := 0
        receiveTimer := some s.mgmt.params.rejoinRetry } }

/-- An ACCEPT is taken (R155, R159); one with no outstanding REQUEST to its sender is answered with ABORT, STALLED. -/
def takeAccept (l : LinkId) (x : Identity) (s : State) : State :=
  match s.repair.role with
  | .joiner j =>
    if j.phase = .requesting ∧ j.candidate = some x then enterReceiving l x j s else send l (.abort .stalled) s
  | _ => send l (.abort .stalled) s

/-- A REFUSE is taken (Table 9-3). -/
def takeRefuse (x : Identity) (why : RefuseReason) (s : State) : State :=
  match s.repair.role with
  | .joiner j =>
    if j.phase = .requesting ∧ j.candidate = some x then
      match why with
      | .tooOld => sendRequest x { s with repair.role := .joiner { j with base := none, baseLost := true, need := [] } }
      | .busy => failTry s
      | .notEligible => failTry s
    else s
  | _ => s

/-- The receive timer starts again at a LINE from the source, while RECEIVING (R165). -/
def restartReceiveTimer (l : LinkId) (s : State) : State :=
  match s.repair.role with
  | .joiner j =>
    if j.phase = .receiving ∧ j.link = some l then
      { s with repair.role := .joiner { j with receiveTimer := some s.mgmt.params.rejoinRetry } }
    else s
  | _ => s

/-- A LINE from the source taken after the CLOSE: it is placed as any other and dropped without a write (R147, R167; log entry
21). -/
def lineTooLate (l : LinkId) (s : State) : Bool :=
  match s.repair.role with
  | .joiner j => decide (j.phase = .closing ∧ j.link = some l)
  | _ => false

/-- HOLD goes out when the buffer holds 3 frames or more and hold sent is clear (R147). -/
def holdIfFull (l : LinkId) (s : State) : State :=
  if 3 ≤ (getLink s l).buffer.length ∧ (getLink s l).holdSent = false then
    updLink l (fun k => { k with holdSent := true }) (send l .hold s)
  else s

/-- An accepted LINE reaches the receive buffer (R147); a frame that no receive-write takes is dropped (R165). -/
def takeLine (l : LinkId) (f : LineFrame) (s : State) : State :=
  let s1 := restartReceiveTimer l s
  if Config.bufferDepth ≤ (getLink s l).buffer.length then
    updLink l (fun k => { k with discards := satSucc k.discards }) s1
  else
    let f1 := { f with late := lineTooLate l s }
    dropLines l (holdIfFull l (updLink l (fun k => { k with buffer := k.buffer ++ [f1] }) s1))

/-- CLOSE from the source while RECEIVING (R167). -/
def takeClose (x : Identity) (cyc : Cycle) (lines : BitVec 32) (target : Word) (s : State) : State :=
  match s.repair.role with
  | .joiner j =>
    if j.phase = .receiving ∧ j.source = some x then
      { s with repair.role := .joiner { j with
          phase := .closing, receiveTimer := none, closeCycle := cyc, closeTarget := target.toNat
          closeLines := lines.toNat } }
    else s
  | _ => s

/-! ### At the source -/

/-- Initial repair map by base (Table 9-4); `none` is TOO-OLD. -/
def initialMap (base : Option Cycle) (s : State) : Option (List Nat) :=
  match base with
  | none => some (List.range (numVital s))
  | some b =>
    if b = s.csr.committed then some (setUnion s.repair.dv s.repair.dO)
    else if b = s.csr.committed - 1 ∧ s.repair.dcValid = true then
      some (setUnion s.repair.dc (setUnion s.repair.dv s.repair.dO))
    else none

/-- The need list's ordinals that lie below V (step 1 of R158). -/
def needBelow (v : Nat) (need : List (BitVec 32)) : List Nat := (need.map BitVec.toNat).filter (fun o => decide (o < v))

/-- The source takes its role (R158); with the peer-holding flag already set the hold timer starts (R161); in HELD with R
empty, CLOSE follows (R164). -/
def acceptRequest (l : LinkId) (x : Identity) (base : Option Cycle) (r : List Nat) (s : State) : State :=
  let role : SourceRole :=
    { joiner := x, link := l, base := base, phase := .pass, cycles := 0, linesSent := 0, scan := 0, captured := none
      holdTimer := if (getLink s l).peerHolding then some s.mgmt.params.holdLimit else none
      catchupTimer := none, verdictTimer := none, closeCycle := 0, target := 0 }
  let s1 := setRelation x (some .sourceOf) { s with repair.r := r, repair.role := .source role }
  let s2 := send l (.accept base (BitVec.ofNat 32 r.length)) s1
  closeIfDone (hand .repair repairAccepted (.peer x) (wordOf r.length) s2)

/-- A REQUEST is checked and refused, or accepted (R157, R158). -/
def takeRequest (l : LinkId) (x : Identity) (base : Option Cycle) (need : List (BitVec 32)) (s : State) : State :=
  if s.csr.state ≠ .voting ∧ s.csr.state ≠ .held then send l (.refuse .notEligible) s
  else if s.repair.role ≠ .none then send l (.refuse .busy) s
  else match initialMap base s with
    | none => send l (.refuse .tooOld) s
    | some r => acceptRequest l x base (setUnion r (needBelow (numVital s) need)) s

/-- An accepted HOLD (R148, R161). -/
def takeHold (l : LinkId) (s : State) : State :=
  if (getLink s l).peerHolding then s
  else
    let s1 := updLink l (fun k => { k with peerHolding := true }) s
    match s.repair.role with
    | .source r =>
      if r.link = l ∧ r.phase ≠ .awaitVerdict then
        { s1 with repair.role := .source { r with holdTimer := some s.mgmt.params.holdLimit } }
      else s1
    | _ => s1

/-- An accepted GO (R148, R161): the hold timer stops and a waiting captured frame is handed. -/
def takeGo (l : LinkId) (s : State) : State :=
  if (getLink s l).peerHolding then
    let s1 := updLink l (fun k => { k with peerHolding := false }) s
    match s.repair.role with
    | .source r =>
      if r.link = l then
        let r1 := { r with holdTimer := none }
        match r.captured with
        | some f => closeIfDone (sendLine r1 f s1)
        | none => { s1 with repair.role := .source r1 }
      else s1
    | _ => s1
  else s

/-- The automatic return of a source in HELD after a MATCH (R105). -/
def servedReturn (s : State) : State :=
  if s.csr.state = .held then changeState .voting .served (setCounter s.csr.committed s) else s

/-- A VERDICT from the joiner in AWAIT-VERDICT (R169). -/
def takeVerdict (x : Identity) (v : Verdict) (s : State) : State :=
  match s.repair.role with
  | .source r =>
    if r.phase = .awaitVerdict ∧ r.joiner = x then
      let s1 := hand .repair (repairVerdict v) (.peer x) (wordOf r.linesSent) (endSource r s)
      if v = .matched then servedReturn s1 else s1
    else s
  | _ => s

/-! ### At either side -/

/-- An ABORT from the partner (R170); the joiner in REQUESTING has none yet (log entry 17). -/
def takeAbort (x : Identity) (why : AbortReason) (s : State) : State :=
  match s.repair.role with
  | .source r => if r.joiner = x then abortSource why false s else s
  | .joiner j => if j.receiving ∧ j.source = some x then abortReceiving why false s else s
  | .none => s

/-- The reply timer (Table 9-3). -/
def replyExpiry (s : State) : State :=
  match s.repair.role with
  | .joiner j => if j.phase = .requesting ∧ j.replyTimer ≠ none then failTry s else s
  | _ => s

/-- The retry timer (R156). -/
def retryExpiry (s : State) : State :=
  match s.repair.role with
  | .joiner j => if j.phase = .retryWait ∧ j.retryTimer ≠ none then beginSequence s else s
  | _ => s

/-- The receive timer (R165). -/
def receiveExpiry (s : State) : State :=
  match s.repair.role with
  | .joiner j => if j.phase = .receiving ∧ j.receiveTimer ≠ none then abortReceiving .stalled true s else s
  | _ => s

/-- The hold timer (R161). -/
def holdExpiry (s : State) : State :=
  match s.repair.role with
  | .source r => if r.holdTimer ≠ none then abortSource .stalled true s else s
  | _ => s

/-- The catch-up timer (R163). -/
def catchupExpiry (s : State) : State :=
  match s.repair.role with
  | .source r => if r.catchupTimer ≠ none then abortSource .stalled true s else s
  | _ => s

/-- The verdict timer (R169). -/
def verdictExpiry (s : State) : State :=
  match s.repair.role with
  | .source r => if r.verdictTimer ≠ none then abortSource .stalled true s else s
  | _ => s

end Sys2Proof.Machine
end

