-- ==== Sys2Proof/Machine/Sparing.lean ====
section
/-! DEFINITION. The line sparing unit: RETIRE-LINE's effect on the suspect table, the choice of a spare, the spare test, the
line copy and exhaustion (chapter 3). -/

namespace Sys2Proof.Machine

/-- Details of LINE-SUSPECT, SPARE-DONE and SPARE-BAD (Table 11-5). -/
def suspectRetired : Nat := 3
def spareFirst : Nat := 1
def spareRespared : Nat := 2
def spareMismatch : Nat := 1
def spareCorrected : Nat := 2
def spareUncorrectable : Nat := 3

/-- The line of the spare-pending entry in the lowest-indexed slot (R48). -/
def firstPending : List (Option Suspect) → Option Nat
  | [] => none
  | some e :: es => if e.pending then some e.line else firstPending es
  | none :: es => firstPending es

/-- Set one remap entry. -/
def setRemap (i : Nat) (e : RemapEntry) (s : State) : State := { s with spare.remap := s.spare.remap.set i e }

/-- A READY spare is taken for line L: the copy begins, as a first sparing or a re-sparing (R52). The fields of a
test keep their values (log entry 23). -/
def beginCopy (i l : Nat) (s : State) : State :=
  let s1 := match activeSpare s l with
    | some t => setRemap t .bad s
    | none => s
  setRemap i (.copying l)
    { s1 with spare.op := { s.spare.op with kind := .copying, spare := i, target := l, source := readLine s l, cursor := 0 } }

/-- The lowest UNTESTED spare is tested for line L (step 2 of R49, R50). The fields of a copy keep their values (log entry
23). -/
def beginTest (i l : Nat) (s : State) : State :=
  { s with spare.op := { s.spare.op with kind := .testing, spare := i, pass := .a, phase := .write, word := 0, serving := l } }

/-- The spares are exhausted (R51). -/
def exhaust (l : Nat) (s : State) : State :=
  let s1 := { s with
    spare.suspects := updSuspect l (fun e => { e with pending := false }) s.spare.suspects
    spare.op := { s.spare.op with kind := .idle } }
  if s.spare.exhaustionReported then s1
  else hand .sparesExhausted 0 (.line l) (wordOf (s.spare.remap.countP (fun e => decide (e = .bad))))
    { s1 with spare.exhaustionReported := true }

/-- The choice of a spare for the served line (R49). -/
def chooseSpare (l : Nat) (s : State) : State :=
  match findRemap (fun e => decide (e = .ready)) s.spare.remap 0 with
  | some i => beginCopy i l s
  | none => match findRemap (fun e => decide (e = .untested)) s.spare.remap 0 with
    | some i => beginTest i l s
    | none => exhaust l s

/-- Serve the lowest spare-pending slot while the operation record is IDLE (R48). -/
def servePending (s : State) : State :=
  if s.spare.op.kind = .idle then
    match firstPending s.spare.suspects with
    | some l => chooseSpare l s
    | none => s
  else s

/-- Pattern A of a word has its address in both halves; pattern B is the inverse (R37, R50). -/
def testPattern (p : Pass) (a : Nat) : Word :=
  match p with
  | .a => wordOf (a % 4294967296 * 4294967297)
  | .b => ~~~ wordOf (a % 4294967296 * 4294967297)

/-- The physical word that a spare test reaches next. -/
def spareTestAddr (s : State) : Nat := spareLine s s.spare.op.spare * 256 + s.spare.op.word

/-- The spare failed its test at a word (R50): BAD, SPARE-BAD, and the choice for the same entry again. -/
def spareFails (detail : Nat) (s : State) : State :=
  let s1 := setRemap s.spare.op.spare .bad { s with spare.op := { s.spare.op with kind := .idle } }
  chooseSpare s.spare.op.serving
    (hand .spareBad detail (.line (spareLine s s.spare.op.spare)) (wordOf (spareTestAddr s)) s1)

/-- The spare passed all 512 reads (R50): READY, and the choice for the same entry again. -/
def sparePasses (s : State) : State :=
  chooseSpare s.spare.op.serving
    (setRemap s.spare.op.spare .ready { s with spare.op := { s.spare.op with kind := .idle } })

/-- The next word, phase or pass of a spare test; after the last read the spare has passed. -/
def spareTestNext (s : State) : State :=
  let o := s.spare.op
  if o.word < 255 then { s with spare.op := { o with word := o.word + 1 } }
  else match o.phase, o.pass with
    | .write, _ => { s with spare.op := { o with phase := .read, word := 0 } }
    | .read, .a => { s with spare.op := { o with pass := .b, phase := .write, word := 0 } }
    | .read, .b => sparePasses s

/-- One grant of a spare test (R50): by physical address, and neither corrected nor counted. -/
def spareTestBody (s : State) : State :=
  let a := spareTestAddr s
  let v := testPattern s.spare.op.pass a
  match s.spare.op.phase with
  | .write => spareTestNext (poke a (goodWord a v) s)
  | .read => match decodeStored (s.mem.read a) a with
    | .clean w => if w = v then spareTestNext s else spareFails spareMismatch s
    | .corrected _ => spareFails spareCorrected s
    | .uncorrectable _ => spareFails spareUncorrectable s

/-- The copy completes after word 255 (R55). -/
def copyComplete (s : State) : State :=
  let o := s.spare.op
  let s1 := setRemap o.spare (.active o.target) { s with spare.suspects := removeSuspect o.target s.spare.suspects }
  let s2 := hand .spareDone (if o.source = o.target then spareFirst else spareRespared) (.line o.target)
    (wordOf (spareLine s o.spare)) s1
  { s2 with spare.op := { o with kind := .idle } }

/-- The cursor moves on after a copy step (R53, R55). -/
def copyAdvance (s : State) : State :=
  let s1 := { s with spare.op := { s.spare.op with cursor := s.spare.op.cursor + 1 } }
  if s1.spare.op.cursor < 256 then s1 else copyComplete s1

/-- What one grant of a line copy does (R53), and the word it read UNCORRECTABLE: a word of the source goes to the spare,
poison for an uncorrectable one. -/
def copyWork (s : State) : State × List Nat :=
  let o := s.spare.op
  let a := o.target * 256 + o.cursor
  let place := spareLine s o.spare * 256 + o.cursor
  let r := readWord .copy a s
  match r.1 with
  | .clean v => (copyAdvance (poke place (goodWord a v) r.2), [])
  | .corrected v => (copyAdvance (poke place (goodWord a v) r.2), [])
  | .uncorrectable raw => (copyAdvance (poke place (poisonWord raw) r.2), [a])

/-- One grant of a line copy (R53). Where word 255 reads UNCORRECTABLE, the copy completes with its SPARE-DONE record (R55)
before the consequences of the word (R26): the model's choice (log entry 33). -/
def copyBody (s : State) : State := consequences .copy (copyWork s).2 (copyWork s).1

/-- RETIRE-LINE on a line of a valid region (R46); `none` is ENGINE-BUSY: all 16 entries are spare-pending. -/
def retireSuspect (l : Nat) (s : State) : Option State :=
  match findSuspect s.spare.suspects l with
  | some e =>
    if e.pending then some s
    else some (hand .lineSuspect suspectRetired (.line l) (wordOf e.count)
      { s with spare.suspects := updSuspect l (fun e => { e with pending := true }) s.spare.suspects })
  | none =>
    match placeSuspect { line := l, count := 1, recency := 0, pending := true } s.spare.suspects with
    | some t => some (hand .lineSuspect suspectRetired (.line l) 1 { s with spare.suspects := t })
    | none => none

end Sys2Proof.Machine
end

