-- ==== Sys2Proof/Machine/Engines.lean ====
section
/-! DEFINITION. The grants of the scrub engine, the rebuild walk, the rollback, the repair unit and the event unit, each a
whole step at the memory port (chapters 2, 4, 5, 9, 10). Who is granted is decided in Arbiter.lean. -/

namespace Sys2Proof.Machine

/-! ### The scrub walk (R32 to R35) -/

/-- The word the walk reads next: the cursor, moved to the lowest covered line above it when its line is not covered
(R32). The cursor itself moves there only within the step that reads the word: DESIGN CHOICE, log entry 56. -/
def scrubPlace (s : State) : Option (Nat × Nat) :=
  match nextCovered s.regions.committed s.scrub.line with
  | some l => if l = s.scrub.line then some (l, s.scrub.word) else some (l, 0)
  | none => none

/-- A completed pass (R34). -/
def passComplete (s : State) : State :=
  let s1 := { s with scrub.passCount := s.scrub.passCount + 1, spare.suspects := decaySuspects s.spare.suspects }
  let s2 := hand .scrubPass 0 .none (wordOf s1.scrub.passCount.toNat) s1
  match nextCovered s.regions.committed 0 with
  | some l => { s2 with scrub.line := l, scrub.word := 0 }
  | none => s2

/-- The cursor advances past a word (R32, R34). -/
def scrubAdvance (l w : Nat) (s : State) : State :=
  if w < 255 then { s with scrub.line := l, scrub.word := w + 1 }
  else match nextCovered s.regions.committed (l + 1) with
    | some m => { s with scrub.line := m, scrub.word := 0 }
    | none => passComplete s

/-- Reading word 0 of a line uses one unit of allowance (R33). -/
def spendAllowance (w : Nat) (s : State) : State :=
  if w = 0 then { s with scrub.allowance := s.scrub.allowance - 1 } else s

/-- What one scrub step reads and writes, and the word it read UNCORRECTABLE (R32). A cursor on a line that is not covered
moves within the step (log entry 56). -/
def scrubWork (s : State) : State × List Nat :=
  match scrubPlace s with
  | none => (s, [])
  | some (l, w) =>
    let r := readWord .scrub (l * 256 + w) (spendAllowance w s)
    (scrubAdvance l w r.2, badWords [(l * 256 + w, r.1)])

/-- One scrub step (R32), with the consequences of its word at the grant's end (R26, R30). The step itself, a pass that it
completes among it (R34), comes before those consequences: DESIGN CHOICE, log entry 33. -/
def scrubBody (s : State) : State := consequences .scrub (scrubWork s).2 (scrubWork s).1

/-! ### The proof test and the initialise (R36 to R40) -/

/-- The proof test ends with a status: PROOF-RESULT (R38). -/
def proofEnds (st : ProofStatus) (v : Word) (s : State) : State :=
  hand .proofResult (st.code - 2) (.line s.scrub.proof.first) v { s with scrub.proof.status := st }

/-- A fault found by a read (R37). -/
def proofFault (a : Nat) (expected found : Word) (how : FaultOutcome) (s : State) : State :=
  proofEnds .failed (wordOf a)
    { s with scrub.proof := { s.scrub.proof with faultAddr := a, expected := expected, found := found, outcome := how } }

/-- The next word, phase, pass or loop; without a loop the test has passed after pass B (R37). The pass field turns within the
last read of a pass: DESIGN CHOICE, log entry 55. -/
def proofNext (s : State) : State :=
  let p := s.scrub.proof
  if p.position + 1 < p.count * 256 then { s with scrub.proof := { p with position := p.position + 1 } }
  else match p.phase, p.pass with
    | .write, _ => { s with scrub.proof := { p with phase := .read, position := 0 } }
    | .read, .a => { s with scrub.proof := { p with pass := .b, phase := .write, position := 0 } }
    | .read, .b =>
      if p.loop then
        { s with scrub.proof := { p with loops := satSucc p.loops, pass := .a, phase := .write, position := 0 } }
      else proofEnds .passed (wordOf p.loops) s

/-- One grant of the proof test (R37), in HALTED and on VITAL words too (log entry 37). -/
def proofBody (s : State) : State :=
  let p := s.scrub.proof
  let a := p.first * 256 + p.position
  let v := testPattern p.pass a
  match p.phase with
  | .write => proofNext (writeWord a v s)
  | .read =>
    let r := readWord .proofTest a s
    match r.1 with
    | .clean w => if w = v then proofNext r.2 else proofFault a v w .clean r.2
    | .corrected w => proofFault a v w .corrected r.2
    | .uncorrectable raw => consequences .proofTest [a] (proofFault a v raw .uncorrectable r.2)

/-- Details of INIT-DONE (Table 11-5). -/
def initComplete : Nat := 1
def initStopped : Nat := 2

/-- The initialise ends (R40). -/
def initEnds (st : InitStatus) (detail : Nat) (s : State) : State :=
  hand .initDone detail (.line s.scrub.init.first) (wordOf s.scrub.init.written) { s with scrub.init.status := st }

/-- One grant of the initialise (R40), in HALTED and on VITAL words too (log entry 37). -/
def initBody (s : State) : State :=
  let s1 := writeWord (s.scrub.init.first * 256 + s.scrub.init.written) 0 s
  let s2 := { s1 with scrub.init.written := s.scrub.init.written + 1 }
  if s2.scrub.init.written < s2.scrub.init.count * 256 then s2 else initEnds .idle initComplete s2

/-- A running proof test or initialise is ended early (R39). -/
def stopEngine (s : State) : State :=
  if s.scrub.proof.status = .running then proofEnds .stopped (wordOf s.scrub.proof.loops) s
  else if s.scrub.init.status = .running then initEnds .stopped initStopped s
  else s

/-! ### The rebuild walk (R70, R74, R77, R79) -/

/-- The hashes of a line's words join the accumulator; in the preparation walk an uncorrectable word is stored as zero, hashed
as zero, and its line listed (R70, R77). -/
def rebuildWords (o : Nat) : List (Nat × ReadOutcome) → State → State
  | [], s => s
  | (a, .clean v) :: rs, s => rebuildWords o rs (addHash a v s)
  | (a, .corrected v) :: rs, s => rebuildWords o rs (addHash a v s)
  | (a, .uncorrectable _) :: rs, s => rebuildWords o rs (listPoisoned o (addHash a 0 (writeWord a 0 s)))

/-- Seal completion (R74). -/
def sealComplete (s : State) : State :=
  let s1 := setC s.sig.acc { s with sig.s := s.sig.acc, sig.valid := true }
  let s2 := emptySlots (emptyJournal (setCommitted 0 (setCounter 0 s1)))
  let s3 := changeState .sealed .sealDone (stopWalk (clearDirty s2))
  hand .commandDone sealDoneDetail (.command codeSeal) (wordOf s3.sig.s) s3

/-- Completion of the preparation walk (R79). -/
def preparationComplete (s : State) : State :=
  finishPreparation (stopWalk { s with sig.s := s.sig.acc, sig.valid := true })

/-- The walk completes when the cursor reaches V (R70). -/
def walkDone (s : State) : State :=
  if s.sig.cursor < numVital s then s
  else match s.sig.walk with
    | .seal => sealComplete s
    | .preparation => preparationComplete s
    | .idle => s

/-- One rebuild step (R70): a seal walk that meets an uncorrectable word aborts at the end of the grant (R73). -/
def rebuildBody (s : State) : State :=
  match lineOf s.regions.committed s.sig.cursor with
  | none => s
  | some l =>
    let o := s.sig.cursor
    let r := readWords .rebuild (lineWords l) s
    let bad := badWords r.1
    if s.sig.walk = .seal ∧ bad ≠ [] then consequences .rebuild bad r.2
    else
      let s1 := rebuildWords o r.1 r.2
      walkDone { s1 with sig.cursor := o + 1 }

/-! ### The rollback (R89 to R92) -/

/-- The rollback ends and its requester acts on the result (R91, R93). -/
def finishRollback (stop : Option Nat) (s : State) : State :=
  let r := endRollback stop s
  actOnResult s.jnl.rb.reason r.2 r.1

/-- Step 6 of R89. -/
def rollbackPointers (i : Nat) (s : State) : State :=
  let j := s.jnl
  rearmPressure
    (if j.openCount = 0 then
      { s with jnl := { j with
          tail := i, boundary := i, votingCount := j.votingCount - 1, rb := { j.rb with undone := j.rb.undone + 1 } } }
    else
      { s with jnl := { j with tail := i, openCount := j.openCount - 1, rb := { j.rb with undone := j.rb.undone + 1 } } })

/-- The rollback has undone its last entry (R89, R91). -/
def rollbackIfDone (s : State) : State := if s.jnl.entries = 0 then finishRollback none s else s

/-- Steps 3 to 6 of R89 for an entry that names word `a` with old value `v`; an unreadable current value follows R92. -/
def undoEntry (i a : Nat) (v : Word) (s : State) : State :=
  let r := readWord .rollback a s
  match r.1 with
  | .clean cur => rollbackIfDone (rollbackPointers i (writeWord a v (updateS a cur v r.2)))
  | .corrected cur => rollbackIfDone (rollbackPointers i (writeWord a v (updateS a cur v r.2)))
  | .uncorrectable _ => rollbackIfDone (consequences .rollback [a] (rollbackPointers i (writeWord a v r.2)))

/-- The cycle tag that the newest entry must carry (step 2 of R89). -/
def expectedTag (j : JournalUnit) : BitVec 16 := if j.openCount = 0 then j.rb.tagVoting else j.rb.tagOpen

/-- One rollback step (R89, R90). A step that ends the rollback ends it with its result and record within its grant, before a
RELEASE that waits for that grant (log entry 53). -/
def rollbackBody (s : State) : State :=
  let cap := journalCapacity s
  let i := (s.jnl.tail + cap - 1) % cap
  let at_ := journalSlot s i
  let r := readWords .rollback [at_, at_ + 1] s
  let bad := badWords r.1
  match deliveredFor at_ r.1, deliveredFor (at_ + 1) r.1 with
  | some w0, some w1 =>
    if (wordOrdinal s (journalAddr w0)).isSome ∧ journalTag w0 = expectedTag s.jnl then undoEntry i (journalAddr w0) w1 r.2
    else finishRollback (some rollbackEntry) (markNewest r.2)
  | _, _ => finishRollback (some rollbackUnreadable) (consequences .rollback bad r.2)

/-! ### The event unit (R183, R184) -/

/-- INT after an event write (R184). -/
def raiseInt (k : EventKind) (s : State) : State :=
  if kindIn k s.mgmt.params.intMask ∧ s.ev.intBusy = false then { s with ev.intLevel := true, ev.intBusy := true } else s

/-- The word addresses and values of a record at a ring index. -/
def recordWords (at_ : Nat) (e : EventRecord) : List (Nat × Word) :=
  [(at_, e.words.getD 0 0), (at_ + 1, e.words.getD 1 0), (at_ + 2, e.words.getD 2 0), (at_ + 3, e.words.getD 3 0)]

/-- One event write: the oldest waiting record goes to the producer index (R183, R184). -/
def eventBody (s : State) : State :=
  match s.ev.waiting with
  | [] => s
  | e :: rest =>
    let s1 := writeWords (recordWords (eventSlot s s.ev.producer) e) s
    raiseInt e.kind { s1 with
      ev.waiting := rest, ev.kinds := s.ev.kinds ++ [e.kind], ev.producer := (s.ev.producer + 1) % eventCapacity s }

/-! ### The repair unit's grants (R160, R165, R166) -/

/-- The values that a grant's reads delivered, in order; 0 where none was. -/
def readValues : List (Nat × ReadOutcome) → List Word
  | [] => []
  | (_, o) :: rs => (match o.value with
      | some v => v
      | none => 0) :: readValues rs

/-- The first ordinal in R at or after the scan position, wrapping (R160). -/
def nextCapture (r : List Nat) (scan : Nat) : Option Nat :=
  match r.find? (fun o => decide (scan ≤ o)) with
  | some o => some o
  | none => r.head?

/-- The captured frame is handed to the link at the grant's end, or waits while the peer holds (R160). -/
def handCaptured (r : SourceRole) (f : LineFrame) (s : State) : State :=
  if (getLink s r.link).peerHolding then { s with repair.role := .source { r with captured := some f } }
  else sendLine r f s

/-- What one line capture does, and the words it read UNCORRECTABLE, which stop the frame (R160). -/
def captureWork (s : State) : State × List Nat :=
  match s.repair.role with
  | .source r => match nextCapture s.repair.r r.scan with
    | none => (s, [])
    | some o => match lineOf s.regions.committed o with
      | none => (s, [])
      | some l =>
        let rd := readWords .capture (lineWords l) s
        let r1 := { r with scan := o + 1 }
        let s1 := { rd.2 with repair.r := setErase o s.repair.r, repair.role := .source r1 }
        if badWords rd.1 = [] then (handCaptured r1 { ordinal := o, words := readValues rd.1 } s1, [])
        else (s1, badWords rd.1)
  | _ => (s, [])

/-- One line capture (R160); an uncorrectable word withdraws the channel at the grant's end (R26, R30). The CLOSE that is due
after the last line follows the grant and is no part of it (R163, R164). -/
def captureBody (s : State) : State := closeIfDone (consequences .capture (captureWork s).2 (captureWork s).1)

/-- The changes of a receive-write: words whose old value was delivered, with the frame's values (R165). -/
def receiveChanges : List (Nat × ReadOutcome) → List Word → List (Nat × Word × Word)
  | (a, o) :: rs, v :: vs => match o.value with
    | some old => (a, old, v) :: receiveChanges rs vs
    | none => receiveChanges rs vs
  | _, _ => []

/-- One more line written (R165). -/
def countLine (s : State) : State :=
  match s.repair.role with
  | .joiner j => { s with repair.role := .joiner { j with linesWritten := satSucc j.linesWritten } }
  | _ => s

/-- One receive-write (R165, R166): old values read, S updated, the frame's values written, the frame taken off. -/
def receiveBody (s : State) : State :=
  match receivingLink s with
  | none => s
  | some k => match (getLink s k).buffer with
    | [] => s
    | f :: rest => match lineOf s.regions.committed f.ordinal with
      | none => s
      | some l =>
        let rd := readWords .receive (lineWords l) s
        let s1 := updateWordsS (receiveChanges rd.1 f.words) rd.2
        let s2 := countLine (writeWords ((lineWords l).zip f.words) s1)
        consequences .receive (badWords rd.1) (dropLines k (leaveBuffer k rest s2))

/-- The joiner's verdict is MATCH (R168). -/
def joinerMatch (j : JoinerRole) (s : State) : State :=
  let s1 := setC s.sig.s (setCommitted j.closeCycle (setCounter j.closeCycle s))
  let s2 := emptySlots (clearDirty (emptyJournal s1))
  let s3 := match j.link with
    | some l => send l (.verdict .matched) s2
    | none => s2
  let s4 := match j.source with
    | some i => setRelation i none { s3 with repair.role := .none }
    | none => { s3 with repair.role := .none }
  let prev := s.csr.state
  let s5 := hand .repair (repairVerdict .matched) (partnerSubject j.source) (wordOf j.linesWritten) (setState .voting s4)
  settleBuffers (handStateChange prev .matched s5)

/-- The joiner's verdict is MISMATCH (R167, R171); its REPAIR record comes before the return to OUT (log entry 43). -/
def joinerMismatch (j : JoinerRole) (s : State) : State :=
  let s1 := match j.link with
    | some l => send l (.verdict .mismatch) s
    | none => s
  joinerReturn .mismatch (hand .repair (repairVerdict .mismatch) (partnerSubject j.source) (wordOf j.linesWritten) s1)

/-- In CLOSING with the buffer empty the joiner compares and answers (R167). -/
def giveVerdict (s : State) : State :=
  match s.repair.role with
  | .joiner j =>
    if j.phase = .closing ∧ (j.link.map (fun l => (getLink s l).buffer)) = some [] then
      if s.sig.valid = true ∧ s.sig.s = j.closeTarget ∧ j.linesWritten = j.closeLines then joinerMatch j s
      else joinerMismatch j s
    else s
  | _ => s

end Sys2Proof.Machine
end

