-- ==== Sys2Proof/Machine/Arbiter.lean ====
section
/-! DEFINITION. Deciding the transaction at the head of the processor-port queue (R10, R11, R19, R97), who waits for the
memory port, and which requester is granted next (R28, R29). -/

namespace Sys2Proof.Machine

/-! ### The decision on a transaction -/

/-- The first word address of the aperture, 0x1000_0000 ÷ 8, and its count of words (R10). -/
def apertureBase : Nat := 33554432
def apertureWords : Nat := 512

/-- Word offsets of the aperture (Table 1-7). -/
def issueOffset : Nat := 16
def statusOffset : Nat := 17
def resultOffset : Nat := 32
def markOffset : Nat := 64
def eventOffset : Nat := 65
def summaryOffset : Nat := 66

/-- Offsets that may be read (Table 1-7). -/
def readableOffset (i : Nat) : Bool :=
  decide (i < 16 ∨ i = statusOffset ∨ (resultOffset ≤ i ∧ i < resultOffset + 16) ∨ i = eventOffset ∨ i = summaryOffset)

/-- Offsets that may be written (Table 1-7). -/
def writableOffset (i : Nat) : Bool := decide (i < 16 ∨ i = issueOffset ∨ i = markOffset)

/-- The transaction names the aperture by its first word (R10). -/
def inAperture (t : Transaction) : Bool :=
  decide (apertureBase ≤ t.firstWord ∧ t.firstWord < apertureBase + apertureWords)

/-- The aperture check of R21: every word at an offset that allows the direction; write words without an enable are exempt. -/
def apertureAllows : Transaction → Bool
  | .read a n => (List.range n).all (fun i => readableOffset (a.toNat / 8 - apertureBase + i))
  | .write a ws => (takingPart (a.toNat / 8 - apertureBase) ws).all (fun x => writableOffset x.1)

/-- Processor access by class and channel state (Tables 1-2 and 6-2). -/
def stateAllows (c : RegionClass) (d : Direction) (st : ChannelState) : Bool :=
  match c, d with
  | .vital, .read => decide (st = .configured ∨ st = .sealing ∨ st = .sealed ∨ st = .voting ∨ st = .held)
  | .vital, .write => decide (st = .configured ∨ st = .sealing ∨ st = .sealed ∨ st = .voting)
  | .fixed, .write => decide (st = .configured)
  | .fixed, .read => decide (st ≠ .unconfigured)
  | .plain, _ => decide (st ≠ .unconfigured)
  | .events, .read => decide (st ≠ .unconfigured)
  | .events, .write => false
  | .journal, _ => false

/-- A class that refuses the direction in every state (check 3 of R11). -/
def classRefuses (c : RegionClass) (d : Direction) : Bool :=
  match c, d with
  | .journal, _ => true
  | .events, .write => true
  | .events, .read => false
  | .vital, _ => false
  | .plain, _ => false
  | .fixed, _ => false

/-- The checks of R11 on a transaction, `none` when it passes all four. -/
def checkTransaction (t : Transaction) (s : State) : Option RefuseAccess :=
  if 256 < t.firstWord % 256 + t.count then some .size
  else if inAperture t then (if apertureAllows t then none else some .aperture)
  else if apertureBase ≤ t.firstWord then some .unmapped
  else match classOf s (t.firstWord / 256) with
    | none => some .unmapped
    | some c =>
      if classRefuses c t.direction then some .class
      else if stateAllows c t.direction s.csr.state then none
      else some .state

/-- A write to the mark word: an aperture write with an enable set at the mark's offset (R21). One without an enable there is
no mark and is never held (log entry 46). -/
def isMark : Transaction → Bool
  | .read _ _ => false
  | .write a ws => inAperture (.write a ws) && (takingPart (a.toNat / 8 - apertureBase) ws).any (fun x => decide (x.1 = markOffset))

/-- An access to a VITAL region. -/
def isVitalAccess (t : Transaction) (s : State) : Bool :=
  !inAperture t && decide (classOf s (t.firstWord / 256) = some .vital)

/-- The hold conditions of R19 for a mark. -/
def markHold (s : State) : Hold := { vote := s.vote.record.isOpen, catchup := inCatchup s, rollback := rolling s }

/-- The hold conditions of R19 that apply to a transaction. -/
def holdFor (t : Transaction) (s : State) : Hold :=
  if isMark t then markHold s
  else if isVitalAccess t s then
    { vote := false, catchup := decide (t.direction = .write) && inCatchup s, rollback := rolling s }
  else { vote := false, catchup := false, rollback := false }

/-- Some condition applies. -/
def Hold.any (h : Hold) : Bool := h.vote || h.catchup || h.rollback

/-- A condition that applied has ended. -/
def Hold.ended (before now : Hold) : Bool :=
  (before.vote && !now.vote) || (before.catchup && !now.catchup) || (before.rollback && !now.rollback)

/-- Both sets of conditions together. -/
def Hold.join (x y : Hold) : Hold :=
  { vote := x.vote || y.vote, catchup := x.catchup || y.catchup, rollback := x.rollback || y.rollback }

/-- What the decision on a transaction comes to (R10, R11, R19). -/
inductive Decision where
  | refuse (r : RefuseAccess)
  | hold (h : Hold)
  | aperture
  | memory
  deriving DecidableEq, Repr

/-- Decide a transaction (R10): the checks, then the holds, then the route. -/
def decideTransaction (t : Transaction) (s : State) : Decision :=
  match checkTransaction t s with
  | some r => .refuse r
  | none =>
    if (holdFor t s).any then .hold (holdFor t s)
    else if inAperture t then .aperture
    else .memory

/-! ### Who waits for the memory port (R28) -/

/-- The transaction path requests for a head that passes to memory; a held one makes no request. -/
def processorWaits (s : State) : Bool :=
  match s.port.queue with
  | [] => false
  | t :: _ => decide (decideTransaction t s = .memory)

/-- The event unit requests while it has a record to write. -/
def eventWaits (s : State) : Bool := !s.ev.waiting.isEmpty

/-- The journal unit requests while ROLLING with both overflowed flags clear (R89). -/
def rollbackWaits (s : State) : Bool := rolling s && !s.jnl.broken

/-- The joiner requests while a frame with an ordinal below V heads the source link's buffer (R165). -/
def receiveWaits (s : State) : Bool :=
  match receivingLink s with
  | none => false
  | some l => match (getLink s l).buffer with
    | [] => false
    | f :: _ => decide (f.ordinal < numVital s) && !f.late

/-- A capture can be made: PASS or CATCHUP, no captured frame waiting, R not empty (R160). -/
def captureActive (s : State) : Bool :=
  match s.repair.role with
  | .source r => decide (r.phase ≠ .awaitVerdict) && decide (r.captured = none) && !s.repair.r.isEmpty
  | _ => false

/-- The source requests while a capture can be made and the peer does not hold (R160). -/
def captureWaits (s : State) : Bool :=
  captureActive s && (match s.repair.role with
    | .source r => !(getLink s r.link).peerHolding
    | _ => false)

/-- A copy is under way (R53). -/
def copyWaits (s : State) : Bool := decide (s.spare.op.kind = .copying)

/-- A rebuild walk is under way (R70). -/
def rebuildWaits (s : State) : Bool := decide (s.sig.walk ≠ .idle) && decide (s.sig.cursor < numVital s)

/-- A spare test is under way (R50). -/
def spareTestWaits (s : State) : Bool := decide (s.spare.op.kind = .testing)

/-- A proof test is running (R28, R37). -/
def proofWaits (s : State) : Bool := decide (s.scrub.proof.status = .running)

/-- An initialise is running (R28, R40). -/
def initWaits (s : State) : Bool := decide (s.scrub.init.status = .running)

/-- The scrub walk requests a step: not UNCONFIGURED, not paused by a proof test or initialise, and with allowance where the
step begins a line (R33, R35). -/
def scrubWaits (s : State) : Bool :=
  decide (s.csr.state ≠ .unconfigured) && !engineRunning s &&
    (match scrubPlace s with
      | none => false
      | some (_, w) => decide (w ≠ 0 ∨ 0 < s.scrub.allowance))

/-- Whether a requester waits. -/
def waits (r : Requester) (s : State) : Bool :=
  match r with
  | .processor => processorWaits s
  | .eventWrite => eventWaits s
  | .rollback => rollbackWaits s
  | .receiveWrite => receiveWaits s
  | .lineCapture => captureWaits s
  | .copy => copyWaits s
  | .rebuild => rebuildWaits s
  | .spareTest => spareTestWaits s
  | .proof => proofWaits s
  | .init => initWaits s
  | .scrub => scrubWaits s

/-- The requesters in the order of Table 2-5; within rank 8 the spare test comes first (R29). -/
def grantOrder : List Requester :=
  [.processor, .eventWrite, .rollback, .receiveWrite, .lineCapture, .copy, .rebuild, .spareTest, .proof, .init, .scrub]

/-- The highest waiting requester (R29). -/
def nextGrant (s : State) : Option Requester := grantOrder.find? (fun r => waits r s)

/-- The port is busy: a grant is under way, or a request waits and has been granted on arrival (R29; log entry 4). While
deferred effects wait for their turn no grant begins (R174). -/
def portGrant (s : State) : Option Requester :=
  match s.arb.grant with
  | some r => some r
  | none => if s.mgmt.deferred = none then nextGrant s else none

/-- One grant of a requester (R28 to R30). A grant under way is the named requester's alone, and runs to its end whatever has
happened since it began (R30); with none under way the grant goes to the highest waiting requester. While deferred effects
wait, no other grant begins (R174). A step out of turn leaves the state as it is (log entries 3 to 5). -/
def runGrant (r : Requester) (body : State → State) (s : State) : State :=
  match s.arb.grant with
  | some g => if g = r then body { s with arb.grant := none } else s
  | none => if s.mgmt.deferred = none ∧ nextGrant s = some r then body s else s

end Sys2Proof.Machine
end

