-- ==== Sys2Proof/Machine/Grants.lean ====
section
/-! DEFINITION. What the processor's grant does (R14 to R18), what a grant under way does, and what an event does that comes
while a grant is under way (R26, R30, R98, R102). -/

namespace Sys2Proof.Machine

/-- The head leaves the queue with its answer. -/
def answerHead (r : Response) (s : State) : State :=
  { respond r s with port.queue := s.port.queue.tail, port.held := none }

/-! ### The processor's grants (R14 to R18) -/

/-- A transaction that met an uncorrectable word gets a bus error and its record (R14, R15). -/
def uncorrectableHead (t : Transaction) (bad : List Nat) (s : State) : State :=
  answerHead .busError { s with port.lastRefusal := {
    reason := some .uncorrectable, addr := byteAddr (bad.headD 0), direction := t.direction } }

/-- The word addresses of a transaction. -/
def transactionWords (t : Transaction) : List Nat := (List.range t.count).map (fun i => t.firstWord + i)

/-- A read is carried out in one grant (R14); with the state come the words it read UNCORRECTABLE. -/
def readWork (t : Transaction) (s : State) : State × List Nat :=
  let rd := readWords .processor (transactionWords t) s
  if badWords rd.1 = [] then (answerHead (.data (readValues rd.1)) rd.2, [])
  else (uncorrectableHead t (badWords rd.1) rd.2, badWords rd.1)

/-- The words that take part in a write (R15). -/
def partsOf : Transaction → List (Nat × WriteWord)
  | .read _ _ => []
  | .write a ws => takingPart (a.toNat / 8) ws

/-- Which old values a write reads: every taking-part word of a vital write that is tracked (R17, R18), otherwise the merged
words only (R15). -/
def oldReads (tracked : Bool) (ps : List (Nat × WriteWord)) : List Nat :=
  (ps.filter (fun x => tracked || decide (x.2.enables ≠ BitVec.allOnes 8))).map Prod.fst

/-- The new value of a taking-part word (R15). -/
def newValue (w : WriteWord) (old : Word) : Word :=
  if w.enables = BitVec.allOnes 8 then w.data else mergeLanes w.enables w.data old

/-- Word address, old value and new value of each taking-part word; the old value of a word that was not read is not used. -/
def changesOf (rd : List (Nat × ReadOutcome)) (ps : List (Nat × WriteWord)) : List (Nat × Word × Word) :=
  ps.map (fun x =>
    let old := match deliveredFor x.1 rd with
      | some v => v
      | none => 0
    (x.1, old, newValue x.2 old))

/-- Steps 3 to 6 of R17. -/
def trackedWrite (o : Nat) (cs : List (Nat × Word × Word)) (s : State) : State :=
  let opn := openCycle s
  let s1 := appendEntries (BitVec.ofNat 16 opn.toNat) opn (cs.map (fun c => (c.1, c.2.1))) s
  let s2 := updateWordsS cs s1
  writeWords (cs.map (fun c => (c.1, c.2.2))) (markLine o s2)

/-- Steps 3 and 4 of R18. -/
def sealingWrite (o : Nat) (cs : List (Nat × Word × Word)) (s : State) : State :=
  writeWords (cs.map (fun c => (c.1, c.2.2))) (if o < s.sig.cursor then updateWordsAcc cs s else s)

/-- The writing part of a write, by class and channel state (R16 to R18). -/
def carryOut (ordinal : Option Nat) (cs : List (Nat × Word × Word)) (s : State) : State :=
  match ordinal with
  | none => writeWords (cs.map (fun c => (c.1, c.2.2))) s
  | some o =>
    if cs = [] then s
    else if s.csr.state.marking then trackedWrite o cs s
    else if s.csr.state = .sealing then sealingWrite o cs s
    else writeWords (cs.map (fun c => (c.1, c.2.2))) s

/-- A write is carried out in one grant (R15 to R18); with the state come the words it read UNCORRECTABLE. -/
def writeWork (t : Transaction) (s : State) : State × List Nat :=
  let ps := partsOf t
  let ordinal := ordinalOf s.regions.committed (t.firstWord / 256)
  let tracked := ordinal.isSome && (s.csr.state.marking || decide (s.csr.state = .sealing))
  let rd := readWords .processor (oldReads tracked ps) s
  if badWords rd.1 = [] then (answerHead .completion (carryOut ordinal (changesOf rd.1 ps) rd.2), [])
  else (uncorrectableHead t (badWords rd.1) rd.2, badWords rd.1)

/-- A transaction is carried out by its direction. -/
def transactionWork (t : Transaction) (s : State) : State × List Nat :=
  match t with
  | .read _ _ => readWork t s
  | .write _ _ => writeWork t s

/-- The transaction path's grant carries out the head as it was decided at the grant's start (R10, R98). -/
def headWork (s : State) : State × List Nat :=
  match s.port.queue with
  | [] => (s, [])
  | t :: _ => transactionWork t s

/-- The transaction path's grant, with the consequences of the words it read UNCORRECTABLE at its end (R26, R30). -/
def processorBody (s : State) : State := consequences .processor (headWork s).2 (headWork s).1

/-! ### A grant under way (R30) -/

/-- What the grant of a requester reads and writes, with the UNCORRECTABLE words whose consequences (R26) come at its end.
The requesters that add consequences of their own, or meet no word of R26, do the whole of their step, so the abort of a
receive-write or of a seal rebuild comes before an event that waits for the grant's end (log entry 34). -/
def grantWork (r : Requester) (s : State) : State × List Nat :=
  match r with
  | .processor => headWork s
  | .eventWrite => (eventBody s, [])
  | .rollback => (rollbackBody s, [])
  | .receiveWrite => (receiveBody s, [])
  | .lineCapture => captureWork s
  | .copy => copyWork s
  | .rebuild => (rebuildBody s, [])
  | .spareTest => (spareTestBody s, [])
  | .proof => (proofBody s, [])
  | .init => (initBody s, [])
  | .scrub => scrubWork s

/-- As which reader a requester meets a word. -/
def Requester.reader : Requester → ReadBy
  | .processor => .processor
  | .eventWrite => .processor
  | .rollback => .rollback
  | .receiveWrite => .receive
  | .lineCapture => .capture
  | .copy => .copy
  | .rebuild => .rebuild
  | .spareTest => .proofTest
  | .proof => .proofTest
  | .init => .proofTest
  | .scrub => .scrub

/-- What follows the end of a grant: after a line capture the CLOSE that is due (R163, R164). -/
def followGrant (r : Requester) (s : State) : State := if r = .lineCapture then closeIfDone s else s

/-- The whole grant of a requester (Table 2-4), with its consequences and what follows its end. -/
def grantBody (r : Requester) (s : State) : State :=
  followGrant r (consequences r.reader (grantWork r s).2 (grantWork r s).1)

/-- The grant under way, if there is one, runs to its end. -/
def endGrant (s : State) : State :=
  match s.arb.grant with
  | some r => grantBody r { s with arb.grant := none }
  | none => s

/-- Some word of a list lies in a VITAL region. -/
def vitalAmong (bad : List Nat) (s : State) : Bool := bad.any (fun a => decide (classOf s (a / 256) = some .vital))

/-- The consequences of a grant's UNCORRECTABLE words when an event came between their reads, made in channel state `was`,
and the grant's end. They are those of Table 2-3 while that row's channel state lasts. A channel that left SEALED, VOTING or
HELD for OUT meanwhile only has its FAULT latch set (R26, R102); after any other change of state no more than a JOURNAL
segment is marked (log entry 34). -/
def lateConsequences (was : ChannelState) (by_ : ReadBy) (bad : List Nat) (s : State) : State :=
  if s.csr.state = was ∨ (was.signed && s.csr.state.signed) = true then consequences by_ bad s
  else
    let s1 := markSegments bad s
    if was.signed = true ∧ s.csr.state = .out ∧ vitalAmong bad s1 = true then setLatch s1 else s1

/-- An event meets, at the end of one grant, the withdrawal that the grant's words cause (R101, R102): in either order the
channel ends in OUT. Of the two orders the event comes first, as with every event (log entry 34). A NO-MAJORITY whose
rollback ends at once would leave nothing for the withdrawal to take over, and HALTED (R103) has no place in R102; there
the withdrawal comes first. -/
def withdrawalFirst (was : ChannelState) (bad : List Nat) (event : State → State) (s : State) : Bool :=
  was.signed && vitalAmong bad s && decide ((event s).csr.state = .halted) && decide (recordUpset s = none)

/-- An event that takes effect on an operation whose grant may be under way: the grant's reads and writes are all made, then
the event takes effect, then the consequences of the words that `grantWork` names (R26, R30). What follows a grant comes after the event,
which was taken first: a catch-up that expires sends no CLOSE (R163; log entry 34). -/
def overGrant (event : State → State) (s : State) : State :=
  match s.arb.grant with
  | none => event s
  | some r =>
    let w := grantWork r { s with arb.grant := none }
    followGrant r (
      if withdrawalFirst s.csr.state w.2 event w.1 then event (consequences r.reader w.2 w.1)
      else lateConsequences s.csr.state r.reader w.2 (event w.1))

/-- Two roles of the repair unit of one kind. -/
def Role.alike : Role → Role → Bool
  | .none, .none => true
  | .source _, .source _ => true
  | .joiner _, .joiner _ => true
  | _, _ => false

/-- What an event did from `s` to `t` may end an operation: the channel state has changed, a role has ended or begun, or a
vote has resolved. -/
def disturbs (s t : State) : Bool :=
  decide (t.csr.state ≠ s.csr.state) || !t.repair.role.alike s.repair.role
    || (s.vote.record.isOpen && !t.vote.record.isOpen)

/-- An event while a grant may be under way: one that may end an operation takes effect when the grant ends, any other at
once (R30; log entry 34). -/
def during (event : State → State) (s : State) : State :=
  if disturbs s (event s) then overGrant event s else event s

/-- What the processor writes to the aperture is decided behind the transaction whose grant is under way (R10, R98), and not
behind a head that is held or waits for its grant (log entry 6). -/
def behindHead (s : State) : State := if s.arb.grant = some .processor then endGrant s else s

end Sys2Proof.Machine
end

