-- ==== Sys2Proof/Machine/Management.lean ====
section
/-! DEFINITION. The command protocol, the commands of Table 10-2, and the effects of RELEASE, STOP-TEST and COMMIT-TABLES
(chapter 10, R4, R59, R100, R104, R106, R107, R110, R111). Each command runs from the issued copy. -/

namespace Sys2Proof.Machine

/-! ### Ends of a command (R174) -/

/-- The command ends DONE with its result words. -/
def finish (ws : List Word) (s : State) : State := { s with mgmt.phase := .done, mgmt.results := resultWords ws }

/-- The command is refused; the result words stay 0 but for TABLE-INVALID (R175). -/
def refuse (c : RefusalCode) (s : State) : State := { s with mgmt.phase := .refused, mgmt.code := some c }

/-- The issued arguments. -/
def arg (s : State) (i : Nat) : Nat := (s.mgmt.arg i).toNat

/-! ### Tables and keys (R4, R59) -/

/-- LOAD-REGION (R4). -/
def runLoadRegion (s : State) : State :=
  if !s.csr.state.loading then refuse .wrongState s
  else if 15 < arg s 1 ∨ arg s 3 = 0 ∨ 131072 < arg s 3 ∨ 131072 < arg s 2 + arg s 3 then refuse .badArgument s
  else match regionClassOf (arg s 4) with
    | none => refuse .badArgument s
    | some c =>
      let e : RegionEntry :=
        { valid := true, base := arg s 2, count := arg s 3, cls := c, scrub := flagArg (s.mgmt.arg 5) }
      finish [] { s with regions.loaded := s.regions.loaded.set (arg s 1) e }

/-- CLEAR-REGION (R4). -/
def runClearRegion (s : State) : State :=
  if !s.csr.state.loading then refuse .wrongState s
  else if 15 < arg s 1 then refuse .badArgument s
  else finish [] { s with regions.loaded := s.regions.loaded.set (arg s 1) RegionEntry.cleared }

/-- A key lies from 1 to p−1 (R59). -/
def keyFits (k : Nat) : Bool := decide (0 < k ∧ k < modulus)

/-- SET-KEYS (R59). -/
def runSetKeys (s : State) : State :=
  if !s.csr.state.loading then refuse .wrongState s
  else if keyFits (arg s 1) && keyFits (arg s 2) && keyFits (arg s 3) then
    finish [] { s with sig.loadedKeys := { k1 := arg s 1, k2 := arg s 2, k3 := arg s 3 }, sig.keysSet := true }
  else refuse .badArgument s

/-! ### Parameters (R176) -/

/-- A value clamped to a range. -/
def clamp (lo hi v : Nat) : Nat := if v < lo then lo else if hi < v then hi else v

/-- A clamped parameter that is writable when `w` holds. -/
def setClamped (w : Bool) (lo hi v : Nat) (put : Params → Nat → Params) (s : State) : State :=
  if w then finish [wordOf (clamp lo hi v)] { s with mgmt.params := put s.mgmt.params (clamp lo hi v) }
  else refuse .wrongState s

/-- CHANNEL-ID (Table 10-3). -/
def setChannelId (v : Nat) (s : State) : State :=
  if s.csr.state ≠ .unconfigured then refuse .wrongState s
  else match identityOf v with
    | none => refuse .badArgument s
    | some i => finish [wordOf v] { s with mgmt.params.channelId := some i }

/-- MEMORY-LINES (Table 10-3). -/
def setMemoryLines (v : Nat) (s : State) : State :=
  if s.csr.state ≠ .unconfigured then refuse .wrongState s
  else if v < 64 ∨ Config.maxLines < v then refuse .badArgument s
  else finish [wordOf v] { s with mgmt.params.memoryLines := v }

/-- LINK-MODE-1 and LINK-MODE-2 (Table 10-3, R134). A mode OFF that ends a repair role does so when the grant under way ends
(R30, R144). -/
def setLinkMode (l : LinkId) (v : Nat) (s : State) : State :=
  match linkModeOf v with
  | none => refuse .badArgument s
  | some m => finish [wordOf v] (during (setMode l m) s)

/-- The kinds of Table 10-7: bits 1 to 22. -/
def kindSet : Word := 0x7FFFFE

/-- INT-MASK (Table 10-3): kinds not in Table 10-7 are ignored. -/
def setIntMask (v : Word) (s : State) : State :=
  finish [v &&& kindSet] { s with mgmt.params.intMask := v &&& kindSet }

/-- SET-PARAMETER (R176): the name, then the states it is writable in, then the value. -/
def runSetParameter (s : State) : State :=
  let v := arg s 2
  let early := s.csr.state.loading
  match arg s 1 with
  | 1 => setChannelId v s
  | 2 => setMemoryLines v s
  | 3 => setClamped early 1 4095 v (fun p x => { p with voteWindow := x }) s
  | 4 => setClamped early 1 50 v (fun p x => { p with beat := x }) s
  | 5 => setClamped early 2 255 v (fun p x => { p with silence := x }) s
  | 6 => setClamped early 0 1024 v (fun p x => { p with catchupLines := x }) s
  | 7 => setClamped early 1 255 v (fun p x => { p with catchupLimit := x }) s
  | 8 => setClamped early 1 255 v (fun p x => { p with holdLimit := x }) s
  | 9 => setClamped early 1 255 v (fun p x => { p with repairCycleLimit := x }) s
  | 10 => setClamped true 0 7 v (fun p x => { p with rejoinRetries := x }) s
  | 11 => setClamped true 10 10000 v (fun p x => { p with rejoinRetry := x }) s
  | 12 => setClamped (decide (s.csr.state ≠ .unconfigured)) 1 15 v (fun p x => { p with retireThreshold := x }) s
  | 13 => setClamped true 0 255 v (fun p x => { p with scrubRate := x }) s
  | 14 => setClamped early 50 95 v (fun p x => { p with pressurePct := x }) s
  | 15 => setLinkMode .link1 v s
  | 16 => setLinkMode .link2 v s
  | 17 => setIntMask (s.mgmt.arg 2) s
  | _ => refuse .badArgument s

/-! ### Validation (R177, Table 10-4) -/

/-- Two entries share a line. -/
def RegionEntry.overlaps (x y : RegionEntry) : Bool :=
  x.valid && y.valid && decide (x.base < y.base + y.count ∧ y.base < x.base + x.count)

/-- The lowest index whose entry shares a line with a valid entry of lower index; `seen` holds those below, newest first. -/
def findOverlap : List RegionEntry → List RegionEntry → Nat → Option Nat
  | _, [], _ => none
  | seen, e :: es, i => if seen.any (fun x => e.overlaps x) then some i else findOverlap (e :: seen) es (i + 1)

/-- The lowest index, from `i` on, whose entry passes a test. -/
def findEntry (f : RegionEntry → Bool) : List RegionEntry → Nat → Option Nat
  | [], _ => none
  | e :: es, i => if f e then some i else findEntry f es (i + 1)

/-- A valid entry of a class. -/
def RegionEntry.isClass (c : RegionClass) (e : RegionEntry) : Bool := e.valid && decide (e.cls = c)

/-- The second entry of a class in index order, or 16 (Table 10-4). -/
def secondOf (c : RegionClass) (t : List RegionEntry) : Nat :=
  match findEntry (RegionEntry.isClass c) t 0 with
  | none => 16
  | some i => match findEntry (RegionEntry.isClass c) (t.drop (i + 1)) (i + 1) with
    | none => 16
    | some j => j

/-- The index of the one entry of a class. -/
def indexOf (c : RegionClass) (t : List RegionEntry) : Nat :=
  match findEntry (RegionEntry.isClass c) t 0 with
  | none => 16
  | some i => i

/-- The VITAL entry at which the running total first exceeds 32768 lines. -/
def vitalExcess : List RegionEntry → Nat → Nat → Option Nat
  | [], _, _ => none
  | e :: es, total, i =>
    let now := total + (if e.isVital then e.count else 0)
    if 32768 < now then some i else vitalExcess es now (i + 1)

/-- The first check of Table 10-4 that fails, with its detail and the entry index reported. -/
def tableFault (s : State) : Option (Nat × Nat) :=
  let t := s.regions.loaded
  let top := s.mgmt.params.memoryLines - Config.spares
  match findOverlap [] t 0, findEntry (fun e => e.valid && decide (top < e.base + e.count)) t 0 with
  | some j, _ => some (1, j)
  | none, some j => some (2, j)
  | none, none =>
    if t.countP (RegionEntry.isClass .journal) ≠ 1 then some (3, secondOf .journal t)
    else if t.any (fun e => e.isClass .journal && decide (4096 < e.count)) then some (4, indexOf .journal t)
    else if t.countP (RegionEntry.isClass .events) ≠ 1 then some (5, secondOf .events t)
    else if t.any (fun e => e.isClass .events && decide (64 < e.count)) then some (6, indexOf .events t)
    else if t.countP RegionEntry.isVital = 0 then some (7, 16)
    else match vitalExcess t 0 0 with
      | some j => some (8, j)
      | none =>
        if !s.sig.keysSet then some (9, 16)
        else if s.mgmt.params.channelId = none then some (10, 16)
        else none

/-! ### Deferred effects (R174) -/

/-- A checked RELEASE, STOP-TEST or COMMIT-TABLES waits for the end of the grant under way. -/
def waitForGrant (d : Deferred) (s : State) : State := { s with mgmt.deferred := some d, arb.grant := portGrant s }

/-- Step 1 of R110: roles end with RELEASED, and the relations are cleared; a joiner's receive buffers are dropped (log entry
42). -/
def releaseRoles (s : State) : State :=
  let s1 := endJoiner .released (abortSource .released true s)
  { s1 with vote.peer0.relation := none, vote.peer1.relation := none }

/-- Steps 4 and 5 of R110. -/
def releaseState (s : State) : State :=
  let s1 := clearDirty { emptyJournal s with repair.r := [] }
  let s2 := invalidateS { s1 with sig.poisoned := [], sig.overflow := false }
  emptySlots (setC 0 (setCommitted 0 (setCounter 0 s2)))

/-- The effects of RELEASE (R110, R111). -/
def releaseEffect (s : State) : State :=
  let prev := s.csr.state
  let s1 := stopEngine (endWalk (abandonRollback (cancelVote (releaseRoles s))))
  let s2 := releaseState s1
  finish [] (if prev = .configured then s2 else changeState .configured .release s2)

/-- The effect of STOP-TEST (R39). -/
def stopTestEffect (s : State) : State := finish [] (stopEngine s)

/-- Steps 1 to 6 of R100. -/
def commitTablesOnly (s : State) : State :=
  let s1 := { s with
    regions.committed := s.regions.loaded, sig.committedKeys := s.sig.loadedKeys
    mgmt.digest := digestOf s.regions.loaded s.sig.loadedKeys }
  let s2 := { s1 with spare := {
    suspects := List.replicate 16 none, remap := List.replicate 32 .untested, op := { s.spare.op with kind := .idle }
    exhaustionReported := false } }
  let s3 := emptyJournal s2
  { s3 with
    ev.producer := 0, ev.consumer := 0, ev.waiting := [], ev.withheld := 0, ev.kinds := [], ev.intBusy := false
    ev.intLevel := false, scrub.line := 0, scrub.word := 0 }

/-- The effects of a successful COMMIT-TABLES (R100, R177); both parking slots are emptied (R117). LINK-1
acts before LINK-2 (log entry 41). -/
def commitEffect (s : State) : State :=
  let prev := s.csr.state
  let s1 := commitLink .link2 (commitLink .link1 (commitTablesOnly s))
  let s2 := emptySlots (setC 0 (setCommitted 0 (setCounter 0 (setState .configured s1))))
  let s3 := if prev = .configured then s2 else handStateChange prev .tables s2
  finish [wordOf s3.mgmt.digest.toNat, wordOf (numVital s3)] s3

/-- The effects of a deferred command. -/
def deferredEffect (d : Deferred) (s : State) : State :=
  match d with
  | .release => releaseEffect s
  | .stopTest => stopTestEffect s
  | .commitTables => commitEffect s

/-- At once if the port is idle, otherwise when the grant under way ends (R174). -/
def deferOrDo (d : Deferred) (s : State) : State :=
  match portGrant s with
  | some _ => waitForGrant d s
  | none => deferredEffect d s

/-- COMMIT-TABLES (R100, R177). -/
def runCommitTables (s : State) : State :=
  if !s.csr.state.loading then refuse .wrongState s
  else if engineRunning s then refuse .engineBusy s
  else match tableFault s with
    | some (d, i) => refuse .tableInvalid { s with mgmt.results := resultWords [wordOf d, wordOf i] }
    | none => deferOrDo .commitTables s

/-- STOP-TEST (R39). -/
def runStopTest (s : State) : State := deferOrDo .stopTest s

/-- RELEASE (R110). -/
def runRelease (s : State) : State :=
  if s.csr.state = .unconfigured then refuse .wrongState s else deferOrDo .release s

/-! ### Engines (R36, R40, R72) -/

/-- A range that an engine may take: at least one line, every line in a valid region that is not EVENTS (R36). -/
def rangeFits (first count : Nat) (s : State) : Bool :=
  decide (1 ≤ count ∧ first + count ≤ Config.maxLines) && rangeTestable s first count

/-- MEM-INIT (R40). -/
def runMemInit (s : State) : State :=
  if s.csr.state ≠ .configured then refuse .wrongState s
  else if engineRunning s then refuse .engineBusy s
  else if !rangeFits (arg s 1) (arg s 2) s then refuse .badArgument s
  else finish [1] { s with scrub.init := { status := .running, first := arg s 1, count := arg s 2, written := 0 } }

/-- PROOF-TEST (R36). -/
def runProofTest (s : State) : State :=
  if s.csr.state ≠ .configured then refuse .wrongState s
  else if engineRunning s then refuse .engineBusy s
  else if !rangeFits (arg s 1) (arg s 2) s then refuse .badArgument s
  else finish [1] { s with scrub.proof := {
    status := .running, first := arg s 1, count := arg s 2, loop := flagArg (s.mgmt.arg 3), loops := 0, pass := .a
    phase := .write, position := 0, faultAddr := 0, expected := 0, found := 0, outcome := .none } }

/-- SEAL (R72). -/
def runSeal (s : State) : State :=
  if s.csr.state ≠ .configured then refuse .wrongState s
  else if engineRunning s then refuse .engineBusy s
  else finish [1] (startWalk .seal (changeState .sealing .seal s))

/-! ### Channel state commands (R104, R106, R107) -/

/-- The retry count is set to REJOIN-RETRIES. -/
def restoreRetries (s : State) : State :=
  match s.repair.role with
  | .joiner j => { s with repair.role := .joiner { j with retry := s.mgmt.params.rejoinRetries } }
  | _ => s

/-- JOIN from CONFIGURED (R106). -/
def joinFresh (s : State) : State :=
  let s1 := emptySlots (changeState .out .join s)
  prepareSignature (restoreRetries { s1 with repair.role := .joiner (freshJoiner true) })

/-- JOIN in OUT (R107). -/
def joinAgain (s : State) : State :=
  let s1 := restoreRetries s
  match s.repair.role with
  | .joiner j => if j.phase = .gaveUp ∨ j.phase = .retryWait then beginSequence s1 else s1
  | _ => s1

/-- JOIN (R106, R107). -/
def runJoin (s : State) : State :=
  if s.csr.state = .configured then (if engineRunning s then refuse .engineBusy s else finish [] (joinFresh s))
  else if s.csr.state = .out then finish [] (joinAgain s)
  else refuse .wrongState s

/-- RESUME (R104). -/
def runResume (s : State) : State :=
  if s.csr.state ≠ .held then refuse .wrongState s
  else finish [] (changeState .voting .resume (setCounter s.csr.committed s))

/-! ### Suspects, events, the latch (R46, R185 to R187) -/

/-- RETIRE-LINE (R46). -/
def runRetireLine (s : State) : State :=
  if s.csr.state = .unconfigured then refuse .wrongState s
  else match regionOf s (arg s 1) with
    | none => refuse .badArgument s
    | some _ => match retireSuspect (arg s 1) s with
      | none => refuse .engineBusy s
      | some t => finish [] t

/-- A record at the front of the waiting queue (R186). The record that an event write under way is writing is still the first
of the queue, and is written first (R30, R183, R185). -/
def atFront (e : EventRecord) (s : State) : List EventRecord :=
  match s.arb.grant, s.ev.waiting with
  | some .eventWrite, written :: rest => written :: e :: rest
  | _, waiting => e :: waiting

/-- The SUMMARY record, at the front of the waiting queue, clears the mask (R186). -/
def handSummary (s : State) : State :=
  { s with
    ev.waiting := atFront { kind := .summary, detail := 0, state := s.csr.state, cycle := s.csr.counter, subject := .none
                            value := s.ev.withheld } s
    ev.withheld := 0 }

/-- The effects of EVENT-ACK with a new consumer index (R185). -/
def acknowledge (n : Nat) (s : State) : State :=
  let d := ringDistance n s.ev.consumer (eventCapacity s)
  let s1 := { s with ev.consumer := n, ev.kinds := s.ev.kinds.drop d, ev.intLevel := false, ev.intBusy := false }
  let s2 := if s1.ev.withheld ≠ 0 ∧ occupancy s1 < eventCapacity s1 - 1 then handSummary s1 else s1
  if s2.ev.kinds.any (fun k => kindIn k s2.mgmt.params.intMask) then { s2 with ev.intLevel := true, ev.intBusy := true }
  else s2

/-- EVENT-ACK (R185). -/
def runEventAck (s : State) : State :=
  let n := arg s 1
  if s.csr.state = .unconfigured then refuse .wrongState s
  else if eventCapacity s ≤ n then refuse .badArgument s
  else if unacknowledged s < ringDistance n s.ev.consumer (eventCapacity s) then refuse .badArgument s
  else
    let s1 := acknowledge n s
    finish [wordOf n, wordOf (unacknowledged s1)] s1

/-- FORCE-FAULT (R187). -/
def runForceFault (s : State) : State := finish [] (setLatch s)

/-- CLEAR-FAULT (R187). -/
def runClearFault (s : State) : State := finish [] { s with ev.faultLatch := false }

/-! ### READ-STATUS (R179, R190) -/

/-- Set counts, flags and codes of a page, one result word per item. -/
def nat (n : Nat) : Word := wordOf n
def flag (b : Bool) : Word := wordOf (flagCode b)

/-- Page CHANNEL. HEALTH is 1 when high and 0 when low: DESIGN CHOICE, log entry 52. -/
def pageChannel (s : State) : List Word :=
  [nat s.csr.state.code, nat s.csr.counter.toNat, nat s.csr.committed.toNat, nat s.csr.c, nat s.sig.s, flag s.sig.valid,
    flag s.ev.faultLatch, flag (faultLevel s), flag s.ev.health, nat s.mgmt.digest.toNat, flag (frozenTable s),
    nat (optCode RefuseAccess.code s.port.lastRefusal.reason), nat s.port.lastRefusal.addr.toNat,
    nat s.port.lastRefusal.direction.code]

/-- A list of up to 8 elements: its count, then one word per element up to its greatest length (R190). -/
def listWords (l : List Nat) : List Word := nat l.length :: ((l.map nat ++ List.replicate 8 0).take 8)

/-- Page SIGNATURE. -/
def pageSignature (s : State) : List Word :=
  [nat s.sig.walk.code, nat s.sig.cursor] ++ (listWords s.sig.poisoned ++ [flag s.sig.overflow])

/-- Page JOURNAL; the rollback status is IDLE 1, ROLLING 2 (R88). -/
def pageJournal (s : State) : List Word :=
  [nat s.jnl.head, nat s.jnl.boundary, nat s.jnl.tail, nat s.jnl.votingCount, nat s.jnl.openCount, nat (journalCapacity s),
    flag s.jnl.votingPresent, flag s.jnl.votingOver, flag s.jnl.openOver, flag s.jnl.pressure,
    nat (if s.jnl.rb.rolling then 2 else 1), nat s.jnl.rb.undone]

/-- A set of peers as identities (R188). -/
def peerBits (x y : Bool) (s : State) : Word :=
  match otherIds s.mgmt.params.channelId with
  | some (.b, .c) => nat (peerSetCode false x y)
  | some (.a, .c) => nat (peerSetCode x false y)
  | some (.a, .b) => nat (peerSetCode x y false)
  | _ => 0

/-- Page VOTE, the stored arrivals as a set of identities (log entry 45). -/
def pageVote (s : State) : List Word :=
  [flag s.vote.record.isOpen, nat s.vote.record.cycle.toNat, peerBits s.vote.record.expected0 s.vote.record.expected1 s,
    peerBits s.vote.record.arrival0.isSome s.vote.record.arrival1.isSome s]

/-- Page ENGINE (Table 11-7). The fields of the sparing unit's record that do not belong to its present operation are shown as
they stand (log entry 23), and the cursor for a copy, the word index otherwise (log entry 13). The bytes of words 0, 7 and 9
that the table does not list read 0: DESIGN CHOICE, log entry 58. -/
def pageEngine (s : State) : List Word :=
  let p := s.scrub.proof
  let i := s.scrub.init
  let o := s.spare.op
  [nat (s.scrub.line + 4294967296 * s.scrub.word), nat s.scrub.passCount.toNat,
    nat (p.status.code + 256 * flagCode p.loop + 65536 * p.pass.code + 16777216 * p.outcome.code + 4294967296 * p.loops),
    nat (p.first + 4294967296 * p.count), nat p.faultAddr, p.expected, p.found,
    nat (i.status.code + 4294967296 * i.written), nat (i.first + 4294967296 * i.count),
    nat (o.kind.code + 256 * o.spare + 65536 * o.pass.code + 16777216 * o.phase.code
      + 4294967296 * (if o.kind = .copying then o.cursor else o.word)),
    nat (o.target + 4294967296 * o.source)]

/-- The items of one link on page LINKS. -/
def linkWords (k : Link) : List Word :=
  [nat k.mode.code, nat k.status.code, nat (optCode Identity.code k.peer), nat k.buffer.length, flag k.holdSent,
    flag k.peerHolding]

/-- Page LINKS. -/
def pageLinks (s : State) : List Word := linkWords s.link1 ++ linkWords s.link2

/-- The items of the role on page REPAIR: role (source 1, joiner 2), phase, partner, base, need list count, retry count,
lines sent or written, repair cycle count. A joiner that has no source yet shows its candidate as partner (log entry 48). -/
def roleWords (r : Role) : List Word :=
  match r with
  | .none => [0, 0, 0, cycleWord none, 0, 0, 0, 0]
  | .source r =>
    [1, nat r.phase.code, nat r.joiner.code, cycleWord r.base, 0, 0, nat r.linesSent, nat r.cycles]
  | .joiner j =>
    [2, nat j.phase.code, nat (optCode Identity.code (if j.receiving then j.source else j.candidate)), cycleWord j.base,
      nat j.need.length, nat j.retry, nat j.linesWritten, 0]

/-- Page REPAIR. -/
def pageRepair (s : State) : List Word :=
  roleWords s.repair.role ++
    [nat s.repair.dc.length, nat s.repair.dv.length, nat s.repair.dO.length, nat s.repair.r.length, flag s.repair.dcValid]

/-- Page EVENTS. -/
def pageEvents (s : State) : List Word :=
  [nat s.ev.producer, nat s.ev.consumer, nat (eventCapacity s), nat s.ev.waiting.length, s.ev.withheld, flag s.ev.intLevel,
    flag s.ev.intBusy, s.mgmt.params.intMask]

/-- Page PARAMETERS: code order, the two link modes in one word (R179). -/
def pageParameters (s : State) : List Word :=
  let p := s.mgmt.params
  [nat (optCode Identity.code p.channelId), nat p.memoryLines, nat p.voteWindow, nat p.beat, nat p.silence,
    nat p.catchupLines, nat p.catchupLimit, nat p.holdLimit, nat p.repairCycleLimit, nat p.rejoinRetries, nat p.rejoinRetry,
    nat p.retireThreshold, nat p.scrubRate, nat p.pressurePct, nat (s.link1.mode.code + 256 * s.link2.mode.code), p.intMask]

/-- After the ENGINE page has been read, an ended proof test and a stopped initialise become IDLE (R38, R40). -/
def engineRead (s : State) : State :=
  let s1 :=
    if s.scrub.proof.status = .running then s else { s with scrub.proof.status := .idle }
  if s1.scrub.init.status = .running then s1 else { s1 with scrub.init.status := .idle }

/-- READ-STATUS (R179). -/
def runReadStatus (s : State) : State :=
  match arg s 1 with
  | 1 => finish (pageChannel s) s
  | 2 => finish (pageSignature s) s
  | 3 => finish (pageJournal s) s
  | 4 => finish (pageVote s) s
  | 5 => finish (pageEngine s) (engineRead s)
  | 6 => finish (pageLinks s) s
  | 7 => finish (pageRepair s) s
  | 8 => finish (pageEvents s) s
  | 9 => finish (pageParameters s) s
  | _ => refuse .badArgument s

/-! ### READ-COUNTERS and READ-ENTRY (R180, R181) -/

/-- Every one of the 22 counters becomes 0 (R181). -/
def clearCounters (s : State) : State :=
  { s with
    counters := { corrected := List.replicate 16 0, uncorrectable := 0 }
    port.refused := 0, link1.badFrames := 0, link1.discards := 0, link2.badFrames := 0, link2.discards := 0 }

/-- The counters of a group. -/
def groupWords (g : Nat) (s : State) : Option (List Word) :=
  match g with
  | 1 => some (s.counters.corrected.map nat)
  | 2 => some [nat s.counters.uncorrectable, nat s.port.refused, nat s.link1.badFrames, nat s.link1.discards,
      nat s.link2.badFrames, nat s.link2.discards]
  | _ => none

/-- READ-COUNTERS (R181). -/
def runReadCounters (s : State) : State :=
  match groupWords (arg s 1) s with
  | none => refuse .badArgument s
  | some ws => finish ws (if flagArg (s.mgmt.arg 2) then clearCounters s else s)

/-- The words of a loaded region entry, fields in the order of Table 1-1. -/
def regionWords (e : RegionEntry) : List Word := [flag e.valid, nat e.base, nat e.count, nat e.cls.code, flag e.scrub]

/-- The words of a suspect slot, fields in the order of Table 3-1; an empty slot is all 0 (log entry 13). -/
def suspectWords (e : Option Suspect) : List Word :=
  match e with
  | none => [0, 0, 0, 0]
  | some x => [nat x.line, nat x.count, nat x.recency, flag x.pending]

/-- The words of a remap entry: state, target, copy cursor (R47). -/
def remapWords (cursor : Nat) (e : RemapEntry) : List Word :=
  match e with
  | .copying t => [nat e.code, nat t, nat cursor]
  | .active t => [nat e.code, nat t, 0]
  | .untested => [nat e.code, 0, 0]
  | .ready => [nat e.code, 0, 0]
  | .bad => [nat e.code, 0, 0]

/-- The words of a parking slot: cycle, signature, arrival, with arrival 0 when empty (R190). Cycle and signature of an empty
slot are 0 too: DESIGN CHOICE, log entry 51. -/
def slotWords (p : Option Parked) : List Word :=
  match p with
  | none => [0, 0, 0]
  | some x => [nat x.cycle.toNat, nat x.signature, nat x.arrival.code]

/-- The words of a peer table entry: the identity (R180; log entry 40), then the fields in the order of Table 7-1. -/
def peerWords (i : Option Identity) (x : Peer) : List Word :=
  [nat (optCode Identity.code i), nat (optCode LinkId.code x.link), nat (optCode ChannelState.code x.state),
    nat x.counter.toNat, nat x.committed.toNat] ++
  (slotWords x.slot ++ [nat x.status.code, nat (optCode Arrival.code x.arrival), nat (optCode Relation.code x.relation)])

/-- One entry of a table (R180); `none` for a table or an index outside the list. -/
def entryWords (table index : Nat) (s : State) : Option (List Word) :=
  match table with
  | 1 => if index < 16 then some (regionWords (s.regions.loaded.getD index RegionEntry.cleared)) else none
  | 2 => if index < 16 then some (suspectWords (s.spare.suspects.getD index none)) else none
  | 3 => if index < 32 then some (remapWords s.spare.op.cursor (s.spare.remap.getD index .untested)) else none
  | 4 => if index < 2 then some (peerWords (peerId s (decide (index = 1))) (getPeer s (decide (index = 1)))) else none
  | _ => none

/-- READ-ENTRY (R180). -/
def runReadEntry (s : State) : State :=
  match entryWords (arg s 1) (arg s 2) s with
  | none => refuse .badArgument s
  | some ws => finish ws s

/-! ### Issue (R173, R175) -/

/-- The issued command runs (Table 10-2); a code that names none is refused (R175). -/
def runCommand (s : State) : State :=
  match s.mgmt.command.toNat with
  | 1 => runLoadRegion s
  | 2 => runClearRegion s
  | 3 => runSetKeys s
  | 4 => runSetParameter s
  | 5 => runCommitTables s
  | 6 => runMemInit s
  | 7 => runProofTest s
  | 8 => runStopTest s
  | 9 => runSeal s
  | 10 => runJoin s
  | 11 => runResume s
  | 12 => runRelease s
  | 13 => runRetireLine s
  | 14 => runEventAck s
  | 15 => runReadStatus s
  | 16 => runReadCounters s
  | 17 => runReadEntry s
  | 18 => runForceFault s
  | 19 => runClearFault s
  | _ => refuse .unknownCommand s

/-- An accepted issue: the issued copy is taken and STATUS becomes BUSY (R173). -/
def acceptIssue (s : State) : State :=
  { s with mgmt := { s.mgmt with
      issued := s.mgmt.area, phase := .busy, code := none, command := s.mgmt.area.getD 0 0, overrun := false
      results := resultWords [] } }

/-- A write to ISSUE with an enable set: discarded with OVERRUN while BUSY, otherwise accepted (R173); the accepted command
then runs. -/
def issueWith (run : State → State) (s : State) : State :=
  if s.mgmt.phase = .busy then { s with mgmt.overrun := true } else run (acceptIssue s)

/-- ISSUE runs the command in the command area. -/
def issue (s : State) : State := issueWith runCommand s

/-- Words placed at the start of the command area. -/
def placeWords (ws : List Word) (s : State) : State :=
  { s with mgmt.area := ws ++ s.mgmt.area.drop ws.length }

/-- A command given with its code and its arguments: they are written into the command area and issued, behind the head whose
grant is under way, and ahead of one that is held or waits for its grant (log entry 6). -/
def giveCommand (code : Nat) (args : List Word) (run : State → State) (s : State) : State :=
  issueWith run (placeWords (wordOf code :: args) (behindHead s))

end Sys2Proof.Machine
end

