-- ==== Sys2Proof/Machine/Port.lean ====
section
/-! DEFINITION. The processor port: refusals, the aperture, the decision on the head, holds and their ends, and power-on
(chapter 1). -/

namespace Sys2Proof.Machine

/-! ### Refusals (R7, R12) -/

/-- The subject of ACCESS-REFUSED: the region index of the first word, or none (R12). -/
def refusalSubject (t : Transaction) (s : State) : Subject :=
  if inAperture t then .none
  else match regionOf s (t.firstWord / 256) with
    | some (i, _) => .region i
    | none => .none

/-- A refusal by R11 is recorded (R12). -/
def recordRefusal (t : Transaction) (r : RefuseAccess) (s : State) : State :=
  let s1 := { s with port := { s.port with
      lastRefusal := { reason := some r, addr := byteAddr t.firstWord, direction := t.direction }
      refused := satSucc s.port.refused } }
  if s.port.refusalReported then s1
  else { hand .accessRefused r.code (refusalSubject t s) (wordOf (byteAddr t.firstWord).toNat) s1 with
    port.refusalReported := true }

/-- The head is refused with a bus error (R12). -/
def refuseHead (t : Transaction) (r : RefuseAccess) (s : State) : State := answerHead .busError (recordRefusal t r s)

/-! ### The aperture (R21) -/

/-- STATUS (R190). Byte 3, which the layout does not list, reads 0: DESIGN CHOICE, log entry 58. -/
def statusWord (s : State) : Word :=
  wordOf (s.mgmt.phase.code + 256 * optCode RefusalCode.code s.mgmt.code + 65536 * flagCode s.mgmt.overrun
    + 4294967296 * (s.mgmt.command.toNat % 4294967296))

/-- The word at 0x208 (R190). Byte 7, which the layout does not list, reads 0 (log entry 58). -/
def eventWord (s : State) : Word :=
  wordOf (s.ev.producer + 65536 * s.ev.consumer + 4294967296 * flagCode s.ev.intLevel + 1099511627776 * flagCode s.ev.intBusy
    + 281474976710656 * flagCode (decide (s.ev.withheld ≠ 0)))

/-- The channel summary word at 0x210 (R190). Bytes 1 to 3 read 0 (log entry 58). -/
def summaryWord (s : State) : Word := wordOf (s.csr.state.code + 4294967296 * s.csr.counter.toNat)

/-- The value that a word offset reads as (Table 1-7). -/
def apertureValue (i : Nat) (s : State) : Word :=
  if i < 16 then s.mgmt.area.getD i 0
  else if i = statusOffset then statusWord s
  else if resultOffset ≤ i ∧ i < resultOffset + 16 then s.mgmt.results.getD (i - resultOffset) 0
  else if i = eventOffset then eventWord s
  else if i = summaryOffset then summaryWord s
  else 0

/-- The enabled lanes of a command-area word are replaced (Table 1-7). -/
def writeArea (i : Nat) (w : WriteWord) (s : State) : State :=
  { s with mgmt.area := s.mgmt.area.set i (mergeLanes w.enables w.data (s.mgmt.area.getD i 0)) }

/-- A COMMIT-TABLES whose effects wait has them before an entry to HALTED that waits for the end of the same grant, since
HALTED is left only by RELEASE and by power-on or the RESET input (R109, R174; log entry 36). -/
def landCommit (s : State) : State :=
  match s.mgmt.deferred with
  | some .commitTables => deferredEffect .commitTables { s with mgmt.deferred := none }
  | _ => s

/-- A decided write to the mark word, whose comparison is made at once (R96) and whose HALTED comes when the grant under way
ends (R108). A mark that is taken opens its vote at once; a resolution within it waits for the grant under way (R30; log
entry 34). -/
def markDuring (s : State) : State :=
  match recordUpset s with
  | some u => if s.csr.state = .unconfigured then markWord s else overGrant (fun t => recordFault u (landCommit t)) s
  | none => if s.csr.state.marking then during resolveIfComplete (during openMark s) else markWord s

/-- The effect of one aperture word of a write (Table 1-7). -/
def apertureEffect (i : Nat) (w : WriteWord) (s : State) : State :=
  if i < 16 then writeArea i w s
  else if i = issueOffset then issue s
  else if i = markOffset then markDuring s
  else s

/-- The words of an aperture write take effect one at a time in ascending order (R21). -/
def apertureEffects : List (Nat × WriteWord) → State → State
  | [], s => s
  | (i, w) :: ws, s => apertureEffects ws (apertureEffect i w s)

/-- An aperture transaction that passed its check is carried out (R21). -/
def apertureHead (t : Transaction) (s : State) : State :=
  match t with
  | .read a n => answerHead (.data ((List.range n).map (fun i => apertureValue (a.toNat / 8 - apertureBase + i) s))) s
  | .write a ws => answerHead .completion (apertureEffects (takingPart (a.toNat / 8 - apertureBase) ws) s)

/-! ### Deciding the head (R10, R19, R20) -/

/-- A head that passes to memory gets the port when it is free and no deferred effect waits; else it waits at rank 1. -/
def grantHead (s : State) : State :=
  if s.arb.grant = none ∧ s.mgmt.deferred = none then { s with port.held := none, arb.grant := some .processor }
  else { s with port.held := none }

/-- The transaction at the head of the queue is decided (R10), a refusal and a hold at once, beside another requester's grant
too (log entry 3). A head whose grant is under way has been decided, and no change of state decides it again (R98). -/
def decideHead (s : State) : State :=
  if s.arb.grant = some .processor then s
  else match s.port.queue with
    | [] => s
    | t :: _ => match decideTransaction t s with
      | .refuse r => refuseHead t r s
      | .hold h => { s with port.held := some h }
      | .aperture => apertureHead t s
      | .memory => grantHead s

/-- When a condition that applied to the held transaction has ended, it is decided again (R20). -/
def settle (s : State) : State :=
  match s.port.held, s.port.queue with
  | some h, t :: _ =>
    if h.ended (holdFor t s) then decideHead { s with port.held := none }
    else { s with port.held := some (h.join (holdFor t s)) }
  | _, _ => s

/-- TRANSACTION_DECIDE: a head that is held is decided again only when a condition that applied to it has ended (R20); any
other head is decided. -/
def decideNext (s : State) : State :=
  match s.port.held with
  | some _ => settle s
  | none => decideHead s

/-! ### The processor's grant, and power-on (R9) -/

/-- The direction of the head. -/
def headDirection (s : State) : Option Direction := s.port.queue.head?.map Transaction.direction

/-- The processor's grant, for a head of one direction. -/
def processorGrant (d : Direction) (s : State) : State :=
  if headDirection s = some d then runGrant .processor processorBody s else s

/-- A transaction is taken into the queue while it holds fewer than 8 (R7). -/
def acceptTransaction (t : Transaction) (s : State) : State :=
  if s.port.queue.length < Config.portDepth then { s with port.queue := s.port.queue ++ [t] } else s

/-- What power-on and the RESET input leave (R9, R30): the grant under way has completed its writes, every queued transaction
is answered with a bus error, memory is kept, everything else takes its reset value. The commands still waiting and what has
left the part are no state of the part (log entries 11 and 30). -/
def powerCycle (s : State) : State :=
  let mem := match portGrant s with
    | some r => (grantBody r s).mem
    | none => s.mem
  { State.reset with
    pending := s.pending, mem := mem
    out := { s.out with responses := s.out.responses ++ s.port.queue.map (fun _ => Response.busError) } }

end Sys2Proof.Machine
end

