-- ==== Sys2Proof/Machine/ExecCommands.lean ====
section
/-! DEFINITION. The commands of Table 10-2, each issued with its arguments (R173, log entry 6), and deferred effects. -/

namespace Sys2Proof.Machine

/-- UNKNOWN-COMMAND: a code that names no command is issued and refused (R175). -/
def execUnknownCommand (code : Word) (s : State) : Host.Outcome State Fault Refusal :=
  .next (settle (issueWith runCommand (placeWords [code] (behindHead s))))

/-- LOAD-REGION (R4). -/
def execLoadRegion (index base count cls flag : Word) (s : State) : Host.Outcome State Fault Refusal :=
  .next (giveCommand codeLoadRegion [index, base, count, cls, flag] runLoadRegion s)

/-- CLEAR-REGION (R4). -/
def execClearRegion (index : Word) (s : State) : Host.Outcome State Fault Refusal :=
  .next (giveCommand codeClearRegion [index] runClearRegion s)

/-- SET-KEYS (R59). -/
def execSetKeys (k1 k2 k3 : Word) (s : State) : Host.Outcome State Fault Refusal :=
  .next (giveCommand codeSetKeys [k1, k2, k3] runSetKeys s)

/-- SET-PARAMETER (R176); a link taken out of service may end a catch-up (R134, R144, R20). -/
def execSetParameter (parameter value : Word) (s : State) : Host.Outcome State Fault Refusal :=
  .next (settle (giveCommand codeSetParameter [parameter, value] runSetParameter s))

/-- COMMIT-TABLES (R100, R177). -/
def execCommitTables (s : State) : Host.Outcome State Fault Refusal :=
  .next (giveCommand codeCommitTables [] runCommitTables s)

/-- MEM-INIT (R40). -/
def execMemInit (first count : Word) (s : State) : Host.Outcome State Fault Refusal :=
  .next (giveCommand codeMemInit [first, count] runMemInit s)

/-- PROOF-TEST (R36). -/
def execProofTest (first count loop : Word) (s : State) : Host.Outcome State Fault Refusal :=
  .next (giveCommand codeProofTest [first, count, loop] runProofTest s)

/-- STOP-TEST (R39). -/
def execStopTest (s : State) : Host.Outcome State Fault Refusal :=
  .next (giveCommand codeStopTest [] runStopTest s)

/-- SEAL (R72). -/
def execSeal (s : State) : Host.Outcome State Fault Refusal :=
  .next (giveCommand codeSeal [] runSeal s)

/-- JOIN (R106, R107). -/
def execJoin (s : State) : Host.Outcome State Fault Refusal :=
  .next (giveCommand codeJoin [] runJoin s)

/-- RESUME (R104). -/
def execResume (s : State) : Host.Outcome State Fault Refusal :=
  .next (giveCommand codeResume [] runResume s)

/-- RELEASE (R110). -/
def execRelease (s : State) : Host.Outcome State Fault Refusal :=
  .next (settle (giveCommand codeRelease [] runRelease s))

/-- RETIRE-LINE (R46). -/
def execRetireLine (line : Word) (s : State) : Host.Outcome State Fault Refusal :=
  .next (giveCommand codeRetireLine [line] runRetireLine s)

/-- EVENT-ACK (R185). -/
def execEventAck (index : Word) (s : State) : Host.Outcome State Fault Refusal :=
  .next (giveCommand codeEventAck [index] runEventAck s)

/-- READ-STATUS (R179). -/
def execReadStatus (page : Word) (s : State) : Host.Outcome State Fault Refusal :=
  .next (giveCommand codeReadStatus [page] runReadStatus s)

/-- READ-COUNTERS (R181). -/
def execReadCounters (group clear : Word) (s : State) : Host.Outcome State Fault Refusal :=
  .next (giveCommand codeReadCounters [group, clear] runReadCounters s)

/-- READ-ENTRY (R180). -/
def execReadEntry (table index : Word) (s : State) : Host.Outcome State Fault Refusal :=
  .next (giveCommand codeReadEntry [table, index] runReadEntry s)

/-- FORCE-FAULT (R187). -/
def execForceFault (s : State) : Host.Outcome State Fault Refusal :=
  .next (giveCommand codeForceFault [] runForceFault s)

/-- CLEAR-FAULT (R187). -/
def execClearFault (s : State) : Host.Outcome State Fault Refusal :=
  .next (giveCommand codeClearFault [] runClearFault s)

/-- The grant under way has ended and deferred effects wait: they take place (R30, R174). -/
def runDeferred (s : State) : State :=
  match s.mgmt.deferred, s.arb.grant with
  | some c, none => deferredEffect c { s with mgmt.deferred := none }
  | _, _ => s

/-- A pending RELEASE, STOP-TEST or COMMIT-TABLES takes effect (R174). -/
def execDeferredCommandEffect (s : State) : Host.Outcome State Fault Refusal :=
  .next (settle (runDeferred s))

end Sys2Proof.Machine
end

