-- ==== Sys2Proof/Machine/ExecEngines.lean ====
section
/-! DEFINITION. The scrub period and the grants of the engines, the walk, the rollback and the event unit. -/

namespace Sys2Proof.Machine

/-- The 10 ms scrub period expires: the allowance is set to SCRUB-RATE (R33). -/
def execScrubPeriodExpiry (s : State) : Host.Outcome State Fault Refusal :=
  .next ({ s with scrub.allowance := s.mgmt.params.scrubRate })

/-- One scrub step (R32). -/
def execScrubStep (s : State) : Host.Outcome State Fault Refusal :=
  .next (settle (runGrant .scrub scrubBody s))

/-- One step of the proof test (R37). -/
def execProofStep (s : State) : Host.Outcome State Fault Refusal :=
  .next (runGrant .proof proofBody s)

/-- One step of the initialise (R40). -/
def execInitStep (s : State) : Host.Outcome State Fault Refusal :=
  .next (runGrant .init initBody s)

/-- One rebuild step (R70). -/
def execRebuildStep (s : State) : Host.Outcome State Fault Refusal :=
  .next (runGrant .rebuild rebuildBody s)

/-- Before a step is requested, an overflowed flag set since the start stops the rollback with UNREADABLE (R89, R94). -/
def rollbackStep (s : State) : State :=
  if rolling s ∧ s.jnl.broken = true ∧ s.arb.grant ≠ some .rollback then
    during (finishRollback (some rollbackUnreadable)) s
  else runGrant .rollback rollbackBody s

/-- One rollback step (R89 to R92). -/
def execRollbackStep (s : State) : Host.Outcome State Fault Refusal :=
  .next (settle (rollbackStep s))

/-- One event write (R183, R184). -/
def execEventWrite (s : State) : Host.Outcome State Fault Refusal :=
  .next (runGrant .eventWrite eventBody s)

end Sys2Proof.Machine
end

