-- ==== Sys2Proof/Machine/ExecLinks.lean ====
section
/-! DEFINITION. The links: the expiry of their timers and the twelve receptions. -/

namespace Sys2Proof.Machine

/-- The hail timer expires (R138, R140). -/
def execHailTimerExpiry (l : LinkId) (s : State) : Host.Outcome State Fault Refusal :=
  .next (hailExpiry l s)

/-- The quiet timer expires (R145). -/
def execQuietTimerExpiry (l : LinkId) (s : State) : Host.Outcome State Fault Refusal :=
  .next (quietExpiry l s)

/-- The silence timer expires (R142); a role that ends may end a catch-up (R20). -/
def execSilenceTimerExpiry (l : LinkId) (s : State) : Host.Outcome State Fault Refusal :=
  .next (settle (during (silenceExpiry l) s))

/-- The beat timer expires (R142). -/
def execBeatTimerExpiry (l : LinkId) (s : State) : Host.Outcome State Fault Refusal :=
  .next (beatExpiry l s)

/-! ### What a checked frame of each kind does (R137) -/

/-- A HAIL (R139, R140, R143). -/
def useHail (l : LinkId) (f : Frame) (s : State) : State :=
  match f.payload with
  | .hail d st k n =>
    takeHail l { ack := f.ack, mismatch := f.mismatch, sender := f.sender, digest := d, state := st, counter := k
                 committed := n } s
  | _ => s

/-- A BEAT is its sender's report (R118). -/
def useBeat (f : Frame) (s : State) : State :=
  match f.payload with
  | .beat st k n => updateReport f.sender st k n s
  | _ => s

/-- A SIGN (R118 to R122): its originator's report, forwarded when direct, then used; one of this channel's own or of no
peer is discarded at once. The watch kept in HELD acts with the report, before the SIGN goes on (log entry 49). -/
def useSignFrame (l : LinkId) (f : Frame) (s : State) : State :=
  match f.payload with
  | .sign m n st sg =>
    if peerSlot s f.originator = none then s
    else
      useSign f.originator m sg.toNat (if f.relayed then .relayed else .direct)
        (forwardSign l f (updateReport f.originator st m n s))
  | _ => s

/-- A REQUEST (R157). -/
def useRequest (l : LinkId) (f : Frame) (s : State) : State :=
  match f.payload with
  | .request b need => takeRequest l f.sender b need s
  | _ => s

/-- An ACCEPT (R155, R159). -/
def useAccept (l : LinkId) (f : Frame) (s : State) : State :=
  match f.payload with
  | .accept _ _ => takeAccept l f.sender s
  | _ => s

/-- A REFUSE (R155). -/
def useRefuse (f : Frame) (s : State) : State :=
  match f.payload with
  | .refuse why => takeRefuse f.sender why s
  | _ => s

/-- A LINE (R147). -/
def useLine (l : LinkId) (f : Frame) (s : State) : State :=
  match f.payload with
  | .line o ws => takeLine l { ordinal := o.toNat, words := ws } s
  | _ => s

/-- A CLOSE (R167). -/
def useClose (f : Frame) (s : State) : State :=
  match f.payload with
  | .close k n t => takeClose f.sender k n t s
  | _ => s

/-- A VERDICT (R169). -/
def useVerdict (f : Frame) (s : State) : State :=
  match f.payload with
  | .verdict v => takeVerdict f.sender v s
  | _ => s

/-- An ABORT (R170). -/
def useAbort (f : Frame) (s : State) : State :=
  match f.payload with
  | .abort why => takeAbort f.sender why s
  | _ => s

/-- Reception of a HAIL (R139, R140, R143). -/
def execHailReceive (l : LinkId) (raw : List Byte) (s : State) : Host.Outcome State Fault Refusal :=
  .next (settle (during (receiveFrame l .hail raw (useHail l)) s))

/-- Reception of a BEAT (R118). -/
def execBeatReceive (l : LinkId) (raw : List Byte) (s : State) : Host.Outcome State Fault Refusal :=
  .next (settle (during (receiveFrame l .beat raw useBeat) s))

/-- Reception of a SIGN (R119, R120). -/
def execSignReceive (l : LinkId) (raw : List Byte) (s : State) : Host.Outcome State Fault Refusal :=
  .next (settle (during (receiveFrame l .sign raw (useSignFrame l)) s))

/-- Reception of a REQUEST (R157). -/
def execRequestReceive (l : LinkId) (raw : List Byte) (s : State) : Host.Outcome State Fault Refusal :=
  .next (receiveFrame l .request raw (useRequest l) s)

/-- Reception of an ACCEPT (R159). -/
def execAcceptReceive (l : LinkId) (raw : List Byte) (s : State) : Host.Outcome State Fault Refusal :=
  .next (receiveFrame l .accept raw (useAccept l) s)

/-- Reception of a REFUSE (R155). -/
def execRefuseReceive (l : LinkId) (raw : List Byte) (s : State) : Host.Outcome State Fault Refusal :=
  .next (receiveFrame l .refuse raw useRefuse s)

/-- Reception of a LINE (R147). -/
def execLineReceive (l : LinkId) (raw : List Byte) (s : State) : Host.Outcome State Fault Refusal :=
  .next (receiveFrame l .line raw (useLine l) s)

/-- Reception of a HOLD (R148). -/
def execHoldReceive (l : LinkId) (raw : List Byte) (s : State) : Host.Outcome State Fault Refusal :=
  .next (receiveFrame l .hold raw (fun _ => takeHold l) s)

/-- Reception of a GO (R148); the frame it lets go may close the catch-up (R163, R20). -/
def execGoReceive (l : LinkId) (raw : List Byte) (s : State) : Host.Outcome State Fault Refusal :=
  .next (settle (receiveFrame l .go raw (fun _ => takeGo l) s))

/-- Reception of a CLOSE (R167). -/
def execCloseReceive (l : LinkId) (raw : List Byte) (s : State) : Host.Outcome State Fault Refusal :=
  .next (receiveFrame l .close raw useClose s)

/-- Reception of a VERDICT (R169). -/
def execVerdictReceive (l : LinkId) (raw : List Byte) (s : State) : Host.Outcome State Fault Refusal :=
  .next (receiveFrame l .verdict raw useVerdict s)

/-- Reception of an ABORT (R170). -/
def execAbortReceive (l : LinkId) (raw : List Byte) (s : State) : Host.Outcome State Fault Refusal :=
  .next (settle (during (receiveFrame l .abort raw useAbort) s))

end Sys2Proof.Machine
end

