-- ==== Sys2Proof/Machine/ExecPort.lean ====
section
/-! DEFINITION. The processor port: a transaction taken, decided and carried out; the writes that reach the management unit. -/

namespace Sys2Proof.Machine

/-- The port takes a transaction into its queue when there is room (R7). -/
def execTransactionAccept (t : Transaction) (s : State) : Host.Outcome State Fault Refusal :=
  .next (acceptTransaction t s)

/-- The head of the queue is routed and checked, then refused, held, routed to the aperture or given a grant (R10, R20). -/
def execTransactionDecide (s : State) : Host.Outcome State Fault Refusal :=
  .next (decideNext s)

/-- The head, a read, is carried out in one grant (R14). -/
def execProcessorRead (s : State) : Host.Outcome State Fault Refusal :=
  .next (processorGrant .read s)

/-- The head, a write, is carried out in one grant (R15 to R18). -/
def execProcessorWrite (s : State) : Host.Outcome State Fault Refusal :=
  .next (processorGrant .write s)

/-- A write to ISSUE: discarded with OVERRUN while STATUS is BUSY (R173). In any other phase the issue is accepted
(log entry 7). Either comes behind the head whose grant is under way (log entry 6). -/
def execIssueDiscard (s : State) : Host.Outcome State Fault Refusal :=
  .next (settle (issue (behindHead s)))

/-- A write to a word of the command area replaces its enabled lanes (R21). -/
def execApertureRegisterWrite (index : Nat) (data : Word) (enables : BitVec 8) (s : State) : Host.Outcome State Fault Refusal :=
  .next (writeArea index { data := data, enables := enables } s)

end Sys2Proof.Machine
end

