-- ==== Sys2Proof/Machine/ExecPower.lean ====
section
/-! DEFINITION. Power-on and the RESET input. -/

namespace Sys2Proof.Machine

/-- POWER-ON (R9): the bus errors of the queue, the end of the grant under way, and every reset value. -/
def execPowerOn (s : State) : Host.Outcome State Fault Refusal :=
  .next (powerCycle s)

/-- The RESET input returns the part to its initial condition exactly as power-on does (R9, 00 section 4.7). -/
def execResetInput (s : State) : Host.Outcome State Fault Refusal :=
  .next (powerCycle s)

end Sys2Proof.Machine
end

