-- ==== Sys2Proof/Machine/ExecRepair.lean ====
section
/-! DEFINITION. The repair unit: its grants, the joiner's verdict and its timers. -/

namespace Sys2Proof.Machine

/-- One line capture (R160). -/
def execLineCapture (s : State) : Host.Outcome State Fault Refusal :=
  .next (settle (runGrant .lineCapture captureBody s))

/-- One receive-write (R165, R166). -/
def execReceiveWrite (s : State) : Host.Outcome State Fault Refusal :=
  .next (runGrant .receiveWrite receiveBody s)

/-- The joiner compares and answers the CLOSE (R167, R168). -/
def execJoinerVerdict (s : State) : Host.Outcome State Fault Refusal :=
  .next (giveVerdict s)

/-- The reply timer expires (R155). -/
def execReplyTimerExpiry (s : State) : Host.Outcome State Fault Refusal :=
  .next (replyExpiry s)

/-- The retry timer expires (R156). -/
def execRetryTimerExpiry (s : State) : Host.Outcome State Fault Refusal :=
  .next (retryExpiry s)

/-- The receive timer expires (R165). -/
def execReceiveTimerExpiry (s : State) : Host.Outcome State Fault Refusal :=
  .next (during receiveExpiry s)

/-- The hold timer expires (R161). -/
def execHoldTimerExpiry (s : State) : Host.Outcome State Fault Refusal :=
  .next (settle (during holdExpiry s))

/-- The catch-up timer expires (R163). -/
def execCatchupTimerExpiry (s : State) : Host.Outcome State Fault Refusal :=
  .next (settle (during catchupExpiry s))

/-- The verdict timer expires (R169). -/
def execVerdictTimerExpiry (s : State) : Host.Outcome State Fault Refusal :=
  .next (verdictExpiry s)

end Sys2Proof.Machine
end

