-- ==== Sys2Proof/Machine/ExecSparing.lean ====
section
/-! DEFINITION. The line sparing unit: service, the spare test and the copy. -/

namespace Sys2Proof.Machine

/-- The lowest spare-pending slot is served (R48, R49). -/
def execServeSparePending (s : State) : Host.Outcome State Fault Refusal :=
  .next (servePending s)

/-- One step of a spare test (R50). -/
def execSpareTestStep (s : State) : Host.Outcome State Fault Refusal :=
  .next (runGrant .spareTest spareTestBody s)

/-- One step of a line copy (R53). -/
def execCopyStep (s : State) : Host.Outcome State Fault Refusal :=
  .next (settle (runGrant .copy copyBody s))

end Sys2Proof.Machine
end

