-- ==== Sys2Proof/Machine/ExecVote.lean ====
section
/-! DEFINITION. The cycle mark and the vote's window. -/

namespace Sys2Proof.Machine

/-- A mark that is decided (R114); one that a condition of R19 holds is not decided. -/
def decideMark (s : State) : State := if (markHold s).any then s else markDuring s

/-- A decided write to the mark word (R114, R115), behind the head whose grant is under way. -/
def execCycleMark (s : State) : Host.Outcome State Fault Refusal :=
  .next (decideMark (behindHead s))

/-- The open vote resolves without the missing peers; with no vote open nothing happens (R124). -/
def resolveOpen (s : State) : State :=
  if s.vote.record.isOpen && s.vote.record.window.isSome then resolveVote s else s

/-- The window timer's expiry: the open vote resolves when the grant under way ends. An expiry that finds no vote open has no
effect, and the grant under way goes on (R124). -/
def windowExpiry (s : State) : State :=
  if s.vote.record.isOpen && s.vote.record.window.isSome then overGrant resolveOpen s else s

/-- The window timer expires (R124). -/
def execVoteWindowExpiry (s : State) : Host.Outcome State Fault Refusal :=
  .next (settle (windowExpiry s))

end Sys2Proof.Machine
end

