-- ==== Sys2Proof/Machine/Dispatch.lean ====
section
/-! DEFINITION. The meaning of every command: one arm per constructor of Instr. -/

namespace Sys2Proof.Machine

def exec (i : Instr) (s : State) : Host.Outcome State Fault Refusal :=
  match i with
  | .powerOn => Sys2Proof.Machine.execPowerOn s
  | .resetInput => Sys2Proof.Machine.execResetInput s
  | .transactionAccept t => Sys2Proof.Machine.execTransactionAccept t s
  | .transactionDecide => Sys2Proof.Machine.execTransactionDecide s
  | .processorRead => Sys2Proof.Machine.execProcessorRead s
  | .processorWrite => Sys2Proof.Machine.execProcessorWrite s
  | .issueDiscard => Sys2Proof.Machine.execIssueDiscard s
  | .apertureRegisterWrite index data enables => Sys2Proof.Machine.execApertureRegisterWrite index data enables s
  | .unknownCommand code => Sys2Proof.Machine.execUnknownCommand code s
  | .loadRegion index base count cls flag => Sys2Proof.Machine.execLoadRegion index base count cls flag s
  | .clearRegion index => Sys2Proof.Machine.execClearRegion index s
  | .setKeys k1 k2 k3 => Sys2Proof.Machine.execSetKeys k1 k2 k3 s
  | .setParameter parameter value => Sys2Proof.Machine.execSetParameter parameter value s
  | .commitTables => Sys2Proof.Machine.execCommitTables s
  | .memInit first count => Sys2Proof.Machine.execMemInit first count s
  | .proofTest first count loop => Sys2Proof.Machine.execProofTest first count loop s
  | .stopTest => Sys2Proof.Machine.execStopTest s
  | .seal => Sys2Proof.Machine.execSeal s
  | .join => Sys2Proof.Machine.execJoin s
  | .resume => Sys2Proof.Machine.execResume s
  | .release => Sys2Proof.Machine.execRelease s
  | .deferredCommandEffect => Sys2Proof.Machine.execDeferredCommandEffect s
  | .retireLine line => Sys2Proof.Machine.execRetireLine line s
  | .eventAck index => Sys2Proof.Machine.execEventAck index s
  | .readStatus page => Sys2Proof.Machine.execReadStatus page s
  | .readCounters group clear => Sys2Proof.Machine.execReadCounters group clear s
  | .readEntry table index => Sys2Proof.Machine.execReadEntry table index s
  | .forceFault => Sys2Proof.Machine.execForceFault s
  | .clearFault => Sys2Proof.Machine.execClearFault s
  | .cycleMark => Sys2Proof.Machine.execCycleMark s
  | .voteWindowExpiry => Sys2Proof.Machine.execVoteWindowExpiry s
  | .scrubPeriodExpiry => Sys2Proof.Machine.execScrubPeriodExpiry s
  | .scrubStep => Sys2Proof.Machine.execScrubStep s
  | .proofStep => Sys2Proof.Machine.execProofStep s
  | .initStep => Sys2Proof.Machine.execInitStep s
  | .serveSparePending => Sys2Proof.Machine.execServeSparePending s
  | .spareTestStep => Sys2Proof.Machine.execSpareTestStep s
  | .copyStep => Sys2Proof.Machine.execCopyStep s
  | .rebuildStep => Sys2Proof.Machine.execRebuildStep s
  | .rollbackStep => Sys2Proof.Machine.execRollbackStep s
  | .eventWrite => Sys2Proof.Machine.execEventWrite s
  | .hailTimerExpiry l => Sys2Proof.Machine.execHailTimerExpiry l s
  | .quietTimerExpiry l => Sys2Proof.Machine.execQuietTimerExpiry l s
  | .silenceTimerExpiry l => Sys2Proof.Machine.execSilenceTimerExpiry l s
  | .beatTimerExpiry l => Sys2Proof.Machine.execBeatTimerExpiry l s
  | .hailReceive l raw => Sys2Proof.Machine.execHailReceive l raw s
  | .beatReceive l raw => Sys2Proof.Machine.execBeatReceive l raw s
  | .signReceive l raw => Sys2Proof.Machine.execSignReceive l raw s
  | .requestReceive l raw => Sys2Proof.Machine.execRequestReceive l raw s
  | .acceptReceive l raw => Sys2Proof.Machine.execAcceptReceive l raw s
  | .refuseReceive l raw => Sys2Proof.Machine.execRefuseReceive l raw s
  | .lineReceive l raw => Sys2Proof.Machine.execLineReceive l raw s
  | .holdReceive l raw => Sys2Proof.Machine.execHoldReceive l raw s
  | .goReceive l raw => Sys2Proof.Machine.execGoReceive l raw s
  | .closeReceive l raw => Sys2Proof.Machine.execCloseReceive l raw s
  | .verdictReceive l raw => Sys2Proof.Machine.execVerdictReceive l raw s
  | .abortReceive l raw => Sys2Proof.Machine.execAbortReceive l raw s
  | .lineCapture => Sys2Proof.Machine.execLineCapture s
  | .receiveWrite => Sys2Proof.Machine.execReceiveWrite s
  | .joinerVerdict => Sys2Proof.Machine.execJoinerVerdict s
  | .replyTimerExpiry => Sys2Proof.Machine.execReplyTimerExpiry s
  | .retryTimerExpiry => Sys2Proof.Machine.execRetryTimerExpiry s
  | .receiveTimerExpiry => Sys2Proof.Machine.execReceiveTimerExpiry s
  | .holdTimerExpiry => Sys2Proof.Machine.execHoldTimerExpiry s
  | .catchupTimerExpiry => Sys2Proof.Machine.execCatchupTimerExpiry s
  | .verdictTimerExpiry => Sys2Proof.Machine.execVerdictTimerExpiry s

end Sys2Proof.Machine
end

