-- ==== Sys2Proof/Safety.lean ====
section
/-! DEFINITION. The terms in which claims speak: when a command is taken and how it ends, who holds the memory port, which rows
the words of an aperture write stand for, when a hold still applies, what the watch in HELD looks for, which words of memory
decode as what and what their reads have done, what a withdrawal leaves, and what a well-kept state is. -/

namespace Sys2Proof.Machine

/-! ### Commands (R173 to R175) -/

/-- STATUS is not BUSY, so a write to ISSUE is accepted (R173), and it waits behind no head whose grant is under way (log
entry 6). -/
def free (s : State) : Prop := s.mgmt.phase ≠ .busy ∧ s.arb.grant ≠ some .processor

/-- The command area after a command's code and arguments have been written at its start. -/
def placed (code : Nat) (args : List Word) (m : MgmtUnit) : List Word :=
  wordOf code :: args ++ m.area.drop (args.length + 1)

/-- The management unit after a command has been accepted and has ended in `ph`, with its refusal code and the result words
`ws`, the rest of the sixteen 0 (R173 to R175). -/
def ended (code : Nat) (args : List Word) (ph : Phase) (r : Option RefusalCode) (ws : List Word) (m : MgmtUnit) : MgmtUnit :=
  { m with
    area := placed code args m, issued := placed code args m, phase := ph, code := r, command := wordOf code
    overrun := false, results := (ws ++ List.replicate 16 0).take 16 }

/-- The code and the arguments of a row that is a command of Table 10-2, or an unknown code (R175, R188). -/
def commandOf : Instr → Option (Nat × List Word)
  | .loadRegion i b n c f => some (1, [i, b, n, c, f])
  | .clearRegion i => some (2, [i])
  | .setKeys a b c => some (3, [a, b, c])
  | .setParameter p v => some (4, [p, v])
  | .commitTables => some (5, [])
  | .memInit f n => some (6, [f, n])
  | .proofTest f n l => some (7, [f, n, l])
  | .stopTest => some (8, [])
  | .seal => some (9, [])
  | .join => some (10, [])
  | .resume => some (11, [])
  | .release => some (12, [])
  | .retireLine l => some (13, [l])
  | .eventAck n => some (14, [n])
  | .readStatus p => some (15, [p])
  | .readCounters g c => some (16, [g, c])
  | .readEntry t i => some (17, [t, i])
  | .forceFault => some (18, [])
  | .clearFault => some (19, [])
  | _ => none

/-- The command ends DONE with its result words, and nothing but the management unit's own items has changed. -/
def done (code : Nat) (args ws : List Word) (s : State) : State := { s with mgmt := ended code args .done none ws s.mgmt }

/-- The command ends REFUSED: nothing but the management unit's own items has changed, and the result words are 0 (R174). -/
def turnedAway (code : Nat) (args : List Word) (r : RefusalCode) (s : State) : State :=
  { s with mgmt := ended code args .refused (some r) [] s.mgmt }

/-- The command has been accepted and is BUSY. -/
def underWay (code : Nat) (args : List Word) (s : State) : State := { s with mgmt := ended code args .busy none [] s.mgmt }

/-- The management unit after a deferred command has taken effect: STATUS is DONE and the result words are 0 (R174). -/
def endedLate (m : MgmtUnit) : MgmtUnit :=
  { m with phase := .done, results := List.replicate 16 0, deferred := none }

/-- The clamped parameters of Table 10-3 by code: the bounds, the states they are writable in, and the item they set. -/
def clampedParameter : Nat → Option (Nat × Nat × (ChannelState → Bool) × (Params → Nat → Params))
  | 3 => some (1, 4095, ChannelState.loading, fun p x => { p with voteWindow := x })
  | 4 => some (1, 50, ChannelState.loading, fun p x => { p with beat := x })
  | 5 => some (2, 255, ChannelState.loading, fun p x => { p with silence := x })
  | 6 => some (0, 1024, ChannelState.loading, fun p x => { p with catchupLines := x })
  | 7 => some (1, 255, ChannelState.loading, fun p x => { p with catchupLimit := x })
  | 8 => some (1, 255, ChannelState.loading, fun p x => { p with holdLimit := x })
  | 9 => some (1, 255, ChannelState.loading, fun p x => { p with repairCycleLimit := x })
  | 10 => some (0, 7, fun _ => true, fun p x => { p with rejoinRetries := x })
  | 11 => some (10, 10000, fun _ => true, fun p x => { p with rejoinRetry := x })
  | 12 => some (1, 15, fun st => decide (st ≠ .unconfigured), fun p x => { p with retireThreshold := x })
  | 13 => some (0, 255, fun _ => true, fun p x => { p with scrubRate := x })
  | 14 => some (50, 95, ChannelState.loading, fun p x => { p with pressurePct := x })
  | _ => none

/-! ### The memory port (R28, R29) -/

/-- The port is free and no requester waits: no grant is under way or about to begin. -/
def portIdle (s : State) : Prop := s.arb.grant = none ∧ nextGrant s = none

/-- The next grant is this requester's: it has been given to it, or it is the highest waiting one. -/
def granted (r : Requester) (s : State) : Prop :=
  s.arb.grant = some r ∨ (s.arb.grant = none ∧ s.mgmt.deferred = none ∧ nextGrant s = some r)

/-- The operation of a requester is under way: it is what the requester's grants carry on. -/
def operates (r : Requester) (s : State) : Bool :=
  match r with
  | .processor => !s.port.queue.isEmpty
  | .lineCapture => captureActive s
  | .rollback => rolling s
  | _ => waits r s

/-- A requester whose operation is under way has the next grant. -/
def runs (r : Requester) (s : State) : Prop := granted r s ∧ operates r { s with arb.grant := none } = true

/-- The command that carries out a requester's grant: a write at the head of the queue is carried out by PROCESSOR_WRITE. -/
def stepOf (r : Requester) (s : State) : Instr :=
  match r with
  | .processor => if headDirection s = some .write then .processorWrite else .processorRead
  | .eventWrite => .eventWrite
  | .rollback => .rollbackStep
  | .receiveWrite => .receiveWrite
  | .lineCapture => .lineCapture
  | .copy => .copyStep
  | .rebuild => .rebuildStep
  | .spareTest => .spareTestStep
  | .proof => .proofStep
  | .init => .initStep
  | .scrub => .scrubStep

/-! ### The aperture (R21) -/

/-- The rows that the words of an aperture write stand for, from word offset `i` on, in ascending order: a word of the command
area, ISSUE or the mark (Table 1-7). A word without an enable takes no part. -/
def apertureRows : Nat → List WriteWord → List Instr
  | _, [] => []
  | i, w :: ws =>
    (if w.enables = 0 then []
      else if i < 16 then [.apertureRegisterWrite i w.data w.enables]
      else if i = issueOffset then [.issueDiscard]
      else if i = markOffset then [.cycleMark]
      else []) ++ apertureRows (i + 1) ws

/-- The commands, one after the other, take a state to another. -/
def runsThrough : List Instr → State → State → Prop
  | [], s, u => u = s
  | c :: cs, s, u => ∃ t, exec c s = .next t ∧ runsThrough cs t u

/-! ### Holds (R19, R20) -/

/-- A held head is held for conditions that still apply to it. -/
def holdsStand (s : State) : Prop :=
  ∀ h x rest, s.port.held = some h → s.port.queue = x :: rest → h.ended (holdFor x s) = false

/-! ### The watch kept in HELD (R131) -/

/-- Both peers' reports are VOTING with committed cycles ahead of this channel's. -/
def bothAhead (s : State) : Prop :=
  ∀ x ∈ [s.vote.peer0, s.vote.peer1], x.state = some .voting ∧
    1 ≤ (x.committed - s.csr.committed).toNat ∧ (x.committed - s.csr.committed).toNat < 2 ^ 31

/-! ### Memory -/

/-- The words from `a` on decode CLEAN with the given values. -/
def cleanAt (s : State) (a : Nat) : List Word → Prop
  | [] => True
  | v :: vs => decodeStored (storedAt s a) a = .clean v ∧ cleanAt s (a + 1) vs

/-- How the words at some addresses decode as they are stored, in order (Table 2-1). -/
def outcomesAt (s : State) (as : List Nat) : List (Nat × ReadOutcome) := as.map (fun a => (a, decodeStored (storedAt s a) a))

/-- The `n` word addresses from `a` on. -/
def wordsFrom (a n : Nat) : List Nat := (List.range n).map (fun i => a + i)

/-- The value that a word delivers as it is stored; one that decodes UNCORRECTABLE delivers none, and its 0 is not used. -/
def valueAt (s : State) (a : Nat) : Word := (decodeStored (storedAt s a) a).value.getD 0

/-- What the reads of one grant have done, word by word: a CLEAN word nothing, a CORRECTED word its write-back, its count and
the suspect table (R24), an UNCORRECTABLE word its count, its record and, in a VITAL region, S made invalid (R25). -/
def met (by_ : ReadBy) : List (Nat × ReadOutcome) → State → State
  | [], s => s
  | (_, .clean _) :: rs, s => met by_ rs s
  | (a, .corrected v) :: rs, s => met by_ rs (correct a v s)
  | (a, .uncorrectable raw) :: rs, s => met by_ rs (reportUncorrectable by_ a raw s)

/-! ### Records -/

/-- The event unit after a record has been handed. -/
def evAfter (k : EventKind) (detail : Nat) (subj : Subject) (v : Word) (s : State) : EventUnit := (hand k detail subj v s).ev

/-- A set of peers as the subject of a record, from its two entries in identity order (R117, R130). -/
def setOfPeers (me : Option Identity) (first second : Bool) : Subject :=
  match me with
  | some .a => .peers false first second
  | some .b => .peers first false second
  | some .c => .peers first second false
  | none => .peers false false false

/-! ### Votes (Table 7-3, R189) -/

/-- No value is held by two counted channels: no arrival is this channel's snapshot, and the two arrivals are not one value, or
are one of p or above, which agrees with none. -/
def noMajorityIn (r : VoteRecord) : Prop :=
  (∀ how, r.arrival0 ≠ some (r.snapshot, how) ∧ r.arrival1 ≠ some (r.snapshot, how)) ∧
  ∀ v h0 h1, r.arrival0 = some (v, h0) → r.arrival1 = some (v, h1) → 2 ^ 61 - 1 ≤ v

/-! ### Links (R135 to R142) -/

/-- The silence timer of a link has started again (R142). -/
def silenceRestarted (l : LinkId) (s : State) : State :=
  updLink l (fun k => { k with silenceTimer := some (max s.mgmt.params.silence (2 * s.mgmt.params.beat)) }) s

/-- A frame of this channel's own, without flags. -/
def ownFrame (me : Identity) (pl : Payload) : Frame :=
  { ack := false, mismatch := false, relayed := false, sender := me, originator := me, payload := pl }

/-- A frame has gone out on a link that is UP, and its beat timer has started again (R135, R142). -/
def sentUp (l : LinkId) (f : Frame) (s : State) : State :=
  updLink l (fun k => { k with beatTimer := some s.mgmt.params.beat }) (transmit l f s)

/-- The bytes are those of a frame that a link which is UP accepts: they pass the checks and come from its peer (R136, R137). -/
def accepts (l : LinkId) (raw : List Byte) (f : Frame) (s : State) : Prop :=
  (getLink s l).status = .up ∧ checkFrame raw = some f ∧ (getLink s l).peer = some f.sender

/-- A peer's report has been replaced (R118). -/
def reported (x : Identity) (st : Option ChannelState) (counter committed : Cycle) (s : State) : State :=
  updPeer x (fun y => { y with state := st, counter := counter, committed := committed }) s

/-- The frames that a link has sent. -/
def framesOf (s : State) (l : LinkId) : List Frame :=
  match l with
  | .link1 => s.out.tx1
  | .link2 => s.out.tx2

/-- From `s` to `t` a joiner `j` with source `x` on link `l` has left RECEIVING or CLOSING for OUT (R170, R171), after it sent
`parting` to its source: a REPAIR record with the channel state it still had (log entry 43), a STATE-CHANGE record, no buffered
frame, and preparation from step 3 with the base lost. With S valid no walk is run, and a fresh sequence begins at once: a
REQUEST without a base to the first eligible peer, or, with none eligible, the retry wait. -/
structure ReturnedToOut (s t : State) (j : JoinerRole) (x : Identity) (l : LinkId) (detail cause : Nat)
    (parting : List Frame) : Prop where
  csr : t.csr = { s.csr with state := .out, stateInv := ~~~ (7 : BitVec 8) }
  kept : t.mem = s.mem ∧ t.port = s.port ∧ t.jnl = s.jnl ∧ t.regions = s.regions ∧ t.spare = s.spare ∧ t.scrub = s.scrub ∧
    t.mgmt = s.mgmt ∧ t.counters = s.counters ∧ t.sig.s = s.sig.s ∧ t.sig.valid = s.sig.valid
  slots : t.vote.peer0.slot = none ∧ t.vote.peer1.slot = none
  buffers : t.link1.buffer = [] ∧ t.link2.buffer = []
  told : framesOf s l ++ parting <+: framesOf t l
  role : ∃ j1, t.repair = { s.repair with role := .joiner j1 } ∧ j1.base = none ∧ j1.need = [] ∧ j1.baseLost = true ∧
    j1.forcedFull = j.forcedFull ∧
    (s.sig.valid = false → j1.phase = .preparing ∧ j1.candidate = none ∧
      t.sig = { s.sig with walk := .preparation, cursor := 0, acc := 0, poisoned := [], overflow := false }) ∧
    (s.sig.valid = true → t.sig = s.sig ∧
      (∀ me y z k, s.mgmt.params.channelId = some me → otherIds (some me) = some (y, z) → eligible s.vote.peer0 = true →
        s.vote.peer0.link = some k → (getLink s k).status = .up →
        j1.phase = .requesting ∧ j1.candidate = some y ∧ j1.retry = s.mgmt.params.rejoinRetries ∧
        j1.replyTimer = some s.mgmt.params.voteWindow ∧ t.vote.peer0.relation = some .joinerOf ∧
        (framesOf t k).getLast? = some (ownFrame me (.request none []))) ∧
      (eligible s.vote.peer0 = false → eligible s.vote.peer1 = false → 0 < s.mgmt.params.rejoinRetries →
        j1.phase = .retryWait ∧ j1.retry = s.mgmt.params.rejoinRetries - 1 ∧ j1.candidate = none ∧
        j1.retryTimer = some s.mgmt.params.rejoinRetry))
  records : s.sig.valid = false ∨ 0 < s.mgmt.params.rejoinRetries →
    let repaired : State := { s with ev := evAfter .repair detail (.peer x) (wordOf j.linesWritten) s }
    t.ev = evAfter .stateChange cause (.channelState s.csr.state) (wordOf s.csr.committed.toNat) { repaired with csr := t.csr }

/-! ### Withdrawal and the seal abort (R73, R101) -/

/-- The rollback record of a rollback that has been requested (R88). -/
def requested (why : RollbackReason) (rolling : Bool) (s : State) : RollbackRecord :=
  { rolling := rolling, reason := some why, validAtStart := s.sig.valid, tagVoting := s.csr.counter.setWidth 16
    tagOpen := (s.csr.counter + 1).setWidth 16, undone := 0 }

/-- A grant has met an UNCORRECTABLE vital word in SEALED, VOTING or HELD with no rollback running, and from `s`, the state
after its reads with S invalid, to `t` the channel has withdrawn (R101): the latch set, OUT with its record, the open vote
cancelled, a source role ended with SOURCE-FAULT, its ABORT and its record, and preparation begun. An intact journal with
entries is rolled back from then on; an empty one is UNSIGNED at once, and one with an overflowed segment BROKEN with its
ROLLBACK-CHECK record, either with the journal emptied, the counter at the committed cycle and the preparation walk started. -/
structure Withdrew (s t : State) : Prop where
  kept : t.mem = s.mem ∧ t.port = s.port ∧ t.arb = s.arb ∧ t.regions = s.regions ∧ t.counters = s.counters ∧
    t.spare = s.spare ∧ t.scrub = s.scrub ∧ t.mgmt = s.mgmt ∧ t.out.responses = s.out.responses
  vote : t.vote.record = VoteRecord.cleared ∧ t.vote.peer0.slot = none ∧ t.vote.peer1.slot = none
  rolls : s.jnl.broken = false → s.jnl.entries ≠ 0 →
    t.csr = { s.csr with state := .out, stateInv := ~~~ (7 : BitVec 8) } ∧ t.sig = s.sig ∧
    t.jnl = { s.jnl with rb := requested .withdrawal true s }
  ends : s.jnl.broken = true ∨ s.jnl.entries = 0 →
    t.csr = { s.csr with
      state := .out, stateInv := ~~~ (7 : BitVec 8), counter := s.csr.committed, counterInv := ~~~ s.csr.committed } ∧
    t.sig = { s.sig with walk := .preparation, cursor := 0, acc := 0, poisoned := [], overflow := false } ∧
    t.jnl = { JournalUnit.reset with rb := requested .withdrawal false s }
  role : ∃ j, t.repair = { s.repair with
      role := .joiner j
      r := match s.repair.role with
        | .source _ => []
        | _ => s.repair.r } ∧
    j.phase = .preparing ∧ j.base = none ∧ j.forcedFull = false ∧ j.need = [] ∧ j.candidate = none ∧
    j.result = (if s.jnl.broken = true then some .broken else if s.jnl.entries = 0 then some .unsigned else none)
  told : ∀ r me, s.repair.role = .source r → s.mgmt.params.channelId = some me → (getLink s r.link).status = .up →
    framesOf t r.link = framesOf s r.link ++ [ownFrame me (.abort .sourceFault)]
  quiet : (∀ r, s.repair.role ≠ .source r) → t.out = s.out ∧ t.link1 = s.link1 ∧ t.link2 = s.link2
  records :
    let out : State := { s with csr := { s.csr with state := .out, stateInv := ~~~ (7 : BitVec 8) }, ev.faultLatch := true }
    let changed := evAfter .stateChange 8 (.channelState s.csr.state) (wordOf s.csr.committed.toNat) out
    let parted := match s.repair.role with
      | .source r => evAfter .repair 4 (.peer r.joiner) (wordOf r.linesSent) { out with ev := changed }
      | _ => changed
    t.ev = if s.jnl.broken = true then
        evAfter .rollbackCheck 2 (.region (journalIndex s)) 0 { s with csr := t.csr, ev := parted }
      else parted

/-- A seal aborted by the UNCORRECTABLE vital word at `a` (R73): the walk idle, CONFIGURED with its record, and COMMAND-DONE,
SEAL-ABORTED with the word's address behind it. -/
def sealAborted (a : Nat) (s : State) : State :=
  let idle : State := { s with
    csr := { s.csr with state := .configured, stateInv := ~~~ (2 : BitVec 8) }
    sig := { s.sig with walk := .idle, cursor := 0, acc := 0 } }
  { idle with ev := evAfter .commandDone 2 (.command 9) (wordOf a) { idle with
      ev := evAfter .stateChange 4 (.channelState s.csr.state) (wordOf s.csr.committed.toNat) idle } }

/-! ### Links that hail afresh (R138) -/

/-- A link is HAILING afresh: nothing heard, no peer, its hail timer running and a HAIL without flags sent just when its mode
is ACTIVE. -/
def hailsAfresh (l : LinkId) (me : Identity) (s : State) : State :=
  let t := updLink l (fun k => { k with
    status := .hailing, heard := none, peer := none, silenceTimer := none, beatTimer := none, quietTimer := none
    hailTimer := if k.mode = .active then some 1 else none }) s
  if (getLink s l).mode = .active then
    transmit l (ownFrame me (.hail s.mgmt.digest (some s.csr.state) s.csr.counter s.csr.committed)) t
  else t

/-- A link has left UP and its peer's entry has lost link and state (R144), but for what the repair unit does and the
LINK-STATE record. -/
def linkGone (l : LinkId) (x : Identity) (s : State) : State :=
  updLink l (fun k => { k with
    status := .hailing, silenceTimer := none, beatTimer := none, peer := none, buffer := [], holdSent := false
    peerHolding := false }) (updPeer x (fun y => { y with link := none, state := none }) s)

/-! ### Tables (R5) -/

/-- Two entries share no line. -/
def apart (x y : RegionEntry) : Prop :=
  x.valid = false ∨ y.valid = false ∨ x.base + x.count ≤ y.base ∨ y.base + y.count ≤ x.base

/-- The conditions of Table 10-4 on the loaded table, the loaded keys and CHANNEL-ID. -/
structure TablesFit (s : State) : Prop where
  disjoint : s.regions.loaded.Pairwise apart
  inMemory : ∀ e ∈ s.regions.loaded, e.valid = true → e.base + e.count ≤ s.mgmt.params.memoryLines - 32
  oneJournal : s.regions.loaded.countP (RegionEntry.isClass .journal) = 1
  journalSize : ∀ e ∈ s.regions.loaded, e.valid = true → e.cls = .journal → e.count ≤ 4096
  oneEvents : s.regions.loaded.countP (RegionEntry.isClass .events) = 1
  eventsSize : ∀ e ∈ s.regions.loaded, e.valid = true → e.cls = .events → e.count ≤ 64
  someVital : ∃ e ∈ s.regions.loaded, e.valid = true ∧ e.cls = .vital
  vitalSize : vitalLines s.regions.loaded ≤ 32768
  keys : s.sig.keysSet = true
  identity : s.mgmt.params.channelId ≠ none

/-- Every line of a range lies in a valid committed region that is not EVENTS (R36). -/
def rangeOk (s : State) (first count : Nat) : Prop :=
  1 ≤ count ∧ first + count ≤ 131072 ∧
    ∀ l, first ≤ l → l < first + count → ∃ c, classOf s l = some c ∧ c ≠ .events

/-! ### Well-kept states -/

/-- Both copies of every item of the channel state record agree (R95, R96). -/
def copiesAgree (s : State) : Prop := recordUpset s = none

/-- The lists, buffers and small counts keep the lengths and the bounds that the manual gives them: the queue of the
processor port, the command area and its copy, the receive buffers, the poisoned-lines list, the suspect and remap tables, the
two region tables, the corrected counters, the journal's entries, and the need list. -/
structure InBounds (s : State) : Prop where
  queue : s.port.queue.length ≤ 8
  area : s.mgmt.area.length = 16
  issued : s.mgmt.issued.length = 16
  results : s.mgmt.results.length = 16
  buffer1 : s.link1.buffer.length ≤ 4
  buffer2 : s.link2.buffer.length ≤ 4
  poisoned : s.sig.poisoned.length ≤ 8
  suspects : s.spare.suspects.length = 16
  suspectCounts : ∀ e, some e ∈ s.spare.suspects → e.count ≤ 15
  remap : s.spare.remap.length = 32
  loaded : s.regions.loaded.length = 16
  committed : s.regions.committed.length = 16
  corrected : s.counters.corrected.length = 16
  journal : s.jnl.entries ≤ journalCapacity s
  need : ∀ j, s.repair.role = .joiner j → j.need.length ≤ 8

/-- The counters of 32 bits hold no more than 2^32−1: the 22 error counters, the loop count of the proof test, and the lines
sent or written of a repair role. -/
structure CountersFit (s : State) : Prop where
  corrected : ∀ n ∈ s.counters.corrected, n ≤ counterMax
  uncorrectable : s.counters.uncorrectable ≤ counterMax
  refused : s.port.refused ≤ counterMax
  bad1 : s.link1.badFrames ≤ counterMax
  bad2 : s.link2.badFrames ≤ counterMax
  discards1 : s.link1.discards ≤ counterMax
  discards2 : s.link2.discards ≤ counterMax
  loops : s.scrub.proof.loops ≤ counterMax
  sent : ∀ r, s.repair.role = .source r → r.linesSent ≤ counterMax
  written : ∀ j, s.repair.role = .joiner j → j.linesWritten ≤ counterMax

end Sys2Proof.Machine
end

