-- ==== Sys2Proof/WellFormed.lean ====
section
/-! DEFINITION. Which commands the outside can give: transactions of 1 to 8 words (R8), command-area words 0 to 15
(R172), unknown codes that name no command (R175), and receptions whose kind byte is the row's (R189) or no kind at all. -/

namespace Sys2Proof

/-- R8: a word count from 1 to 8. -/
def Transaction.wellFormed : Transaction → Bool
  | .read _ n => decide (1 ≤ n ∧ n ≤ 8)
  | .write _ ws => decide (1 ≤ ws.length ∧ ws.length ≤ 8)

/-- A received frame may stand in the row of kind `code` when its kind byte is that code, or is damaged into a byte that
names no kind, or is missing (R136 discards these two). -/
def kindByteFits (code : Nat) (raw : List Byte) : Bool :=
  match raw.head? with
  | none => true
  | some b => decide (b.toNat = code ∨ b.toNat = 0 ∨ 12 < b.toNat)

/-- The commands that the outside can give. -/
def Instr.wellFormed : Instr → Bool
  | .powerOn => true
  | .resetInput => true
  | .transactionAccept t => t.wellFormed
  | .transactionDecide => true
  | .processorRead => true
  | .processorWrite => true
  | .issueDiscard => true
  | .apertureRegisterWrite i _ _ => decide (i < 16)
  | .unknownCommand c => decide (c.toNat = 0 ∨ 19 < c.toNat)
  | .loadRegion _ _ _ _ _ => true
  | .clearRegion _ => true
  | .setKeys _ _ _ => true
  | .setParameter _ _ => true
  | .commitTables => true
  | .memInit _ _ => true
  | .proofTest _ _ _ => true
  | .stopTest => true
  | .seal => true
  | .join => true
  | .resume => true
  | .release => true
  | .deferredCommandEffect => true
  | .retireLine _ => true
  | .eventAck _ => true
  | .readStatus _ => true
  | .readCounters _ _ => true
  | .readEntry _ _ => true
  | .forceFault => true
  | .clearFault => true
  | .cycleMark => true
  | .voteWindowExpiry => true
  | .scrubPeriodExpiry => true
  | .scrubStep => true
  | .proofStep => true
  | .initStep => true
  | .serveSparePending => true
  | .spareTestStep => true
  | .copyStep => true
  | .rebuildStep => true
  | .rollbackStep => true
  | .eventWrite => true
  | .hailTimerExpiry _ => true
  | .quietTimerExpiry _ => true
  | .silenceTimerExpiry _ => true
  | .beatTimerExpiry _ => true
  | .hailReceive _ raw => kindByteFits 1 raw
  | .beatReceive _ raw => kindByteFits 2 raw
  | .signReceive _ raw => kindByteFits 3 raw
  | .requestReceive _ raw => kindByteFits 4 raw
  | .acceptReceive _ raw => kindByteFits 5 raw
  | .refuseReceive _ raw => kindByteFits 6 raw
  | .lineReceive _ raw => kindByteFits 7 raw
  | .holdReceive _ raw => kindByteFits 8 raw
  | .goReceive _ raw => kindByteFits 9 raw
  | .closeReceive _ raw => kindByteFits 10 raw
  | .verdictReceive _ raw => kindByteFits 11 raw
  | .abortReceive _ raw => kindByteFits 12 raw
  | .lineCapture => true
  | .receiveWrite => true
  | .joinerVerdict => true
  | .replyTimerExpiry => true
  | .retryTimerExpiry => true
  | .receiveTimerExpiry => true
  | .holdTimerExpiry => true
  | .catchupTimerExpiry => true
  | .verdictTimerExpiry => true

end Sys2Proof
end

