-- ==== Sys2Proof/Certificates/Slice0/Obligations.lean ====
section
/-! DEFINITION. The statements for the provers, in the order of the manual. -/

open Sys2Proof Sys2Proof.Machine

/-! ### The queue of commands, power, the processor port (chapter 1) -/

/-- A step runs the command at the front of the queue with the queue's rest. With no command waiting the part idles: that
clause is the model's choice (log entry 8). -/
def Obligations.StepTakesTheFrontCommand : Prop :=
  (∀ (c : Instr) (s : State), step { s with pending := c :: s.pending } = exec c s) ∧
  (∀ s : State, s.pending = [] → step s = .next s)

/-- Power-on and the RESET input answer every queued transaction with a bus error, held or not, let the grant under way
complete its writes, and leave every reset value; memory is otherwise kept, and with no grant under way and a deferred effect
waiting no grant begins (01 section 1.2, 02 section 2.2.1). The model's choices in it: the waiting commands and the histories
of what left the part are kept (log entry 11), the fields that the manual does not name take the values of log entry 26, the
port is idle just when no requester waits and a waiting one counts as granted (log entry 4), and of the grant under way
memory is all that is kept (log entry 30). -/
def Obligations.PowerOnAndResetEndEveryTransaction : Prop :=
  ∀ c : Instr, c = .powerOn ∨ c = .resetInput → ∀ s : State, ∃ t,
    exec c s = .next t ∧
    { t with mem := [] } = { State.reset with
      pending := s.pending
      out := { s.out with responses := s.out.responses ++ List.replicate s.port.queue.length .busError } } ∧
    (portIdle s → t.mem = s.mem) ∧
    (∀ r, granted r s → t.mem = (grantBody r s).mem) ∧
    (s.arb.grant = none → s.mgmt.deferred ≠ none → t.mem = s.mem)

/-- The queue takes a transaction while it holds fewer than 8, at its end (01 section 1.2). With 8 held the step leaves the
state as it is, the model's form of a processor that waits (log entry 5). -/
def Obligations.PortQueueTakesUpToEight : Prop :=
  ∀ (t : Transaction) (s : State),
    (s.port.queue.length < 8 → exec (.transactionAccept t) s = .next { s with port.queue := s.port.queue ++ [t] }) ∧
    (8 ≤ s.port.queue.length → exec (.transactionAccept t) s = .next s)

/-- The checks of a transaction in their order (01 section 1.3.2, 06 section 6.3): SIZE; then APERTURE or UNMAPPED by route;
then CLASS; then STATE by the class and the channel state. -/
def Obligations.TransactionChecksFollowTheTables : Prop :=
  ∀ (t : Transaction) (s : State),
    (256 < t.firstWord % 256 + t.count → checkTransaction t s = some .size) ∧
    (t.firstWord % 256 + t.count ≤ 256 →
      (33554432 ≤ t.firstWord ∧ t.firstWord < 33554944 →
        let allowed : Prop := match t with
          | .read a n => ∀ o, a.toNat / 8 ≤ 33554432 + o → 33554432 + o < a.toNat / 8 + n →
              o < 16 ∨ o = 17 ∨ (32 ≤ o ∧ o < 48) ∨ o = 65 ∨ o = 66
          | .write a ws => ∀ i w, ws[i]? = some w → w.enables ≠ 0 →
              a.toNat / 8 + i < 33554448 ∨ a.toNat / 8 + i = 33554448 ∨ a.toNat / 8 + i = 33554496
        (allowed → checkTransaction t s = none) ∧ (¬ allowed → checkTransaction t s = some .aperture)) ∧
      (33554944 ≤ t.firstWord → checkTransaction t s = some .unmapped) ∧
      (t.firstWord < 33554432 →
        (classOf s (t.firstWord / 256) = none → checkTransaction t s = some .unmapped) ∧
        (classOf s (t.firstWord / 256) = some .journal → checkTransaction t s = some .class) ∧
        (classOf s (t.firstWord / 256) = some .events → checkTransaction t s =
          match t.direction with
          | .write => some .class
          | .read => if s.csr.state = .unconfigured then some .state else none) ∧
        (classOf s (t.firstWord / 256) = some .plain → checkTransaction t s =
          if s.csr.state = .unconfigured then some .state else none) ∧
        (classOf s (t.firstWord / 256) = some .fixed → checkTransaction t s =
          match t.direction with
          | .read => if s.csr.state = .unconfigured then some .state else none
          | .write => if s.csr.state = .configured then none else some .state) ∧
        (classOf s (t.firstWord / 256) = some .vital → checkTransaction t s =
          if s.csr.state = .configured ∨ s.csr.state = .sealing ∨ s.csr.state = .sealed ∨ s.csr.state = .voting ∨
            (s.csr.state = .held ∧ t.direction = .read) then none else some .state)))

/-- A decided head. One that fails a check gets a bus error and leaves the queue; the refusal is recorded and counted, and
ACCESS-REFUSED is handed once until the next mark; the recorded byte address and the record's value have their low three bits
zero (log entry 14). One that passes is held while a vote is open (a mark), while this channel is in catch-up (a mark or a
vital write), or while the journal unit rolls back (a mark or any vital access), and nothing of it is carried out. One that
passes, is not held and names memory waits for the processor's grant, which it has at once when no grant is under way and no
deferred effect waits (log entries 3 and 4). That a memory transaction is refused or held at once beside the grant of another
requester, and not at the end of that grant, is the model's choice too (log entry 3). A head whose grant is under way has
been decided, and is not decided again (01 sections 1.3.1, 1.3.2 and 1.5.1, 06 section 6.3). -/
def Obligations.HeadIsRefusedHeldOrGranted : Prop :=
  (∀ (s : State) (t : Transaction) (rest : List Transaction) (r : RefuseAccess),
     s.arb.grant ≠ some .processor → s.port.held = none → s.port.queue = t :: rest → checkTransaction t s = some r →
     exec .transactionDecide s = .next { s with
       port := { queue := rest, held := none
                 lastRefusal := { reason := some r, addr := byteAddr t.firstWord, direction := t.direction }
                 refused := satSucc s.port.refused, refusalReported := true }
       out.responses := s.out.responses ++ [.busError]
       ev := if s.port.refusalReported then s.ev
         else evAfter .accessRefused r.code
           (if 33554432 ≤ t.firstWord ∧ t.firstWord < 33554944 then .none
             else match regionOf s (t.firstWord / 256) with
               | some (i, _) => .region i
               | none => .none)
           (wordOf (byteAddr t.firstWord).toNat) s }) ∧
  (∀ (s : State) (t : Transaction) (rest : List Transaction),
     s.arb.grant ≠ some .processor → s.port.held = none → s.port.queue = t :: rest → checkTransaction t s = none →
     let vital := isVitalAccess t s
     let h : Hold :=
       { vote := isMark t && s.vote.record.isOpen
         catchup := (isMark t || (vital && decide (t.direction = .write))) && inCatchup s
         rollback := (isMark t || vital) && s.jnl.rb.rolling }
     h.vote = true ∨ h.catchup = true ∨ h.rollback = true →
     exec .transactionDecide s = .next { s with port.held := some h }) ∧
  (∀ (s : State) (t : Transaction) (rest : List Transaction),
     s.arb.grant ≠ some .processor → s.port.held = none → s.port.queue = t :: rest → decideTransaction t s = .memory →
     exec .transactionDecide s = .next
       (if s.arb.grant = none ∧ s.mgmt.deferred = none then { s with port.held := none, arb.grant := some .processor }
        else { s with port.held := none })) ∧
  (∀ s : State, s.arb.grant = some .processor → s.port.held = none → exec .transactionDecide s = .next s)

/-- An aperture read answers with the words of Table 1-7 as they stand, each written out here; an aperture write of up to 8
words does, word by word in ascending order, to the command area, to ISSUE or to the mark what the command of that name does,
and is answered with completion; a word with no enable set takes no part, and a write without any enable changes nothing and
completes (01 section 1.6). That those commands are also rows of their own is log entry 6, ISSUE_DISCARD outside BUSY is log
entry 7, a mark word without an enable is log entry 46, and that the bytes of STATUS, the event word and the summary which
the layouts do not list read 0 is log entry 58. -/
def Obligations.ApertureHeadIsCarriedOut : Prop :=
  (∀ (s : State) (a : BitVec 29) (n : Nat) (rest : List Transaction),
    s.arb.grant ≠ some .processor → s.port.held = none → s.port.queue = .read a n :: rest →
    decideTransaction (.read a n) s = .aperture →
    let status := s.mgmt.phase.code + 2 ^ 8 * optCode RefusalCode.code s.mgmt.code + 2 ^ 16 * flagCode s.mgmt.overrun +
      2 ^ 32 * (s.mgmt.command.toNat % 2 ^ 32)
    let events := s.ev.producer + 2 ^ 16 * s.ev.consumer + 2 ^ 32 * flagCode s.ev.intLevel + 2 ^ 40 * flagCode s.ev.intBusy +
      2 ^ 48 * flagCode (decide (s.ev.withheld ≠ 0))
    let word (o : Nat) : Word :=
      if o < 16 then s.mgmt.area.getD o 0
      else if o = 17 then wordOf status
      else if o < 48 then s.mgmt.results.getD (o - 32) 0
      else if o = 65 then wordOf events
      else wordOf (s.csr.state.code + 2 ^ 32 * s.csr.counter.toNat)
    exec .transactionDecide s = .next { s with
      port := { s.port with queue := rest, held := none }
      out.responses := s.out.responses ++ [.data ((List.range n).map (fun i => word (a.toNat / 8 - 33554432 + i)))] }) ∧
  (∀ (s : State) (a : BitVec 29) (ws : List WriteWord) (rest : List Transaction),
    s.arb.grant ≠ some .processor → s.port.held = none → s.port.queue = .write a ws :: rest → ws.length ≤ 8 →
    decideTransaction (.write a ws) s = .aperture →
    ∃ u, runsThrough (apertureRows (a.toNat / 8 - 33554432) ws) s u ∧ exec .transactionDecide s = .next { u with
      port := { u.port with queue := rest, held := none }
      out.responses := u.out.responses ++ [.completion] }) ∧
  (∀ (s : State) (a : BitVec 29) (ws : List WriteWord) (rest : List Transaction),
    s.arb.grant ≠ some .processor → s.port.held = none → s.port.queue = .write a ws :: rest → (∀ w ∈ ws, w.enables = 0) →
    decideTransaction (.write a ws) s = .aperture →
    exec .transactionDecide s = .next { s with
      port := { s.port with queue := rest, held := none }, out.responses := s.out.responses ++ [.completion] })

/-- When a condition that applied to the held transaction has ended, settling decides it again as at the head. And every step
that can end a condition settles: the window timer, a rollback step, the scrub, copy and capture steps, the hold, catch-up
and silence timers, a reception of HAIL, BEAT, SIGN, GO or ABORT, RELEASE, a deferred effect, an issued command and a link
mode; and TRANSACTION_DECIDE itself decides a held head only so. For each, with no grant under way: the step's own effect
leaves the transaction held at the head; where a condition that applied has ended, the next state is that of deciding it
there, and otherwise it stays held, with the conditions that have joined (01 section 1.5.1). That a memory transaction is so
refused or held at once beside the grant of another requester is the model's choice (log entry 3). -/
def Obligations.HeldHeadIsDecidedAgain : Prop :=
  (∀ (s : State) (t : Transaction) (rest : List Transaction) (h : Hold),
     s.port.held = some h → s.port.queue = t :: rest →
     ((h.vote = true ∧ (holdFor t s).vote = false) ∨ (h.catchup = true ∧ (holdFor t s).catchup = false) ∨
       (h.rollback = true ∧ (holdFor t s).rollback = false)) →
     .next (settle s) = exec .transactionDecide { s with port.held := none }) ∧
  (∀ (c : Instr) (s t : State) (x : Transaction) (rest : List Transaction) (h : Hold),
     c ∈ [Instr.voteWindowExpiry, .rollbackStep, .scrubStep, .copyStep, .lineCapture, .holdTimerExpiry, .catchupTimerExpiry,
         .release, .deferredCommandEffect, .issueDiscard, .transactionDecide] ∨
       (∃ l, c = .silenceTimerExpiry l) ∨ (∃ p v, c = .setParameter p v) ∨ (∃ w, c = .unknownCommand w) ∨
       (∃ l raw, c = .hailReceive l raw ∨ c = .beatReceive l raw ∨ c = .signReceive l raw ∨ c = .goReceive l raw ∨
         c = .abortReceive l raw) →
     s.arb.grant = none → s.port.held = some h → s.port.queue = x :: rest → exec c s = .next t →
     ∃ u, u.port.held = some h ∧ u.port.queue = x :: rest ∧
       let now := holdFor x u
       let ended := (h.vote = true ∧ now.vote = false) ∨ (h.catchup = true ∧ now.catchup = false) ∨
         (h.rollback = true ∧ now.rollback = false)
       let both : Hold :=
         { vote := h.vote || now.vote, catchup := h.catchup || now.catchup, rollback := h.rollback || now.rollback }
       (ended → exec .transactionDecide { u with port.held := none } = .next t) ∧
       (¬ ended → t = { u with port.held := some both }))

/-- A processor read whose grant is under way or next. When its words all decode CLEAN it returns their values in order and
leaves the queue, whatever the channel state has become since it was decided; memory and everything else stay. A read of one
word that decodes UNCORRECTABLE returns a bus error and no data, sets the last-refusal record to UNCORRECTABLE with the
word's byte address (its low three bits zero: log entry 14), counts the word, and leaves the refused-access counter, the
refusal-reported flag and every stored word as they were. A read of any words of one line: with each CLEAN or CORRECTED it
returns their values, every CORRECTED word written back, counted and passed to the suspect table; with any UNCORRECTABLE
among them it returns a bus error and no data, the last-refusal record names the first of those words, each is counted and
reported, and the CORRECTED ones are written back all the same. Where the words are vital, S is invalid, and in SEALING the
seal is then aborted, in SEALED, VOTING and HELD the channel withdraws (01 section 1.4.2, 02 sections 2.1.3 and 2.1.4, 04
section 4.9, 06 section 6.6). -/
def Obligations.ProcessorReadReturnsItsWordsOrABusError : Prop :=
  (∀ (s : State) (a : BitVec 29) (vs : List Word) (rest : List Transaction),
     s.port.queue = .read a vs.length :: rest → granted .processor s →
     cleanAt s (a.toNat / 8) vs →
     exec .processorRead s = .next { s with
       arb.grant := none
       port := { s.port with queue := rest, held := none }
       out.responses := s.out.responses ++ [.data vs] }) ∧
  (∀ (s : State) (a : BitVec 29) (raw : Word) (rest : List Transaction),
     s.port.queue = .read a 1 :: rest → granted .processor s →
     decodeStored (storedAt s (a.toNat / 8)) (a.toNat / 8) = .uncorrectable raw →
     ∃ t, exec .processorRead s = .next t ∧
       t.mem = s.mem ∧
       t.out.responses = s.out.responses ++ [.busError] ∧
       t.port = { s.port with
         queue := rest, held := none
         lastRefusal := { reason := some .uncorrectable, addr := byteAddr (a.toNat / 8), direction := .read } } ∧
       t.counters = { s.counters with uncorrectable := satSucc s.counters.uncorrectable }) ∧
  (∀ (s : State) (a : BitVec 29) (n : Nat) (rest : List Transaction),
     let word := a.toNat / 8
     let seen := outcomesAt s (wordsFrom word n)
     let answered (r : Response) (p : LastRefusal) : State :=
       { met .processor seen { s with arb.grant := none } with
         port := { s.port with queue := rest, held := none, lastRefusal := p }
         out.responses := s.out.responses ++ [r] }
     s.port.queue = .read a n :: rest → granted .processor s → word % 256 + n ≤ 256 →
     (∀ vs, seen.map (fun x => x.2.value) = vs.map some →
       exec .processorRead s = .next (answered (.data vs) s.port.lastRefusal)) ∧
     (∀ b bs, badWords seen = b :: bs →
       let refused := answered .busError { reason := some .uncorrectable, addr := byteAddr b, direction := .read }
       let cls := classOf s (word / 256)
       (cls ≠ some .journal → cls ≠ some .vital ∨ s.csr.state = .configured → exec .processorRead s = .next refused) ∧
       (cls = some .vital → s.csr.state = .sealing → exec .processorRead s = .next (sealAborted b refused)) ∧
       (cls = some .vital → s.csr.state = .sealed ∨ s.csr.state = .voting ∨ s.csr.state = .held → s.jnl.rb.rolling = false →
         ∃ t, exec .processorRead s = .next t ∧ Withdrew refused t)))

/-- A write to a PLAIN or FIXED region, or to a VITAL region in CONFIGURED. With all enables of each word set or none, it
writes the data of every word that takes part. A single word with some enables set and some clear is written as the merge of
its data with the old value. Neither touches the journal, the signature or a map. For any words of one line: with the old
value of every word that is merged CLEAN or CORRECTED, the words that take part are written, each CORRECTED old value written
back, counted and passed to the suspect table first; with one of them UNCORRECTABLE nothing of the transaction is written, it
gets a bus error, and the last-refusal record is UNCORRECTABLE with the first such word's byte address and direction write,
with nothing beyond the counts and the records of the words met (01 sections 1.4.3 and 1.4, 02 sections 2.1.3 and 2.1.4). -/
def Obligations.UntrackedWriteStoresItsData : Prop :=
  (∀ (s : State) (a : BitVec 29) (ws : List WriteWord) (rest : List Transaction),
     s.port.queue = .write a ws :: rest → granted .processor s →
     (∀ w ∈ ws, w.enables = 0 ∨ w.enables = 0xFF) →
     classOf s (a.toNat / 8 / 256) ≠ some .vital ∨ s.csr.state = .configured →
     exec .processorWrite s = .next { s with
       mem := (writeWords ((takingPart (a.toNat / 8) ws).map (fun x => (x.1, x.2.data))) s).mem
       arb.grant := none
       port := { s.port with queue := rest, held := none }
       out.responses := s.out.responses ++ [.completion] }) ∧
  (∀ (s : State) (a : BitVec 29) (w : WriteWord) (old : Word) (rest : List Transaction),
     s.port.queue = .write a [w] :: rest → granted .processor s →
     w.enables ≠ 0 → w.enables ≠ 0xFF →
     classOf s (a.toNat / 8 / 256) ≠ some .vital ∨ s.csr.state = .configured →
     decodeStored (storedAt s (a.toNat / 8)) (a.toNat / 8) = .clean old →
     exec .processorWrite s = .next { s with
       mem := (writeWord (a.toNat / 8) (mergeLanes w.enables w.data old) s).mem
       arb.grant := none
       port := { s.port with queue := rest, held := none }
       out.responses := s.out.responses ++ [.completion] }) ∧
  (∀ (s : State) (a : BitVec 29) (ws : List WriteWord) (rest : List Transaction),
     let word := a.toNat / 8
     let parts := takingPart word ws
     let seen := outcomesAt s ((parts.filter (fun x => decide (x.2.enables ≠ 0xFF))).map Prod.fst)
     let read := met .processor seen { s with arb.grant := none }
     let answered (r : Response) (p : LastRefusal) (t : State) : State :=
       { t with
         port := { s.port with queue := rest, held := none, lastRefusal := p }, out.responses := s.out.responses ++ [r] }
     s.port.queue = .write a ws :: rest → granted .processor s → word % 256 + ws.length ≤ 256 →
     classOf s (word / 256) ≠ some .vital ∨ s.csr.state = .configured →
     (badWords seen = [] → exec .processorWrite s = .next (answered .completion s.port.lastRefusal { read with
       mem := (writeWords (parts.map (fun x => (x.1,
         if x.2.enables = 0xFF then x.2.data else mergeLanes x.2.enables x.2.data (valueAt s x.1)))) read).mem })) ∧
     (∀ b bs, badWords seen = b :: bs → classOf s (word / 256) ≠ some .journal → exec .processorWrite s = .next
       (answered .busError { reason := some .uncorrectable, addr := byteAddr b, direction := .write } read)))

/-- A vital write of one word in SEALED or VOTING, with room in the ring below the pressure level: one journal entry with the
word address, the open cycle's tag and the old value; S moves by h(a, new) − h(a, old) when it is valid; the line's ordinal
joins Do, and R while a source role is active; the new value is stored; nothing else changes. In SEALING the change is folded
into the rebuild accumulator when the line's ordinal lies below the rebuild cursor, the new value is stored, and neither the
journal, nor S, nor a map is touched. In SEALED or VOTING with the ring full: no entry, the open overflowed flag set and
JOURNAL-OVERFLOW handed once for the segment; with that flag set: no entry and no record; with the entry that reaches the
pressure level: JOURNAL-PRESSURE handed once with the new count. S, the maps and the word are written all the same. A vital
write of any words of one line, every old value CLEAN or CORRECTED: the entries that fit the ring go in, in ascending word
order, from the tail on, before any new value is stored; JOURNAL-PRESSURE is handed once, with the count that reaches the
level, and JOURNAL-OVERFLOW once behind it when an entry does not fit; S, the maps, the accumulator in SEALING and the words
as for one word. With no enable set the write completes and changes nothing. With an old value UNCORRECTABLE nothing is
written, journaled or marked: a bus error, the last-refusal record with the first such word's byte address and direction
write, S invalid, and then, in SEALING, the seal is aborted, in SEALED and VOTING the channel withdraws (01 sections 1.4 and
1.4.4, 05 sections 5.2.1 to 5.2.3, 04 sections 4.4, 4.8 and 4.9, 06 section 6.6). -/
def Obligations.VitalWriteIsTracked : Prop :=
  (∀ (s : State) (a : BitVec 29) (w : WriteWord) (old : Word) (o : Nat) (rest : List Transaction),
     let word := a.toNat / 8
     let new := if w.enables = 0xFF then w.data else mergeLanes w.enables w.data old
     let slot := journalSlot s s.jnl.tail
     s.port.queue = .write a [w] :: rest → granted .processor s →
     w.enables ≠ 0 → ordinalOf s.regions.committed (word / 256) = some o →
     s.csr.state = .sealed ∨ s.csr.state = .voting →
     decodeStored (storedAt s word) word = .clean old →
     s.jnl.openOver = false → s.jnl.entries < journalCapacity s →
     s.jnl.entries + 1 < pressureLevel s ∨ s.jnl.pressure = true →
     exec .processorWrite s = .next { s with
       mem := (writeWords [(slot, journalWord word (BitVec.ofNat 16 (s.csr.counter + 1).toNat)), (slot + 1, old), (word, new)] s).mem
       jnl := { s.jnl with tail := (s.jnl.tail + 1) % journalCapacity s, openCount := s.jnl.openCount + 1 }
       sig.s := if s.sig.valid then foldChange s.sig.committedKeys s.sig.s word old new else s.sig.s
       repair := { s.repair with
         dO := setInsert o s.repair.dO
         r := match s.repair.role with
           | .source _ => setInsert o s.repair.r
           | _ => s.repair.r }
       arb.grant := none
       port := { s.port with queue := rest, held := none }
       out.responses := s.out.responses ++ [.completion] }) ∧
  (∀ (s : State) (a : BitVec 29) (w : WriteWord) (old : Word) (o : Nat) (rest : List Transaction),
     let word := a.toNat / 8
     let new := if w.enables = 0xFF then w.data else mergeLanes w.enables w.data old
     s.port.queue = .write a [w] :: rest → granted .processor s →
     w.enables ≠ 0 → ordinalOf s.regions.committed (word / 256) = some o → s.csr.state = .sealing →
     decodeStored (storedAt s word) word = .clean old →
     exec .processorWrite s = .next { s with
       mem := (writeWord word new s).mem
       sig.acc := if o < s.sig.cursor then foldChange s.sig.committedKeys s.sig.acc word old new else s.sig.acc
       arb.grant := none
       port := { s.port with queue := rest, held := none }
       out.responses := s.out.responses ++ [.completion] }) ∧
  (∀ (s : State) (a : BitVec 29) (w : WriteWord) (old : Word) (o : Nat) (rest : List Transaction),
     let word := a.toNat / 8
     let new := if w.enables = 0xFF then w.data else mergeLanes w.enables w.data old
     let opn := s.csr.counter + 1
     let slot := journalSlot s s.jnl.tail
     s.port.queue = .write a [w] :: rest → granted .processor s →
     w.enables ≠ 0 → ordinalOf s.regions.committed (word / 256) = some o →
     s.csr.state = .sealed ∨ s.csr.state = .voting →
     decodeStored (storedAt s word) word = .clean old →
     let after (m : Memory) (j : JournalUnit) (e : EventUnit) : State := { s with
       mem := m, jnl := j, ev := e
       sig.s := if s.sig.valid then foldChange s.sig.committedKeys s.sig.s word old new else s.sig.s
       repair := { s.repair with
         dO := setInsert o s.repair.dO
         r := match s.repair.role with
           | .source _ => setInsert o s.repair.r
           | _ => s.repair.r }
       arb.grant := none
       port := { s.port with queue := rest, held := none }
       out.responses := s.out.responses ++ [.completion] }
     (s.jnl.openOver = true → exec .processorWrite s = .next (after (writeWord word new s).mem s.jnl s.ev)) ∧
     (s.jnl.openOver = false → journalCapacity s ≤ s.jnl.entries → exec .processorWrite s = .next
       (after (writeWord word new s).mem { s.jnl with openOver := true }
         (evAfter .journalOverflow 1 (.region (journalIndex s)) (wordOf opn.toNat) s))) ∧
     (s.jnl.openOver = false → s.jnl.entries < journalCapacity s → pressureLevel s ≤ s.jnl.entries + 1 → s.jnl.pressure = false →
       exec .processorWrite s = .next (after
         (writeWords [(slot, journalWord word (BitVec.ofNat 16 opn.toNat)), (slot + 1, old), (word, new)] s).mem
         { s.jnl with
           tail := (s.jnl.tail + 1) % journalCapacity s, openCount := s.jnl.openCount + 1, pressure := true }
         (evAfter .journalPressure 0 (.region (journalIndex s)) (wordOf (s.jnl.entries + 1)) s)))) ∧
  (∀ (s : State) (a : BitVec 29) (ws : List WriteWord) (o : Nat) (rest : List Transaction),
     let word := a.toNat / 8
     let parts := takingPart word ws
     let seen := outcomesAt s (parts.map Prod.fst)
     let read := met .processor seen { s with arb.grant := none }
     let changes : List (Nat × Word × Word) := parts.map (fun x => (x.1, valueAt s x.1,
       if x.2.enables = 0xFF then x.2.data else mergeLanes x.2.enables x.2.data (valueAt s x.1)))
     let folded (sum : Nat) : Nat :=
       changes.foldl (fun sum c => foldChange s.sig.committedKeys sum c.1 c.2.1 c.2.2) sum
     let stored := changes.map (fun c => (c.1, c.2.2))
     let answered (r : Response) (p : LastRefusal) (t : State) : State :=
       { t with
         port := { s.port with queue := rest, held := none, lastRefusal := p }, out.responses := s.out.responses ++ [r] }
     s.port.queue = .write a ws :: rest → granted .processor s → word % 256 + ws.length ≤ 256 →
     ordinalOf s.regions.committed (word / 256) = some o →
     (parts = [] → exec .processorWrite s = .next (answered .completion s.port.lastRefusal { s with arb.grant := none })) ∧
     (parts ≠ [] → badWords seen = [] → s.csr.state = .sealing →
       exec .processorWrite s = .next (answered .completion s.port.lastRefusal { read with
         mem := (writeWords stored read).mem
         sig.acc := if o < s.sig.cursor then folded s.sig.acc else s.sig.acc })) ∧
     (parts ≠ [] → badWords seen = [] → s.csr.state = .sealed ∨ s.csr.state = .voting →
       let cap := journalCapacity s
       let opn := s.csr.counter + 1
       let place (i : Nat) : Nat := if i = 0 then s.jnl.tail else (s.jnl.tail + i) % cap
       let k := if s.jnl.openOver then 0 else min parts.length (cap - s.jnl.entries)
       let entries := (changes.take k).zipIdx.flatMap (fun x =>
         [(journalSlot s (place x.2), journalWord x.1.1 (BitVec.ofNat 16 opn.toNat)), (journalSlot s (place x.2) + 1, x.1.2.1)])
       let pressed := decide (1 ≤ k ∧ s.jnl.pressure = false ∧ pressureLevel s ≤ s.jnl.entries + k)
       let lost := decide (s.jnl.openOver = false ∧ k < parts.length)
       let told := if pressed then evAfter .journalPressure 0 (.region (journalIndex s))
         (wordOf (max (pressureLevel s) (s.jnl.entries + 1))) read else read.ev
       exec .processorWrite s = .next (answered .completion s.port.lastRefusal { read with
         mem := (writeWords (entries ++ stored) read).mem
         jnl := { s.jnl with
           tail := place k, openCount := s.jnl.openCount + k, pressure := s.jnl.pressure || pressed
           openOver := s.jnl.openOver || lost }
         ev := if lost then evAfter .journalOverflow 1 (.region (journalIndex s)) (wordOf opn.toNat) { read with ev := told }
           else told
         sig.s := if s.sig.valid then folded s.sig.s else s.sig.s
         repair := { s.repair with
           dO := setInsert o s.repair.dO
           r := match s.repair.role with
             | .source _ => setInsert o s.repair.r
             | _ => s.repair.r } })) ∧
     (∀ b bs, badWords seen = b :: bs →
       let refused := answered .busError { reason := some .uncorrectable, addr := byteAddr b, direction := .write } read
       (s.csr.state = .sealing → exec .processorWrite s = .next (sealAborted b refused)) ∧
       (s.csr.state = .sealed ∨ s.csr.state = .voting → s.jnl.rb.rolling = false →
         ∃ t, exec .processorWrite s = .next t ∧ Withdrew refused t)))

/-- A logical word that is written reads back with its value and good check bits for its logical address, in both places of a
line that is being copied, and every other physical word keeps its stored form (01 section 1.4.1, 02 section 2.1.1, 03
section 3.3.3). -/
def Obligations.WrittenWordReadsBack : Prop :=
  ∀ (s : State) (a : Nat) (v : Word), s.mem.wf = true →
    decodeStored (storedAt (writeWord a v s) a) a = .clean v ∧
    (∀ p, p = readPlace s a ∨ secondPlace s a = some p → (writeWord a v s).mem.read p = goodWord a v) ∧
    (∀ p, p ≠ readPlace s a → secondPlace s a ≠ some p → (writeWord a v s).mem.read p = s.mem.read p) ∧
    writeWord a v s = { s with mem := (writeWord a v s).mem }

/-- The merge of a word that is written in part: lane i, data bits 8i to 8i+7, is the transaction's where enable i is set and
the old value's where it is clear. A write to a command-area word replaces the enabled lanes of that word and nothing else
(01 sections 1.2, 1.4.3 and 1.6). -/
def Obligations.LanesAreReplacedWhereEnabled : Prop :=
  (∀ (enables : BitVec 8) (new old : Word) (i : Nat), i < 8 →
     (mergeLanes enables new old).extractLsb' (8 * i) 8 =
       if enables.getLsbD i then new.extractLsb' (8 * i) 8 else old.extractLsb' (8 * i) 8) ∧
  (∀ (i : Nat) (data : Word) (enables : BitVec 8) (s : State), i < 16 →
     exec (.apertureRegisterWrite i data enables) s = .next { s with
       mgmt.area := s.mgmt.area.set i (mergeLanes enables data (s.mgmt.area.getD i 0)) })

/-! ### The command protocol and the commands (chapter 10) -/

/-- A write to ISSUE while STATUS is BUSY is discarded and OVERRUN is set; the issued copy, the results and everything else
stay. It is so for each command given with its code and arguments too, whose words stand in the command area (log entry 6).
In another phase the command area becomes the issued copy, OVERRUN is cleared, and the command of word 0 runs: FORCE-FAULT
sets the latch and ends DONE, and a code that names no command is refused UNKNOWN-COMMAND, with nothing beyond STATUS, the
issued copy and the result words changed; whatever command's code and arguments stand there, ISSUE does what the row of that
command does, whose own effect is stated with the command (10 section 10.1.2). That the row ISSUE_DISCARD is in another phase
an accepted issue is the model's choice (log entry 7), and so is it that an issue, a command or a mark given while the
processor has the grant comes behind that grant (log entry 6; 01 section 1.3.1, 06 section 6.3). -/
def Obligations.IssueIsAcceptedOrDiscarded : Prop :=
  (∀ s : State, s.mgmt.phase = .busy → s.arb.grant ≠ some .processor →
     exec .issueDiscard s = .next (settle { s with mgmt.overrun := true }) ∧
     (s.port.held = none → ∀ c code args, commandOf c = some (code, args) →
       exec c s = .next { s with mgmt := { s.mgmt with area := placed code args s.mgmt, overrun := true } })) ∧
  (∀ s : State, free s →
     let taken : MgmtUnit := { s.mgmt with
       issued := s.mgmt.area, command := s.mgmt.area.getD 0 0, overrun := false, results := List.replicate 16 0 }
     ((s.mgmt.area.getD 0 0).toNat = 18 →
       exec .issueDiscard s = .next (settle { s with
         mgmt := { taken with phase := .done, code := none }, ev.faultLatch := true })) ∧
     ((s.mgmt.area.getD 0 0).toNat = 0 ∨ 19 < (s.mgmt.area.getD 0 0).toNat →
       exec .issueDiscard s = .next (settle { s with
         mgmt := { taken with phase := .refused, code := some .unknownCommand } }))) ∧
  (∀ (code : Word) (s : State), free s → code.toNat = 0 ∨ 19 < code.toNat →
     exec (.unknownCommand code) s = .next (settle (turnedAway code.toNat [] .unknownCommand s))) ∧
  ((∀ (c : Instr) (code : Nat) (args : List Word) (s : State), commandOf c = some (code, args) → free s → s.port.held = none →
     s.mgmt.area = placed code args s.mgmt → exec .issueDiscard s = exec c s) ∧
   (∀ (c : Instr) (s u : State),
     (∃ code args, commandOf c = some (code, args)) ∨ c = .issueDiscard ∨ c = .cycleMark ∨ (∃ w, c = .unknownCommand w) →
     s.arb.grant = some .processor → exec (stepOf .processor s) s = .next u → exec c s = exec c u))

/-- LOAD-REGION and CLEAR-REGION edit the loaded table, and SET-KEYS stores three loaded keys from 1 to p−1 and sets the
keys-set flag, in UNCONFIGURED and CONFIGURED, with WRONG-STATE elsewhere and BAD-ARGUMENT for the listed arguments; the
committed table and all else stay (01 section 1.1.2, 04 section 4.1). The row places the code and the arguments in the
command area and issues them (log entry 6). -/
def Obligations.RegionsAndKeysAreLoaded : Prop :=
  (∀ s : State, free s →
     let loading := s.csr.state = .unconfigured ∨ s.csr.state = .configured
     (∀ i b n c f : Word,
       (¬ loading → exec (.loadRegion i b n c f) s = .next (turnedAway 1 [i, b, n, c, f] .wrongState s)) ∧
       (loading → (15 < i.toNat ∨ n.toNat = 0 ∨ 131072 < n.toNat ∨ 131072 < b.toNat + n.toNat ∨
           c.toNat = 0 ∨ 5 < c.toNat) →
         exec (.loadRegion i b n c f) s = .next (turnedAway 1 [i, b, n, c, f] .badArgument s)) ∧
       (loading → i.toNat ≤ 15 → n.toNat ≠ 0 → b.toNat + n.toNat ≤ 131072 →
         ∀ k : RegionClass, c.toNat = k.code →
           exec (.loadRegion i b n c f) s = .next { done 1 [i, b, n, c, f] [] s with
             regions.loaded := s.regions.loaded.set i.toNat
               { valid := true, base := b.toNat, count := n.toNat, cls := k, scrub := decide (f ≠ 0) } })) ∧
     (∀ i : Word,
       (¬ loading → exec (.clearRegion i) s = .next (turnedAway 2 [i] .wrongState s)) ∧
       (loading → 15 < i.toNat → exec (.clearRegion i) s = .next (turnedAway 2 [i] .badArgument s)) ∧
       (loading → i.toNat ≤ 15 → exec (.clearRegion i) s = .next { done 2 [i] [] s with
         regions.loaded := s.regions.loaded.set i.toNat
           { valid := false, base := 0, count := 0, cls := .plain, scrub := false } }))) ∧
  (∀ (a b c : Word) (s : State), free s →
     let loading := s.csr.state = .unconfigured ∨ s.csr.state = .configured
     let fit (k : Word) : Prop := 1 ≤ k.toNat ∧ k.toNat ≤ 2 ^ 61 - 2
     (¬ loading → exec (.setKeys a b c) s = .next (turnedAway 3 [a, b, c] .wrongState s)) ∧
     (loading → ¬ (fit a ∧ fit b ∧ fit c) → exec (.setKeys a b c) s = .next (turnedAway 3 [a, b, c] .badArgument s)) ∧
     (loading → fit a → fit b → fit c → exec (.setKeys a b c) s = .next { done 3 [a, b, c] [] s with
       sig.loadedKeys := { k1 := a.toNat, k2 := b.toNat, k3 := c.toNat }, sig.keysSet := true }))

/-- SET-PARAMETER clamps a value to its range and stores it, is refused WRONG-STATE outside the states of Table 10-3, and
BAD-ARGUMENT for a name that is not in the table and for the values the table says so (10 section 10.2). The two link modes
are stated apart. The row places the code and the arguments in the command area and issues them (log entry 6). -/
def Obligations.SetParameterClampsAndStores : Prop :=
  ∀ (p v : Word) (s : State), free s →
    (∀ lo hi w put, clampedParameter p.toNat = some (lo, hi, w, put) →
      (w s.csr.state = false → exec (.setParameter p v) s = .next (settle (turnedAway 4 [p, v] .wrongState s))) ∧
      (w s.csr.state = true →
        let x := min hi (max lo v.toNat)
        exec (.setParameter p v) s = .next (settle { done 4 [p, v] [wordOf x] s with
          mgmt := { ended 4 [p, v] .done none [wordOf x] s.mgmt with params := put s.mgmt.params x } }))) ∧
    (p.toNat = 0 ∨ 17 < p.toNat → exec (.setParameter p v) s = .next (settle (turnedAway 4 [p, v] .badArgument s))) ∧
    (p.toNat = 1 →
      (s.csr.state ≠ .unconfigured → exec (.setParameter p v) s = .next (settle (turnedAway 4 [p, v] .wrongState s))) ∧
      (s.csr.state = .unconfigured → v.toNat = 0 ∨ 3 < v.toNat →
        exec (.setParameter p v) s = .next (settle (turnedAway 4 [p, v] .badArgument s))) ∧
      (s.csr.state = .unconfigured → ∀ i : Identity, v.toNat = i.code →
        exec (.setParameter p v) s = .next (settle { s with
          mgmt := { ended 4 [p, v] .done none [v] s.mgmt with params.channelId := some i } }))) ∧
    (p.toNat = 2 →
      (s.csr.state ≠ .unconfigured → exec (.setParameter p v) s = .next (settle (turnedAway 4 [p, v] .wrongState s))) ∧
      (s.csr.state = .unconfigured → v.toNat < 64 ∨ 131072 < v.toNat →
        exec (.setParameter p v) s = .next (settle (turnedAway 4 [p, v] .badArgument s))) ∧
      (s.csr.state = .unconfigured → 64 ≤ v.toNat → v.toNat ≤ 131072 →
        exec (.setParameter p v) s = .next (settle { s with
          mgmt := { ended 4 [p, v] .done none [v] s.mgmt with params.memoryLines := v.toNat } }))) ∧
    (p.toNat = 17 → exec (.setParameter p v) s = .next (settle { s with
      mgmt := { ended 4 [p, v] .done none [v &&& 0x7FFFFE] s.mgmt with params.intMask := v &&& 0x7FFFFE } }))

/-- LINK-MODE-1 and LINK-MODE-2. A code that names no mode is refused BAD-ARGUMENT; the present mode changes nothing. OFF
takes a link that is not UP to DOWN with every timer stopped. OFF takes one that is UP out of UP with cause MODE-OFF: buffer,
flags and peer go and LINK-STATE is handed; a source role over it ends with REPAIR, LINK-LOST; a joiner's outstanding try
fails; a joiner in RECEIVING or CLOSING is back in OUT with no base. From OFF the link stays DOWN in UNCONFIGURED and
elsewhere enters HAILING: ACTIVE hails at once with its timer running, PASSIVE does not. A change between PASSIVE and ACTIVE
keeps the state: in HAILING and MISMATCH an ACTIVE link hails at once and its timer starts, a PASSIVE one's stops; in UP and
QUIET only the mode changes (08 sections 8.2, 8.4.1 and 8.5.1, 09 sections 9.4 and 9.9). The model's choices: that OFF keeps
the link's item heard (log entry 28), and that where the command ends its code and arguments stand in the command area, as
the row places them (log entry 6). -/
def Obligations.LinkModeTakesALinkInAndOutOfService : Prop :=
  (∀ (l : LinkId) (p v : Word) (s : State), free s → p.toNat = 14 + l.code →
     (v.toNat = 0 ∨ 3 < v.toNat → exec (.setParameter p v) s = .next (settle (turnedAway 4 [p, v] .badArgument s))) ∧
     (∀ m : LinkMode, v.toNat = m.code → (getLink s l).mode = m →
       exec (.setParameter p v) s = .next (settle (done 4 [p, v] [v] s))) ∧
     (v.toNat = 1 → (getLink s l).mode ≠ .off → (getLink s l).status ≠ .up →
       exec (.setParameter p v) s = .next (settle (updLink l (fun k => { k with
         mode := .off, status := .down, hailTimer := none, quietTimer := none, silenceTimer := none, beatTimer := none })
         (done 4 [p, v] [v] s)))) ∧
     (∀ m : LinkMode, v.toNat = m.code → m ≠ .off → (getLink s l).mode = .off → (getLink s l).status = .down →
       s.csr.state ≠ .unconfigured → ∃ t, exec (.setParameter p v) s = .next (settle t) ∧
         t = { done 4 [p, v] [v] s with link1 := t.link1, link2 := t.link2, out := t.out } ∧
         getLink t l = { getLink s l with
           mode := m, status := .hailing, heard := none, peer := none, silenceTimer := none, beatTimer := none
           quietTimer := none, hailTimer := if m = .active then some 1 else none } ∧
         getLink t (otherLink l) = getLink s (otherLink l) ∧
         t.out.responses = s.out.responses)) ∧
  (∀ (l : LinkId) (p v : Word) (s : State) (me : Identity), free s → p.toNat = 14 + l.code →
     s.mgmt.params.channelId = some me →
     let k := getLink s l
     (∀ x, v.toNat = 1 → k.status = .up → k.mode ≠ .off → k.peer = some x → s.repair.role = .none →
       exec (.setParameter p v) s = .next (settle (updLink l (fun k => { k with
         mode := .off, status := .down, hailTimer := none, quietTimer := none, silenceTimer := none, beatTimer := none
         peer := none, buffer := [], holdSent := false, peerHolding := false })
         { updPeer x (fun y => { y with link := none, state := none }) (done 4 [p, v] [v] s) with
           ev := evAfter .linkState 4 (.link l) (wordOf x.code) s }))) ∧
     (∀ m : LinkMode, v.toNat = m.code → m ≠ .off → k.mode ≠ m → k.status = .up ∨ k.status = .quiet →
       exec (.setParameter p v) s = .next (settle (updLink l (fun k => { k with mode := m }) (done 4 [p, v] [v] s)))) ∧
     (k.status = .hailing ∨ k.status = .mismatch →
       (v.toNat = 2 → k.mode = .active → exec (.setParameter p v) s = .next (settle
         (updLink l (fun k => { k with mode := .passive, hailTimer := none }) (done 4 [p, v] [v] s)))) ∧
       (v.toNat = 3 → k.mode = .passive → exec (.setParameter p v) s = .next (settle
         (updLink l (fun k => { k with mode := .active, hailTimer := some 1 }) (transmit l
           { ack := decide (k.status = .hailing) && k.heard.isSome, mismatch := decide (k.status = .mismatch)
             relayed := false, sender := me, originator := me
             payload := .hail s.mgmt.digest (some s.csr.state) s.csr.counter s.csr.committed } (done 4 [p, v] [v] s))))))) ∧
  (∀ (l : LinkId) (p v : Word) (s : State) (me : Identity), free s → p.toNat = 14 + l.code →
     s.mgmt.params.channelId = some me →
     let k := getLink s l
     let given := done 4 [p, v] [v] s
     (k.mode = .off → k.status = .down → s.csr.state ≠ .unconfigured →
       let hailing (m : LinkMode) (timer : Option Nat) (t : State) : State := updLink l (fun k => { k with
         mode := m, status := .hailing, heard := none, peer := none, silenceTimer := none, beatTimer := none
         quietTimer := none, hailTimer := timer }) t
       (v.toNat = 3 → exec (.setParameter p v) s = .next (settle (hailing .active (some 1) (transmit l
         (ownFrame me (.hail s.mgmt.digest (some s.csr.state) s.csr.counter s.csr.committed)) given)))) ∧
       (v.toNat = 2 → exec (.setParameter p v) s = .next (settle (hailing .passive none given)))) ∧
     (∀ m : LinkMode, v.toNat = m.code → m ≠ .off → k.mode = .off → k.status = .down → s.csr.state = .unconfigured →
       exec (.setParameter p v) s = .next (settle (updLink l (fun k => { k with mode := m }) given))) ∧
     (∀ x, v.toNat = 1 → k.status = .up → k.mode ≠ .off → k.peer = some x →
       let gone (t : State) : State := updLink l (fun k => { k with
         mode := .off, status := .down, hailTimer := none, quietTimer := none, silenceTimer := none, beatTimer := none
         peer := none, buffer := [], holdSent := false, peerHolding := false })
         (updPeer x (fun y => { y with link := none, state := none }) t)
       (∀ r, s.repair.role = .source r → r.link = l → s.arb.grant = none →
         let ended : State := { given with
           repair := { s.repair with role := .none, r := [] }
           ev := evAfter .repair 8 (.peer r.joiner) (wordOf r.linesSent) s }
         exec (.setParameter p v) s = .next (settle (gone (setRelation r.joiner none { ended with
           ev := evAfter .linkState 4 (.link l) (wordOf x.code) ended })))) ∧
       (∀ j, s.repair.role = .joiner j → j.phase = .requesting → j.candidate = some x → (∀ i, i ≠ me → i ∈ j.tried) →
         0 < j.retry → exec (.setParameter p v) s = .next (settle (gone (setRelation x none { given with
           repair.role := .joiner { j with
             phase := .retryWait, retry := j.retry - 1, candidate := none, replyTimer := none
             retryTimer := some s.mgmt.params.rejoinRetry }
           ev := evAfter .linkState 4 (.link l) (wordOf x.code) s })))) ∧
       (∀ j, s.repair.role = .joiner j → j.phase = .receiving ∨ j.phase = .closing → j.link = some l → j.source = some x →
         s.sig.valid = true → s.arb.grant = none → ∃ t j1, exec (.setParameter p v) s = .next (settle t) ∧ t.csr.state = .out ∧
           t.csr.counter = s.csr.counter ∧ t.sig = s.sig ∧ t.mem = s.mem ∧ t.jnl = s.jnl ∧ t.mgmt = given.mgmt ∧
           t.repair.role = .joiner j1 ∧ j1.base = none ∧ j1.need = [] ∧ j1.phase ≠ .receiving ∧ j1.phase ≠ .closing ∧
           (getLink t l).mode = .off ∧ (getLink t l).status = .down ∧ (getLink t l).buffer = [] ∧ (getLink t l).peer = none)))

/-- COMMIT-TABLES' validation passes just when the loaded table, the loaded keys and CHANNEL-ID meet the conditions of Table
10-4. It is refused WRONG-STATE outside UNCONFIGURED and CONFIGURED, ENGINE-BUSY while an engine operation runs, and
TABLE-INVALID with the detail and the entry index of the first failing check in result words 0 and 1, and then leaves
everything else. The ten checks are written out in their order, each with the entry index that it reports: the first entry
that overlaps one before it, the first that reaches beyond the memory, the second entry of a class or 16 where there is none,
the entry that is too large, the entry at which the vital lines pass 32768, and 16 for the keys and the identity (10 section
10.3, 01 section 1.1.3). The row places the code and the arguments in the command area and issues them (log entry 6). -/
def Obligations.CommitIsValidatedOrRefused : Prop :=
  (∀ s : State, tableFault s = none ↔ TablesFit s) ∧
  (∀ s : State, free s →
     (s.csr.state ≠ .unconfigured → s.csr.state ≠ .configured → exec .commitTables s = .next (turnedAway 5 [] .wrongState s)) ∧
     (s.csr.state = .unconfigured ∨ s.csr.state = .configured →
       (s.scrub.proof.status = .running ∨ s.scrub.init.status = .running →
         exec .commitTables s = .next (turnedAway 5 [] .engineBusy s)) ∧
       (s.scrub.proof.status ≠ .running → s.scrub.init.status ≠ .running → ∀ d i, tableFault s = some (d, i) →
         exec .commitTables s = .next { s with
           mgmt := ended 5 [] .refused (some .tableInvalid) [wordOf d, wordOf i] s.mgmt }))) ∧
  (∀ s : State,
     let t := s.regions.loaded
     let isOf (c : RegionClass) (j : Nat) : Prop := ∃ e, t[j]? = some e ∧ e.valid = true ∧ e.cls = c
     let overlaps (j : Nat) : Prop := ∃ i x y, i < j ∧ t[i]? = some x ∧ t[j]? = some y ∧ x.valid = true ∧ y.valid = true ∧
       x.base < y.base + y.count ∧ y.base < x.base + x.count
     let outside (j : Nat) : Prop := ∃ e, t[j]? = some e ∧ e.valid = true ∧ s.mgmt.params.memoryLines - 32 < e.base + e.count
     let exceeds (j : Nat) : Prop := 32768 < vitalLines (t.take (j + 1))
     let first (P : Nat → Prop) (j : Nat) : Prop := P j ∧ ∀ i, i < j → ¬ P i
     let second (c : RegionClass) (j : Nat) : Prop := isOf c j ∧ ∃ i, i < j ∧ isOf c i ∧ ∀ m, m < j → isOf c m → m = i
     let one (c : RegionClass) : Prop := ∃ j, isOf c j ∧ ∀ i, isOf c i → i = j
     let within (c : RegionClass) (most : Nat) : Prop := ∀ j e, isOf c j → t[j]? = some e → e.count ≤ most
     let c2 : Prop := ∀ j, ¬ overlaps j
     let c3 : Prop := c2 ∧ ∀ j, ¬ outside j
     let c5 : Prop := c3 ∧ one .journal ∧ within .journal 4096
     let c7 : Prop := c5 ∧ one .events ∧ within .events 64
     let c9 : Prop := c7 ∧ (∃ j, isOf .vital j) ∧ vitalLines t ≤ 32768
     (∀ j, first overlaps j → tableFault s = some (1, j)) ∧
     (∀ j, c2 → first outside j → tableFault s = some (2, j)) ∧
     (∀ j, c3 → second .journal j → tableFault s = some (3, j)) ∧
     (c3 → (∀ j, ¬ isOf .journal j) → tableFault s = some (3, 16)) ∧
     (∀ j e, c3 → one .journal → isOf .journal j → t[j]? = some e → 4096 < e.count → tableFault s = some (4, j)) ∧
     (∀ j, c5 → second .events j → tableFault s = some (5, j)) ∧
     (c5 → (∀ j, ¬ isOf .events j) → tableFault s = some (5, 16)) ∧
     (∀ j e, c5 → one .events → isOf .events j → t[j]? = some e → 64 < e.count → tableFault s = some (6, j)) ∧
     (c7 → (∀ j, ¬ isOf .vital j) → tableFault s = some (7, 16)) ∧
     (∀ j, c7 → (∃ i, isOf .vital i) → first exceeds j → tableFault s = some (8, j)) ∧
     (c9 → s.sig.keysSet = false → tableFault s = some (9, 16)) ∧
     (c9 → s.sig.keysSet = true → s.mgmt.params.channelId = none → tableFault s = some (10, 16)))

/-- A successful COMMIT-TABLES with the port idle and no repair role held, as in those states none is: the committed table
and keys are the loaded ones and the digest is theirs; journal, suspect table, remap table, event ring, waiting queue and
withheld mask, and scrub cursor start afresh; every link whose mode is not OFF is HAILING, without heard, peer and timers,
and hails at once when it is ACTIVE; one that was UP loses its buffer and its flags, LINK-STATE with cause TABLES is handed,
and its peer's entry loses link and reported state; both parking slots are emptied, and the skew-reported flag is cleared
where the counter changes; the channel is CONFIGURED with counter, committed cycle and C at 0 in both copies, and
STATE-CHANGE with cause TABLES comes last where it was not so before; digest and V are the results; everything else stays (06
section 6.5, 10 section 10.3, 08 section 8.6). That the HAILs carry the state and the cycles from before the change is log
entry 22, that LINK-1 acts first is log entry 41, and that the idle record of the sparing unit keeps its other fields is log
entry 23. Where the command ends, its code and arguments stand in the command area, as the row places them (log entry 6).
That the port is idle just when no grant is under way and no requester waits is the model's choice (log entry 4). -/
def Obligations.CommitTablesTakesTheLoadedTables : Prop :=
  ∀ s : State, free s → s.csr.state = .unconfigured ∨ s.csr.state = .configured →
    s.scrub.proof.status ≠ .running → s.scrub.init.status ≠ .running → TablesFit s → portIdle s → s.repair.role = .none →
    let digest := digestOf s.regions.loaded s.sig.loadedKeys
    let taken : State := { s with
      regions.committed := s.regions.loaded
      ev := { s.ev with
        producer := 0, consumer := 0, waiting := [], withheld := 0, kinds := [], intBusy := false, intLevel := false } }
    let leaves (l : LinkId) : Bool := decide ((getLink s l).mode ≠ .off) && decide ((getLink s l).status = .up)
    let told (l : LinkId) (e : EventUnit) : EventUnit := match (getLink s l).peer with
      | some x => if leaves l = true then evAfter .linkState 5 (.link l) (wordOf x.code) { taken with ev := e } else e
      | none => e
    let afresh (l : LinkId) : Link :=
      if (getLink s l).mode = .off then getLink s l
      else { getLink s l with
        status := .hailing, heard := none, peer := none, silenceTimer := none, beatTimer := none, quietTimer := none
        hailTimer := if (getLink s l).mode = .active then some 1 else none
        buffer := if leaves l = true then [] else (getLink s l).buffer
        holdSent := (getLink s l).holdSent && !leaves l
        peerHolding := (getLink s l).peerHolding && !leaves l }
    let hails (l : LinkId) : List Frame := match s.mgmt.params.channelId with
      | some me => if (getLink s l).mode = .active then
          [ownFrame me (.hail digest (some s.csr.state) s.csr.counter s.csr.committed)] else []
      | none => []
    let lost (x : Identity) : Bool :=
      (leaves .link1 && decide (s.link1.peer = some x)) || (leaves .link2 && decide (s.link2.peer = some x))
    let csr : ChannelRecord := { ChannelRecord.reset with state := .configured, stateInv := ~~~ (2 : BitVec 8) }
    let records := told .link2 (told .link1 taken.ev)
    ∃ t, exec .commitTables s = .next t ∧
      t = { s with
        csr := csr
        spare := { suspects := List.replicate 16 none, remap := List.replicate 32 .untested
                   op := { s.spare.op with kind := .idle }, exhaustionReported := false }
        jnl := { JournalUnit.reset with rb := s.jnl.rb }
        ev := if s.csr.state = .configured then records
          else evAfter .stateChange 1 (.channelState s.csr.state) 0 { taken with csr := csr, ev := records }
        link1 := afresh .link1, link2 := afresh .link2
        out.tx1 := s.out.tx1 ++ hails .link1, out.tx2 := s.out.tx2 ++ hails .link2
        vote := { s.vote with
          skewReported := s.vote.skewReported && decide (s.csr.counter = 0), peer0 := t.vote.peer0, peer1 := t.vote.peer1 }
        regions.committed := s.regions.loaded
        sig.committedKeys := s.sig.loadedKeys
        scrub.line := 0, scrub.word := 0
        mgmt := { ended 5 [] .done none [wordOf digest.toNat, wordOf (vitalLines s.regions.loaded)] s.mgmt with
          digest := digest } } ∧
      ∀ x second, peerSlot s x = some second → getPeer t second = { getPeer s second with
        slot := none
        link := if lost x = true then none else (getPeer s second).link
        state := if lost x = true then none else (getPeer s second).state }

/-- RELEASE, STOP-TEST and a COMMIT-TABLES that passes its checks wait, BUSY, for the end of the grant under way while the
port is busy; that a waiting requester counts as the grant under way is the model's choice (log entry 4). When the grant has
ended, the deferred command's effects are those that it would have had at once. A window that expires with no vote open has
no effect. With a named grant under way that meets no uncorrectable word, the window timer of an open vote, the receive timer
in RECEIVING, a source's hold and catch-up timers, and a mark that finds a record disagreement act on the state that the
whole grant leaves, but for a line capture whose last line is taken, because the CLOSE that follows its grant comes after the
event. A catch-up that expires over that grant sends the LINE, then ABORT, STALLED, and no CLOSE. A scrub grant that met an
uncorrectable vital word before a LOCAL-DISSENT, whose peers' one value lies below p, sets the FAULT latch all the same.
Before a NO-MAJORITY such a grant withdraws the channel in every case: it ends in OUT with the latch set, no vote open, the
counter at the committed cycle and its rollback one for WITHDRAWAL, whether that rollback runs or has ended at once. The
order of such a grant, the event and the grant's consequences is the model's choice (log entry 34); a mark that finds a
disagreement while a COMMIT-TABLES waits is that of log entry 36 (10 section 10.1.2, 02 sections 2.1.4 and 2.2.1, 06 sections
6.3, 6.6 and 6.9, 07 sections 7.5 and 7.6.1, 09 section 9.7). Where the command ends, its code and arguments stand in the
command area, as the row places them (log entry 6). -/
def Obligations.DeferredEffectsWaitForTheGrant : Prop :=
  (∀ (s : State) (r : Requester), free s → granted r s →
     let waiting (code : Nat) (d : Deferred) : State := { underWay code [] s with
       mgmt := { ended code [] .busy none [] s.mgmt with deferred := some d }, arb.grant := some r }
     exec .stopTest s = .next (waiting 8 .stopTest) ∧
     (s.csr.state ≠ .unconfigured → exec .release s = .next (settle (waiting 12 .release))) ∧
     (s.csr.state = .unconfigured ∨ s.csr.state = .configured → s.scrub.proof.status ≠ .running →
       s.scrub.init.status ≠ .running → tableFault s = none → exec .commitTables s = .next (waiting 5 .commitTables))) ∧
  (∀ s : State, free s → portIdle s → s.mgmt.deferred = none →
     let waiting (code : Nat) (d : Deferred) : State := { s with
       mgmt := { ended code [] .busy none [] s.mgmt with deferred := some d } }
     (∃ t, exec .stopTest s = .next t ∧ exec .deferredCommandEffect (waiting 8 .stopTest) = .next (settle t)) ∧
     (s.csr.state ≠ .unconfigured →
       ∃ t, exec .release s = .next t ∧ exec .deferredCommandEffect (waiting 12 .release) = .next t) ∧
     (s.csr.state = .unconfigured ∨ s.csr.state = .configured → s.scrub.proof.status ≠ .running →
       s.scrub.init.status ≠ .running → tableFault s = none →
       ∃ t, exec .commitTables s = .next t ∧ exec .deferredCommandEffect (waiting 5 .commitTables) = .next (settle t))) ∧
  ((∀ s : State, s.vote.record.isOpen = false ∨ s.vote.record.window = none →
     exec .voteWindowExpiry s = .next (settle s)) ∧
   (∀ (s u : State) (r : Requester) (c : Instr), s.arb.grant = some r → s.port.held = none →
     exec (stepOf r s) s = .next u → u.counters.uncorrectable = s.counters.uncorrectable →
     s.counters.uncorrectable < counterMax →
     (c = .voteWindowExpiry ∧ s.vote.record.isOpen = true ∧ s.vote.record.window ≠ none) ∨
       (c = .receiveTimerExpiry ∧ s.csr.state = .receiving ∧
         ∃ j, s.repair.role = .joiner j ∧ j.phase = .receiving ∧ j.receiveTimer ≠ none) ∨
       (∃ x, s.repair.role = .source x ∧ ((c = .holdTimerExpiry ∧ x.holdTimer ≠ none) ∨
         (c = .catchupTimerExpiry ∧ x.catchupTimer ≠ none))) →
     r ≠ .lineCapture ∨ u.repair.r ≠ [] →
     exec c s = exec c u) ∧
   (∀ (s : State) (r : SourceRole) (o l : Nat) (vs : List Word) (me : Identity), s.arb.grant = some .lineCapture →
     s.repair.role = .source r → r.phase = .catchup → r.catchupTimer ≠ none → r.captured = none →
     nextCapture s.repair.r r.scan = some o → lineOf s.regions.committed o = some l →
     vs.length = 256 → cleanAt s (l * 256) vs → s.mgmt.params.channelId = some me → (getLink s r.link).status = .up →
     (getLink s r.link).peerHolding = false →
     exec .catchupTimerExpiry s = .next (settle { setRelation r.joiner none
         (sentUp r.link (ownFrame me (.abort .stalled))
           (sentUp r.link (ownFrame me (.line (BitVec.ofNat 32 o) vs)) s)) with
       arb.grant := none
       repair := { s.repair with r := [], role := .none }
       ev := evAfter .repair 6 (.peer r.joiner) (wordOf (satSucc r.linesSent)) s })) ∧
   (∀ (s u : State) (r : Requester), s.arb.grant = some r → r ≠ .processor → s.port.held = none →
     exec (stepOf r s) s = .next u → u.counters.uncorrectable = s.counters.uncorrectable →
     s.counters.uncorrectable < counterMax → s.csr.state ≠ .unconfigured → u.csr.state ≠ .unconfigured →
     recordUpset s ≠ none → recordUpset u = recordUpset s → (markHold s).any = false → (markHold u).any = false →
     r ≠ .lineCapture ∨ u.repair.r ≠ [] →
     exec .cycleMark s = exec .cycleMark u) ∧
   (∀ (s : State) (l w : Nat) (raw : Word) (v : Nat) (h0 h1 : Arrival), s.arb.grant = some .scrub →
     scrubPlace s = some (l, w) → w < 256 → decodeStored (storedAt s (l * 256 + w)) (l * 256 + w) = .uncorrectable raw →
     classOf s l = some .vital → s.csr.state = .sealed ∨ s.csr.state = .voting → copiesAgree s →
     s.vote.record.isOpen = true → s.vote.record.window ≠ none → s.vote.record.arrival0 = some (v, h0) →
     s.vote.record.arrival1 = some (v, h1) → v ≠ s.vote.record.snapshot → v < 2 ^ 61 - 1 →
     ∃ t j, exec .voteWindowExpiry s = .next (settle t) ∧ t.csr.state = .out ∧ t.ev.faultLatch = true ∧
       t.sig.valid = false ∧ t.jnl.rb.reason = some .dissent ∧ t.repair.role = .joiner j ∧ t.arb.grant = none ∧
       t.vote.peer0.status = .agree ∧ t.vote.peer1.status = .agree) ∧
   (∀ (s : State) (l w : Nat) (raw : Word), s.arb.grant = some .scrub → scrubPlace s = some (l, w) → w < 256 →
     decodeStored (storedAt s (l * 256 + w)) (l * 256 + w) = .uncorrectable raw → classOf s l = some .vital →
     s.csr.state = .sealed ∨ s.csr.state = .voting → copiesAgree s → s.vote.record.isOpen = true →
     s.vote.record.window ≠ none → noMajorityIn s.vote.record →
     ∃ t j, exec .voteWindowExpiry s = .next (settle t) ∧ t.csr.state = .out ∧ t.ev.faultLatch = true ∧
       t.csr.counter = s.csr.committed ∧ t.csr.committed = s.csr.committed ∧ t.sig.valid = false ∧
       t.jnl.rb.reason = some .withdrawal ∧ t.vote.record = VoteRecord.cleared ∧ t.repair.role = .joiner j ∧
       t.arb.grant = none))

/-- MEM-INIT and PROOF-TEST: WRONG-STATE outside CONFIGURED, ENGINE-BUSY while an operation runs, BAD-ARGUMENT for a range
that is empty or leaves the valid non-EVENTS regions; otherwise the record starts RUNNING on the range and the command ends
DONE with STARTED. STOP-TEST with the port idle and no operation RUNNING completes DONE and changes nothing. A RUNNING one
requests its steps, so STOP-TEST waits for the grant under way, the highest waiting requester's (log entry 4), and at its end
ends the running proof test, or the running initialise, in STOPPED with its record; with neither RUNNING then it changes
nothing (02 sections 2.4.1, 2.4.3 and 2.5). The row places the code and the arguments in the command area and issues them
(log entry 6). -/
def Obligations.EngineCommandsStartAndStop : Prop :=
  (∀ (first count loop : Word) (s : State), free s →
     let idle := s.scrub.proof.status ≠ .running ∧ s.scrub.init.status ≠ .running
     (s.csr.state ≠ .configured →
       exec (.memInit first count) s = .next (turnedAway 6 [first, count] .wrongState s) ∧
       exec (.proofTest first count loop) s = .next (turnedAway 7 [first, count, loop] .wrongState s)) ∧
     (s.csr.state = .configured → ¬ idle →
       exec (.memInit first count) s = .next (turnedAway 6 [first, count] .engineBusy s) ∧
       exec (.proofTest first count loop) s = .next (turnedAway 7 [first, count, loop] .engineBusy s)) ∧
     (s.csr.state = .configured → idle → ¬ rangeOk s first.toNat count.toNat →
       exec (.memInit first count) s = .next (turnedAway 6 [first, count] .badArgument s) ∧
       exec (.proofTest first count loop) s = .next (turnedAway 7 [first, count, loop] .badArgument s)) ∧
     (s.csr.state = .configured → idle → rangeOk s first.toNat count.toNat →
       exec (.memInit first count) s = .next { done 6 [first, count] [1] s with
         scrub.init := { status := .running, first := first.toNat, count := count.toNat, written := 0 } } ∧
       exec (.proofTest first count loop) s = .next { done 7 [first, count, loop] [1] s with
         scrub.proof := { ProofRecord.reset with
           status := .running, first := first.toNat, count := count.toNat, loop := decide (loop ≠ 0) } })) ∧
  ((∀ s : State, free s → portIdle s → s.scrub.proof.status ≠ .running → s.scrub.init.status ≠ .running →
     exec .stopTest s = .next (done 8 [] [] s)) ∧
   (∀ s : State, free s → s.arb.grant = none → s.mgmt.deferred = none →
     s.scrub.proof.status = .running ∨ s.scrub.init.status = .running →
     ∃ r, nextGrant s = some r ∧ exec .stopTest s = .next { underWay 8 [] s with
       mgmt := { ended 8 [] .busy none [] s.mgmt with deferred := some .stopTest }, arb.grant := some r }) ∧
   (∀ s : State, s.mgmt.deferred = some .stopTest → s.arb.grant = none →
     let finished : State := { s with mgmt := endedLate s.mgmt }
     (s.scrub.proof.status = .running → exec .deferredCommandEffect s = .next (settle { finished with
       scrub.proof.status := .stopped
       ev := evAfter .proofResult 3 (.line s.scrub.proof.first) (wordOf s.scrub.proof.loops) s })) ∧
     (s.scrub.proof.status ≠ .running → s.scrub.init.status = .running → exec .deferredCommandEffect s = .next (settle
       { finished with
         scrub.init.status := .stopped
         ev := evAfter .initDone 2 (.line s.scrub.init.first) (wordOf s.scrub.init.written) s })) ∧
     (s.scrub.proof.status ≠ .running → s.scrub.init.status ≠ .running →
       exec .deferredCommandEffect s = .next (settle finished))))

/-- SEAL is refused WRONG-STATE outside CONFIGURED and ENGINE-BUSY while an engine operation runs; otherwise the channel
enters SEALING with its record, the walk starts at cursor and accumulator 0 with an empty poisoned-lines list, and the
command ends DONE with STARTED (04 section 4.9). The row places the code and the arguments in the command area and issues
them (log entry 6). -/
def Obligations.SealStartsTheSealWalk : Prop :=
  ∀ s : State, free s →
    (s.csr.state ≠ .configured → exec .seal s = .next (turnedAway 9 [] .wrongState s)) ∧
    (s.csr.state = .configured → s.scrub.proof.status = .running ∨ s.scrub.init.status = .running →
      exec .seal s = .next (turnedAway 9 [] .engineBusy s)) ∧
    (s.csr.state = .configured → s.scrub.proof.status ≠ .running → s.scrub.init.status ≠ .running →
      let s1 : State := { s with csr.state := .sealing, csr.stateInv := ~~~ (3 : BitVec 8) }
      exec .seal s = .next { done 9 [] [1] s1 with
        sig := { s.sig with walk := .seal, cursor := 0, acc := 0, poisoned := [], overflow := false }
        ev := evAfter .stateChange 2 (.channelState .configured) (wordOf s.csr.committed.toNat) s1 })

/-- JOIN from CONFIGURED, with S not valid: the channel enters OUT with its record, the joiner role prepares a full repair
with the retry count at REJOIN-RETRIES, and the preparation walk starts. JOIN in OUT with preparation or a REQUEST under way
only restores the retry count; in RETRY-WAIT or GAVE-UP it begins a fresh sequence at once: a REQUEST with the role's base
and need list to the first eligible peer whose link is UP, or, with no peer eligible, the next wait with one retry less, or
GAVE-UP with its record where REJOIN-RETRIES is 0; that the peer passed over is not tried again is log entry 15. Elsewhere it
is refused WRONG-STATE. RESUME is refused WRONG-STATE outside HELD; in HELD, where the counter equals the committed cycle,
the channel returns to VOTING with its record and nothing else changes: journal, S, C, maps, a source role and the FAULT
latch stay (06 sections 6.7 and 6.8, 09 section 9.4). The row places the code and the arguments in the command area and
issues them (log entry 6). -/
def Obligations.JoinAndResumeChangeTheState : Prop :=
  (∀ s : State, free s →
     (s.csr.state ≠ .configured → s.csr.state ≠ .out → exec .join s = .next (turnedAway 10 [] .wrongState s)) ∧
     (s.csr.state = .configured → s.scrub.proof.status = .running ∨ s.scrub.init.status = .running →
       exec .join s = .next (turnedAway 10 [] .engineBusy s)) ∧
     (s.csr.state = .configured → s.scrub.proof.status ≠ .running → s.scrub.init.status ≠ .running → s.sig.valid = false →
       let s1 : State := { s with csr.state := .out, csr.stateInv := ~~~ (7 : BitVec 8) }
       ∃ j, exec .join s = .next { done 10 [] [] s1 with
           sig := { s.sig with walk := .preparation, cursor := 0, acc := 0, poisoned := [], overflow := false }
           vote.peer0.slot := none, vote.peer1.slot := none
           repair.role := .joiner j
           ev := evAfter .stateChange 11 (.channelState .configured) (wordOf s.csr.committed.toNat) s1 } ∧
         j.phase = .preparing ∧ j.forcedFull = true ∧ j.base = none ∧ j.need = [] ∧
         j.retry = s.mgmt.params.rejoinRetries) ∧
     (∀ j, s.csr.state = .out → s.repair.role = .joiner j → j.phase = .preparing ∨ j.phase = .requesting →
       exec .join s = .next { done 10 [] [] s with
         repair.role := .joiner { j with retry := s.mgmt.params.rejoinRetries } })) ∧
  (∀ s : State, free s →
     (s.csr.state ≠ .held → exec .resume s = .next (turnedAway 11 [] .wrongState s)) ∧
     (s.csr.state = .held → s.csr.counter = s.csr.committed →
       let s1 : State := { s with
         csr.state := .voting, csr.stateInv := ~~~ (5 : BitVec 8), csr.counterInv := ~~~ s.csr.committed }
       exec .resume s = .next { done 11 [] [] s1 with
         ev := evAfter .stateChange 9 (.channelState .held) (wordOf s.csr.committed.toNat) s1 })) ∧
  (∀ (s : State) (j : JoinerRole) (me x y : Identity), free s → s.csr.state = .out → s.repair.role = .joiner j →
     j.phase = .retryWait ∨ j.phase = .gaveUp → s.mgmt.params.channelId = some me → otherIds (some me) = some (x, y) →
     let given := done 10 [] [] s
     let fresh := { j with tried := [], candidate := none, replyTimer := none, retryTimer := none
                           retry := s.mgmt.params.rejoinRetries }
     let asked (i : Identity) (tried : List Identity) : Role := .joiner { fresh with
       phase := .requesting, tried := tried, candidate := some i, replyTimer := some s.mgmt.params.voteWindow }
     let request : Frame := ownFrame me (.request j.base (j.need.map (BitVec.ofNat 32)))
     (∀ l, eligible s.vote.peer0 = true → s.vote.peer0.link = some l → (getLink s l).status = .up →
       exec .join s = .next { sentUp l request given with
         vote.peer0.relation := some .joinerOf, repair.role := asked x [x] }) ∧
     (∀ l, eligible s.vote.peer0 = false → eligible s.vote.peer1 = true → s.vote.peer1.link = some l →
       (getLink s l).status = .up → exec .join s = .next { sentUp l request given with
         vote.peer1.relation := some .joinerOf, repair.role := asked y [x, y] }) ∧
     (eligible s.vote.peer0 = false → eligible s.vote.peer1 = false →
       (0 < s.mgmt.params.rejoinRetries → exec .join s = .next { given with
         repair.role := .joiner { fresh with
           phase := .retryWait, retry := s.mgmt.params.rejoinRetries - 1, retryTimer := some s.mgmt.params.rejoinRetry } }) ∧
       (s.mgmt.params.rejoinRetries = 0 → exec .join s = .next { given with
         repair.role := .joiner { fresh with phase := .gaveUp }
         ev := evAfter .repair 11 .none 0 s })))

/-- RELEASE is refused WRONG-STATE in UNCONFIGURED. Elsewhere, at once with the port idle and otherwise at the end of the
grant it waited for, it ends the repair role with an ABORT, RELEASED, to its partner and a REPAIR record, the open vote, the
rollback, a seal walk with its COMMAND-DONE, a preparation walk, and a running proof test or initialise in STOPPED with its
PROOF-RESULT or INIT-DONE, hands a STATE-CHANGE with cause RELEASE last where the channel was not in CONFIGURED, clears the
relations of the peer table and both parking slots, empties journal, maps and poisoned-lines list, makes S invalid, and
leaves CONFIGURED with counter, committed cycle and C at 0; it keeps memory, tables, keys, digest, parameters, error
counters, suspect and remap tables, the FAULT latch, HEALTH and every other item of the links (06 section 6.10). That the
slots are emptied at an unchanged counter too is log entry 28, that a joiner without a source tells its candidate is log
entry 18, and that a joiner's receive buffers are dropped, with GO where HOLD had been sent, is log entry 42. Where the
command ends, its code and arguments stand in the command area, as the row places them (log entry 6). That the port is idle
just when no grant is under way and no requester waits is the model's choice (log entry 4). -/
def Obligations.ReleaseReturnsToConfigured : Prop :=
  ∀ s : State,
    let role := s.repair.role
    let partner : Option Identity := match role with
      | .none => none
      | .source r => some r.joiner
      | .joiner j => if j.phase = .receiving ∨ j.phase = .closing then j.source else j.candidate
    let partnerLink : Option LinkId := match role with
      | .none => none
      | .source r => some r.link
      | .joiner j => if j.phase = .receiving ∨ j.phase = .closing then j.link
          else j.candidate.bind (fun i => (peerSlot s i).bind (fun k => (getPeer s k).link))
    let drops (l : LinkId) : Bool := match role with
      | .joiner _ => decide ((getLink s l).buffer ≠ [])
      | _ => false
    let goes (l : LinkId) : Bool := drops l && (getLink s l).holdSent
    let sends (l : LinkId) : Bool := decide ((getLink s l).status = .up) && s.mgmt.params.channelId.isSome
    let frames (l : LinkId) : List Frame := match s.mgmt.params.channelId with
      | some me => if sends l = true then
          (if partnerLink = some l then [ownFrame me (.abort .released)] else []) ++ (if goes l = true then [ownFrame me .go] else [])
          else []
      | none => []
    let cleared (l : LinkId) : Link := { getLink s l with
      beatTimer := if sends l = true ∧ (partnerLink = some l ∨ goes l = true) then some s.mgmt.params.beat else (getLink s l).beatTimer
      buffer := if drops l = true then [] else (getLink s l).buffer
      holdSent := (getLink s l).holdSent && !drops l }
    let subject : Subject := match partner with
      | some x => .peer x
      | none => .none
    let roleEnded : EventUnit := match role with
      | .none => s.ev
      | .source r => evAfter .repair 10 subject (wordOf r.linesSent) s
      | .joiner j => evAfter .repair 10 subject (wordOf j.linesWritten) s
    let walkEnded : EventUnit := if s.sig.walk = .seal then evAfter .commandDone 2 (.command 9) 0 { s with ev := roleEnded }
      else roleEnded
    let engineEnded : EventUnit :=
      if s.scrub.proof.status = .running then
        evAfter .proofResult 3 (.line s.scrub.proof.first) (wordOf s.scrub.proof.loops) { s with ev := walkEnded }
      else if s.scrub.init.status = .running then
        evAfter .initDone 2 (.line s.scrub.init.first) (wordOf s.scrub.init.written) { s with ev := walkEnded }
      else walkEnded
    let csr : ChannelRecord := { ChannelRecord.reset with
      state := .configured
      stateInv := if s.csr.state = .configured then s.csr.stateInv else ~~~ (2 : BitVec 8) }
    let released (m : MgmtUnit) : State := { s with
      csr := csr
      ev := if s.csr.state = .configured then engineEnded
        else evAfter .stateChange 16 (.channelState s.csr.state) 0 { s with csr := csr, ev := engineEnded }
      link1 := cleared .link1, link2 := cleared .link2
      out.tx1 := s.out.tx1 ++ frames .link1, out.tx2 := s.out.tx2 ++ frames .link2
      vote := { s.vote with
        record := VoteRecord.cleared, skewReported := s.vote.skewReported && decide (s.csr.counter = 0)
        peer0.slot := none, peer0.relation := none, peer1.slot := none, peer1.relation := none }
      mgmt := m
      jnl := { JournalUnit.reset with rb := { s.jnl.rb with rolling := false } }
      repair := { dc := [], dv := [], dO := [], r := [], dcValid := false, role := .none }
      sig := { s.sig with
        valid := false, poisoned := [], overflow := false, walk := .idle
        cursor := if s.sig.walk = .idle then s.sig.cursor else 0, acc := if s.sig.walk = .idle then s.sig.acc else 0 }
      scrub := { s.scrub with
        proof.status := if s.scrub.proof.status = .running then .stopped else s.scrub.proof.status
        init.status := if s.scrub.proof.status ≠ .running ∧ s.scrub.init.status = .running then .stopped
          else s.scrub.init.status } }
    (free s → s.csr.state = .unconfigured → exec .release s = .next (settle (turnedAway 12 [] .wrongState s))) ∧
    (free s → s.csr.state ≠ .unconfigured → portIdle s →
      exec .release s = .next (settle (released (ended 12 [] .done none [] s.mgmt)))) ∧
    (s.mgmt.deferred = some .release → s.arb.grant = none →
      exec .deferredCommandEffect s = .next (settle (released (endedLate s.mgmt))))

/-- RETIRE-LINE makes a line spare-pending: a held one is marked with its count reported, or left when already pending; an
unheld one enters with count 1 in place of an empty slot or an evicted entry, or is refused ENGINE-BUSY when all 16 entries
are spare-pending. The evicted entry has, among the entries with spare-pending clear, the lowest count, and among those the
highest recency (03 sections 3.1.2 and 3.1.5). The row places the code and the arguments in the command area and issues them
(log entry 6). -/
def Obligations.RetireLineMakesTheLinePending : Prop :=
  (∀ (line : Word) (s : State), free s →
     (s.csr.state = .unconfigured → exec (.retireLine line) s = .next (turnedAway 13 [line] .wrongState s)) ∧
     (s.csr.state ≠ .unconfigured → regionOf s line.toNat = none →
       exec (.retireLine line) s = .next (turnedAway 13 [line] .badArgument s)) ∧
     (s.csr.state ≠ .unconfigured → regionOf s line.toNat ≠ none →
       (∀ e, findSuspect s.spare.suspects line.toNat = some e → e.pending = true →
         exec (.retireLine line) s = .next (done 13 [line] [] s)) ∧
       (∀ e, findSuspect s.spare.suspects line.toNat = some e → e.pending = false →
         exec (.retireLine line) s = .next { done 13 [line] [] s with
           spare.suspects := s.spare.suspects.map (Option.map (fun x =>
             if x.line = line.toNat then { x with pending := true } else x))
           ev := evAfter .lineSuspect 3 (.line line.toNat) (wordOf e.count) s }) ∧
       (findSuspect s.spare.suspects line.toNat = none →
         (∀ i, firstEmpty s.spare.suspects 0 = some i →
           exec (.retireLine line) s = .next { done 13 [line] [] s with
             spare.suspects := (moveDown 16 s.spare.suspects).set i
               (some { line := line.toNat, count := 1, recency := 0, pending := true })
             ev := evAfter .lineSuspect 3 (.line line.toNat) 1 s }) ∧
         (∀ i v, firstEmpty s.spare.suspects 0 = none → victim s.spare.suspects 0 = some (i, v) →
           exec (.retireLine line) s = .next { done 13 [line] [] s with
             spare.suspects := (moveDown v.recency s.spare.suspects).set i
               (some { line := line.toNat, count := 1, recency := 0, pending := true })
             ev := evAfter .lineSuspect 3 (.line line.toNat) 1 s }) ∧
         ((∀ x ∈ s.spare.suspects, ∃ e, x = some e ∧ e.pending = true) →
           exec (.retireLine line) s = .next (turnedAway 13 [line] .engineBusy s))))) ∧
  (∀ (t : List (Option Suspect)) (i : Nat) (v : Suspect), victim t 0 = some (i, v) →
     t[i]? = some (some v) ∧ v.pending = false ∧
     ∀ e, some e ∈ t → e.pending = false → v.count < e.count ∨ (v.count = e.count ∧ e.recency ≤ v.recency))

/-- EVENT-ACK is refused WRONG-STATE in UNCONFIGURED and BAD-ARGUMENT for an index outside the ring or not between consumer
and producer; taken, the consumer index and the kind list move, INT and INT-busy follow the masked-in records that remain,
and a SUMMARY of the withheld kinds goes to the front of the waiting queue when there is room, behind the record that an
event write under way is writing, which is still the first to be written (10 section 10.5.3, 02 section 2.2.1). The row
places the code and the arguments in the command area and issues them (log entry 6). -/
def Obligations.EventAckMovesTheConsumer : Prop :=
  ∀ (index : Word) (s : State), free s →
    let n := index.toNat
    let cap := eventCapacity s
    let acked := (n + cap - s.ev.consumer) % cap
    let held := (s.ev.producer + cap - s.ev.consumer) % cap
    let left := (s.ev.producer + cap - n) % cap
    (s.csr.state = .unconfigured → exec (.eventAck index) s = .next (turnedAway 14 [index] .wrongState s)) ∧
    (s.csr.state ≠ .unconfigured → cap ≤ n ∨ held < acked →
      exec (.eventAck index) s = .next (turnedAway 14 [index] .badArgument s)) ∧
    (s.csr.state ≠ .unconfigured → n < cap → acked ≤ held →
      let room := s.ev.withheld ≠ 0 ∧ left + s.ev.waiting.length < cap - 1
      let int := (s.ev.kinds.drop acked).any (fun k => s.mgmt.params.intMask.getLsbD k.code)
      let summary : EventRecord :=
        { kind := .summary, detail := 0, state := s.csr.state, cycle := s.csr.counter, subject := .none, value := s.ev.withheld }
      exec (.eventAck index) s = .next { done 14 [index] [index, wordOf left] s with
        ev := { s.ev with
          consumer := n
          kinds := s.ev.kinds.drop acked
          intLevel := int, intBusy := int
          withheld := if room then 0 else s.ev.withheld
          waiting := if room then (match s.arb.grant, s.ev.waiting with
              | some .eventWrite, written :: rest => written :: summary :: rest
              | _, waiting => summary :: waiting)
            else s.ev.waiting } })

/-- READ-STATUS returns a page in the result words and changes nothing else, but that an ended proof test and a stopped
initialise become IDLE after the ENGINE page; a name that is not a page is refused BAD-ARGUMENT. READ-ENTRY returns one entry
of the loaded region table, the suspect table, the remap table or the peer table, and refuses BAD-ARGUMENT a table or an
index outside them. Every page and every entry is written out, word by word (10 section 10.4, 11 section 11.3). The names of
the pages and tables, and the codings that the manual leaves open, are log entry 13; that the ENGINE page shows the fields of
the sparing record that do not belong to its present operation as they stand is log entry 23, that a peer's identity comes
first is log entry 40, that the peers of a vote are bits of one word is log entry 45, that the codes of a peer entry beside
none are those of its list, with the arrival NONE 0, the relation none 0 and ABSENT 3, is log entry 47, that a joiner without
a source shows its candidate as partner is log entry 48, that an empty parking slot returns 0 for its cycle and its signature
too is log entry 51, that HEALTH is 1 when high and 0 when low is log entry 52, and that the capacities of the journal and
the event ring are 0 while no committed table holds their regions is log entry 54, and that the bytes of a page which the
layouts do not list read 0 is log entry 58. The row places the code and the arguments in the command area and issues them
(log entry 6). -/
def Obligations.StatusPagesAndEntriesAreReturned : Prop :=
  (∀ (page : Word) (s : State), free s →
     (page.toNat = 0 ∨ 9 < page.toNat → exec (.readStatus page) s = .next (turnedAway 15 [page] .badArgument s)) ∧
     (page.toNat = 1 → exec (.readStatus page) s = .next (done 15 [page]
       [wordOf s.csr.state.code, wordOf s.csr.counter.toNat, wordOf s.csr.committed.toNat, wordOf s.csr.c, wordOf s.sig.s,
         wordOf (flagCode s.sig.valid), wordOf (flagCode s.ev.faultLatch),
         wordOf (flagCode (s.ev.faultLatch || decide (s.csr.state ≠ .voting))), wordOf (flagCode s.ev.health),
         wordOf s.mgmt.digest.toNat,
         wordOf (flagCode (decide (s.csr.state ≠ .unconfigured ∧ s.csr.state ≠ .configured))),
         wordOf (optCode RefuseAccess.code s.port.lastRefusal.reason), wordOf s.port.lastRefusal.addr.toNat,
         wordOf s.port.lastRefusal.direction.code] s)) ∧
     (page.toNat = 2 → exec (.readStatus page) s = .next (done 15 [page]
       ([wordOf s.sig.walk.code, wordOf s.sig.cursor, wordOf s.sig.poisoned.length] ++
         (List.range 8).map (fun i => wordOf (s.sig.poisoned.getD i 0)) ++ [wordOf (flagCode s.sig.overflow)]) s)) ∧
     (page.toNat = 3 → exec (.readStatus page) s = .next (done 15 [page]
       [wordOf s.jnl.head, wordOf s.jnl.boundary, wordOf s.jnl.tail, wordOf s.jnl.votingCount, wordOf s.jnl.openCount,
         wordOf (journalCapacity s), wordOf (flagCode s.jnl.votingPresent), wordOf (flagCode s.jnl.votingOver),
         wordOf (flagCode s.jnl.openOver), wordOf (flagCode s.jnl.pressure), if s.jnl.rb.rolling then 2 else 1,
         wordOf s.jnl.rb.undone] s)) ∧
     (page.toNat = 4 → let r := s.vote.record
       let peers (x y : Bool) : Word := match s.mgmt.params.channelId with
         | some .a => wordOf (4 * flagCode x + 8 * flagCode y)
         | some .b => wordOf (2 * flagCode x + 8 * flagCode y)
         | some .c => wordOf (2 * flagCode x + 4 * flagCode y)
         | none => 0
       exec (.readStatus page) s = .next (done 15 [page]
         [wordOf (flagCode r.isOpen), wordOf r.cycle.toNat, peers r.expected0 r.expected1,
           peers r.arrival0.isSome r.arrival1.isSome] s)) ∧
     (page.toNat = 6 → let items (k : Link) : List Word :=
         [wordOf k.mode.code, wordOf k.status.code, wordOf (optCode Identity.code k.peer), wordOf k.buffer.length,
           wordOf (flagCode k.holdSent), wordOf (flagCode k.peerHolding)]
       exec (.readStatus page) s = .next (done 15 [page] (items s.link1 ++ items s.link2) s)) ∧
     (page.toNat = 7 → let cycle (b : Option Cycle) : Word := match b with
         | none => wordOf (2 ^ 32)
         | some n => wordOf n.toNat
       let items : List Word := match s.repair.role with
         | .none => [0, 0, 0, cycle none, 0, 0, 0, 0]
         | .source r => [1, wordOf r.phase.code, wordOf r.joiner.code, cycle r.base, 0, 0, wordOf r.linesSent, wordOf r.cycles]
         | .joiner j =>
           [2, wordOf j.phase.code,
             wordOf (optCode Identity.code (if j.phase = .receiving ∨ j.phase = .closing then j.source else j.candidate)),
             cycle j.base, wordOf j.need.length, wordOf j.retry, wordOf j.linesWritten, 0]
       exec (.readStatus page) s = .next (done 15 [page] (items ++
         [wordOf s.repair.dc.length, wordOf s.repair.dv.length, wordOf s.repair.dO.length, wordOf s.repair.r.length,
           wordOf (flagCode s.repair.dcValid)]) s)) ∧
     (page.toNat = 8 → exec (.readStatus page) s = .next (done 15 [page]
       [wordOf s.ev.producer, wordOf s.ev.consumer, wordOf (eventCapacity s), wordOf s.ev.waiting.length, s.ev.withheld,
         wordOf (flagCode s.ev.intLevel), wordOf (flagCode s.ev.intBusy), s.mgmt.params.intMask] s)) ∧
     (page.toNat = 9 → let p := s.mgmt.params
       exec (.readStatus page) s = .next (done 15 [page]
         [wordOf (optCode Identity.code p.channelId), wordOf p.memoryLines, wordOf p.voteWindow, wordOf p.beat,
           wordOf p.silence, wordOf p.catchupLines, wordOf p.catchupLimit, wordOf p.holdLimit, wordOf p.repairCycleLimit,
           wordOf p.rejoinRetries, wordOf p.rejoinRetry, wordOf p.retireThreshold, wordOf p.scrubRate, wordOf p.pressurePct,
           wordOf (s.link1.mode.code + 2 ^ 8 * s.link2.mode.code), p.intMask] s)) ∧
     (page.toNat = 5 → let p := s.scrub.proof
       let i := s.scrub.init
       let o := s.spare.op
       exec (.readStatus page) s = .next { done 15 [page]
         [wordOf (s.scrub.line + 2 ^ 32 * s.scrub.word), wordOf s.scrub.passCount.toNat,
           wordOf (p.status.code + 2 ^ 8 * flagCode p.loop + 2 ^ 16 * p.pass.code + 2 ^ 24 * p.outcome.code + 2 ^ 32 * p.loops),
           wordOf (p.first + 2 ^ 32 * p.count), wordOf p.faultAddr, p.expected, p.found,
           wordOf (i.status.code + 2 ^ 32 * i.written), wordOf (i.first + 2 ^ 32 * i.count),
           wordOf (o.kind.code + 2 ^ 8 * o.spare + 2 ^ 16 * o.pass.code + 2 ^ 24 * o.phase.code +
             2 ^ 32 * (if o.kind = .copying then o.cursor else o.word)),
           wordOf (o.target + 2 ^ 32 * o.source)] s with
       scrub.proof.status := if s.scrub.proof.status = .running then .running else .idle
       scrub.init.status := if s.scrub.init.status = .running then .running else .idle })) ∧
  (∀ (table index : Word) (s : State), free s →
     let i := index.toNat
     (table.toNat = 1 → ∀ e, s.regions.loaded[i]? = some e → i < 16 →
       exec (.readEntry table index) s = .next (done 17 [table, index]
         [wordOf (flagCode e.valid), wordOf e.base, wordOf e.count, wordOf e.cls.code, wordOf (flagCode e.scrub)] s)) ∧
     (table.toNat = 2 → ∀ e, s.spare.suspects[i]? = some (some e) → i < 16 →
       exec (.readEntry table index) s = .next (done 17 [table, index]
         [wordOf e.line, wordOf e.count, wordOf e.recency, wordOf (flagCode e.pending)] s)) ∧
     (table.toNat = 2 → s.spare.suspects[i]? = some none → i < 16 →
       exec (.readEntry table index) s = .next (done 17 [table, index] [0, 0, 0, 0] s)) ∧
     (table.toNat = 3 → ∀ e, s.spare.remap[i]? = some e → i < 32 →
       exec (.readEntry table index) s = .next (done 17 [table, index] (match e with
         | .untested => [1, 0, 0]
         | .ready => [2, 0, 0]
         | .copying l => [3, wordOf l, wordOf s.spare.op.cursor]
         | .active l => [4, wordOf l, 0]
         | .bad => [5, 0, 0]) s)) ∧
     (table.toNat = 4 → i < 2 →
       let x := if i = 1 then s.vote.peer1 else s.vote.peer0
       let identity : Option Identity := match s.mgmt.params.channelId with
         | some .a => some (if i = 1 then .c else .b)
         | some .b => some (if i = 1 then .c else .a)
         | some .c => some (if i = 1 then .b else .a)
         | none => none
       exec (.readEntry table index) s = .next (done 17 [table, index]
         ([wordOf (optCode Identity.code identity), wordOf (optCode LinkId.code x.link),
           wordOf (optCode ChannelState.code x.state), wordOf x.counter.toNat, wordOf x.committed.toNat] ++
         (match x.slot with
           | none => [0, 0, 0]
           | some p => [wordOf p.cycle.toNat, wordOf p.signature, wordOf p.arrival.code]) ++
         [wordOf x.status.code, wordOf (optCode Arrival.code x.arrival), wordOf (optCode Relation.code x.relation)]) s)) ∧
     (table.toNat = 0 ∨ 4 < table.toNat ∨ (table.toNat = 1 ∧ 16 ≤ i) ∨ (table.toNat = 2 ∧ 16 ≤ i) ∨
         (table.toNat = 3 ∧ 32 ≤ i) ∨ (table.toNat = 4 ∧ 2 ≤ i) →
       exec (.readEntry table index) s = .next (turnedAway 17 [table, index] .badArgument s)))

/-- READ-COUNTERS returns the sixteen corrected counters or the six others, and with the clear option sets all 22 to 0 after
their values have been taken; another group is refused BAD-ARGUMENT (10 section 10.4). The row places the code and the
arguments in the command area and issues them (log entry 6). -/
def Obligations.ReadCountersReturnsAndClears : Prop :=
  ∀ (group clear : Word) (s : State), free s →
    let after (t : State) : State := if clear = 0 then t else { t with
      counters := { corrected := List.replicate 16 0, uncorrectable := 0 }
      port.refused := 0, link1.badFrames := 0, link1.discards := 0, link2.badFrames := 0, link2.discards := 0 }
    (group.toNat = 1 → exec (.readCounters group clear) s = .next
      (after (done 16 [group, clear] (s.counters.corrected.map wordOf) s))) ∧
    (group.toNat = 2 → exec (.readCounters group clear) s = .next (after (done 16 [group, clear]
      [wordOf s.counters.uncorrectable, wordOf s.port.refused, wordOf s.link1.badFrames, wordOf s.link1.discards,
        wordOf s.link2.badFrames, wordOf s.link2.discards] s))) ∧
    (group.toNat ≠ 1 → group.toNat ≠ 2 →
      exec (.readCounters group clear) s = .next (turnedAway 16 [group, clear] .badArgument s))

/-- FORCE-FAULT sets the FAULT latch and CLEAR-FAULT clears it, in every state, with no record; the FAULT output is the latch
or a state other than VOTING (10 section 10.6). The row places the code and the arguments in the command area and issues them
(log entry 6). -/
def Obligations.FaultCommandsDriveTheLatch : Prop :=
  ∀ s : State, free s →
    exec .forceFault s = .next { done 18 [] [] s with ev.faultLatch := true } ∧
    exec .clearFault s = .next { done 19 [] [] s with ev.faultLatch := false } ∧
    (faultLevel s = true ↔ s.ev.faultLatch = true ∨ s.csr.state ≠ .voting)

/-- A handed record carries the state and the counter of the channel state record; it is dropped in UNCONFIGURED, its kind is
withheld when the waiting queue holds 8 or the occupancy is capacity−1 or above, and otherwise it joins the queue; nothing
else changes. The manual says equals capacity−1; that above it a record is withheld too is log entry 27. An event write
stores the oldest waiting record in the four words at the producer index, moves the producer, notes the kind, and raises INT
when the kind is in INT-MASK and INT-busy is clear (10 sections 10.5.1 and 10.5.2). -/
def Obligations.RecordsAreQueuedAndWritten : Prop :=
  (∀ (k : EventKind) (detail : Nat) (subj : Subject) (v : Word) (s : State),
     let waitingAndUnread := (s.ev.producer + eventCapacity s - s.ev.consumer) % eventCapacity s + s.ev.waiting.length
     (s.csr.state = .unconfigured → hand k detail subj v s = s) ∧
     (s.csr.state ≠ .unconfigured → eventCapacity s - 1 ≤ waitingAndUnread ∨ 8 ≤ s.ev.waiting.length →
       hand k detail subj v s = { s with ev.withheld := s.ev.withheld ||| (1 : Word) <<< k.code }) ∧
     (s.csr.state ≠ .unconfigured → waitingAndUnread < eventCapacity s - 1 → s.ev.waiting.length < 8 →
       hand k detail subj v s = { s with ev.waiting := s.ev.waiting ++
         [{ kind := k, detail := detail, state := s.csr.state, cycle := s.csr.counter, subject := subj, value := v }] })) ∧
  (∀ (s : State) (e : EventRecord) (rest : List EventRecord), runs .eventWrite s → s.ev.waiting = e :: rest →
     let slot := eventSlot s s.ev.producer
     let w0 := wordOf (e.kind.code + 2 ^ 8 * e.detail + 2 ^ 16 * e.state.code + 2 ^ 24 * e.subject.type + 2 ^ 32 * e.cycle.toNat)
     let raise := s.mgmt.params.intMask.getLsbD e.kind.code && !s.ev.intBusy
     exec .eventWrite s = .next { s with
       arb.grant := none
       mem := (writeWords [(slot, w0), (slot + 1, wordOf e.subject.code), (slot + 2, e.value), (slot + 3, 0)] s).mem
       ev := { s.ev with
         waiting := rest, kinds := s.ev.kinds ++ [e.kind], producer := (s.ev.producer + 1) % eventCapacity s
         intLevel := s.ev.intLevel || raise, intBusy := s.ev.intBusy || raise } })

/-! ### The vote (chapter 7) -/

/-- A mark taken in SEALED or VOTING with a SIGN still to come and no source role held: the counter becomes n, the open
cycle; the voting segment takes the open one's entries; Dv takes Do; both reported flags are cleared; the vote opens on n
with S as its snapshot, the expected peers' parked SIGNs for n and its window running; both parking slots are emptied; SIGN
goes out on each link that is UP, and nothing else changes. A mark that no expected peer's SIGN is missing for does the same,
its SIGN sent too, and resolves the vote within its own event, as the window's expiry would resolve the vote so opened. A
source in PASS counts the mark: beyond REPAIR-CYCLE-LIMIT it gives up with NO-CONVERGE, ABORT and its record; with R within
CATCHUP-LINES it begins catch-up with the mark's cycle and snapshot and its timer running, and with R empty and nothing
captured it sends CLOSE at once, its hold timer as it was, the model's reading (log entry 28). A source in AWAIT-VERDICT
counts nothing. A source's mark for which every SIGN has come counts as one for which a SIGN is missing, and then resolves as
the window's expiry would (07 sections 7.2.2 and 7.5, 09 section 9.7). -/
def Obligations.TakenMarkOpensTheVote : Prop :=
  (∀ s : State, s.csr.state = .sealed ∨ s.csr.state = .voting → copiesAgree s →
     s.arb.grant ≠ some .processor →
     s.vote.record.isOpen = false → s.jnl.rb.rolling = false → (∀ r, s.repair.role ≠ .source r) →
     let n := s.csr.counter + 1
     let expects (x : Peer) : Bool := decide (x.state = some .voting ∨ x.state = some .sealed)
     let parked (x : Peer) : Option (Nat × Arrival) := match x.slot with
       | some p => if expects x = true ∧ p.cycle = n then some (p.signature, p.arrival) else none
       | none => none
     (expects s.vote.peer0 = true ∧ parked s.vote.peer0 = none) ∨ (expects s.vote.peer1 = true ∧ parked s.vote.peer1 = none) →
     let sent (me : Identity) : Frame := { ack := false, mismatch := false, relayed := false, sender := me, originator := me
                                           payload := .sign n s.csr.committed (some s.csr.state) (wordOf s.sig.s) }
     let up (k : Link) : Prop := k.status = .up ∧ s.mgmt.params.channelId ≠ none
     ∃ t, exec .cycleMark s = .next t ∧ t = { s with
       csr.counter := n, csr.counterInv := ~~~ n
       jnl := { s.jnl with
         votingCount := s.jnl.openCount, votingOver := s.jnl.openOver, boundary := s.jnl.tail, openCount := 0
         openOver := false, votingPresent := true }
       repair.dv := s.repair.dO, repair.dO := []
       port.refusalReported := false
       vote := { s.vote with
         skewReported := false, peer0.slot := none, peer1.slot := none
         record := { isOpen := true, cycle := n, snapshot := s.sig.s, window := some s.mgmt.params.voteWindow
                     expected0 := expects s.vote.peer0, expected1 := expects s.vote.peer1
                     arrival0 := parked s.vote.peer0, arrival1 := parked s.vote.peer1 } }
       link1 := t.link1, link2 := t.link2, out := t.out } ∧
       t.out.responses = s.out.responses ∧
       (∀ me, s.mgmt.params.channelId = some me →
         t.out.tx1 = s.out.tx1 ++ (if s.link1.status = .up then [sent me] else []) ∧
         t.out.tx2 = s.out.tx2 ++ (if s.link2.status = .up then [sent me] else [])) ∧
       (up s.link1 → t.link1 = { s.link1 with beatTimer := some s.mgmt.params.beat }) ∧ (¬ up s.link1 → t.link1 = s.link1) ∧
       (up s.link2 → t.link2 = { s.link2 with beatTimer := some s.mgmt.params.beat }) ∧ (¬ up s.link2 → t.link2 = s.link2)) ∧
  (∀ s : State, s.csr.state = .sealed ∨ s.csr.state = .voting → copiesAgree s → s.arb.grant = none →
     s.vote.record.isOpen = false → s.jnl.rb.rolling = false → (∀ r, s.repair.role ≠ .source r) → s.port.held = none →
     let n := s.csr.counter + 1
     let expects (x : Peer) : Bool := decide (x.state = some .voting ∨ x.state = some .sealed)
     let parked (x : Peer) : Option (Nat × Arrival) := match x.slot with
       | some p => if expects x = true ∧ p.cycle = n then some (p.signature, p.arrival) else none
       | none => none
     (expects s.vote.peer0 = true → parked s.vote.peer0 ≠ none) → (expects s.vote.peer1 = true → parked s.vote.peer1 ≠ none) →
     let sent : List Frame := match s.mgmt.params.channelId with
       | some me => [ownFrame me (.sign n s.csr.committed (some s.csr.state) (wordOf s.sig.s))]
       | none => []
     let up (k : Link) : Bool := decide (k.status = .up) && s.mgmt.params.channelId.isSome
     ∃ t, exec .cycleMark s = .next t ∧ exec .voteWindowExpiry { s with
       csr.counter := n, csr.counterInv := ~~~ n
       jnl := { s.jnl with
         votingCount := s.jnl.openCount, votingOver := s.jnl.openOver, boundary := s.jnl.tail, openCount := 0
         openOver := false, votingPresent := true }
       repair.dv := s.repair.dO, repair.dO := []
       port.refusalReported := false
       vote := { s.vote with
         skewReported := false, peer0.slot := none, peer1.slot := none
         record := { isOpen := true, cycle := n, snapshot := s.sig.s, window := some s.mgmt.params.voteWindow
                     expected0 := expects s.vote.peer0, expected1 := expects s.vote.peer1
                     arrival0 := parked s.vote.peer0, arrival1 := parked s.vote.peer1 } }
       link1 := if up s.link1 = true then { s.link1 with beatTimer := some s.mgmt.params.beat } else s.link1
       link2 := if up s.link2 = true then { s.link2 with beatTimer := some s.mgmt.params.beat } else s.link2
       out.tx1 := s.out.tx1 ++ (if up s.link1 = true then sent else [])
       out.tx2 := s.out.tx2 ++ (if up s.link2 = true then sent else []) } = .next t) ∧
  (∀ (s : State) (r : SourceRole) (me : Identity), s.csr.state = .sealed ∨ s.csr.state = .voting → copiesAgree s →
     s.arb.grant = none → s.vote.record.isOpen = false → s.jnl.rb.rolling = false → s.repair.role = .source r →
     s.mgmt.params.channelId = some me → (getLink s r.link).status = .up →
     let n := s.csr.counter + 1
     let waitsFor (x : Peer) : Prop := (x.state = some .voting ∨ x.state = some .sealed) ∧ ∀ p, x.slot = some p → p.cycle ≠ n
     waitsFor s.vote.peer0 ∨ waitsFor s.vote.peer1 →
     ∃ u, exec .cycleMark { s with repair.role := .none } = .next u ∧
       let counted := { r with cycles := r.cycles + 1 }
       let caught := { counted with
         phase := .catchup, closeCycle := n, target := s.sig.s, catchupTimer := some s.mgmt.params.catchupLimit }
       (r.phase = .awaitVerdict → exec .cycleMark s = .next { u with repair.role := .source r }) ∧
       (r.phase = .pass → s.mgmt.params.repairCycleLimit ≤ r.cycles → exec .cycleMark s = .next
         { setRelation r.joiner none (sentUp r.link (ownFrame me (.abort .noConverge)) u) with
           repair := { u.repair with role := .none, r := [] }
           ev := evAfter .repair 7 (.peer r.joiner) (wordOf r.linesSent) u }) ∧
       (r.phase = .pass → r.cycles < s.mgmt.params.repairCycleLimit →
         (s.mgmt.params.catchupLines < s.repair.r.length →
           exec .cycleMark s = .next { u with repair.role := .source counted }) ∧
         (s.repair.r.length ≤ s.mgmt.params.catchupLines → s.repair.r ≠ [] ∨ r.captured ≠ none →
           exec .cycleMark s = .next { u with repair.role := .source caught }) ∧
         (s.repair.r = [] → r.captured = none → exec .cycleMark s = .next
           { setRelation r.joiner (some .joining)
               (sentUp r.link (ownFrame me (.close n (BitVec.ofNat 32 r.linesSent) (wordOf s.sig.s))) u) with
             repair.role := .source { caught with
               phase := .awaitVerdict, catchupTimer := none, verdictTimer := some s.mgmt.params.holdLimit } }))) ∧
  (∀ (s : State) (r : SourceRole), s.csr.state = .sealed ∨ s.csr.state = .voting → copiesAgree s → s.arb.grant = none →
     s.vote.record.isOpen = false → s.jnl.rb.rolling = false → s.port.held = none → s.repair.role = .source r →
     r.phase ≠ .catchup →
     let n := s.csr.counter + 1
     let expects (x : Peer) : Bool := decide (x.state = some .voting ∨ x.state = some .sealed)
     let parked (x : Peer) : Option (Nat × Arrival) := match x.slot with
       | some p => if expects x = true ∧ p.cycle = n then some (p.signature, p.arrival) else none
       | none => none
     (expects s.vote.peer0 = true → parked s.vote.peer0 ≠ none) → (expects s.vote.peer1 = true → parked s.vote.peer1 ≠ none) →
     ∃ u, exec .cycleMark { s with vote.peer0.state := some .voting, vote.peer0.slot := none } = .next u ∧
       exec .cycleMark s = exec .voteWindowExpiry { u with
         vote.peer0.state := s.vote.peer0.state
         vote.record.expected0 := expects s.vote.peer0
         vote.record.arrival0 := parked s.vote.peer0 })

/-- A mark taken in a state other than SEALED and VOTING has one effect: it clears the refusal-reported flag. In UNCONFIGURED
it is so without a comparison of the record. Elsewhere, when an item's two copies disagree, the part hands INTERNAL-FAULT for
the first such item and enters HALTED: the latch is set, the counter falls back to the committed cycle, the record's copies
agree again, S is invalid, journal, vote and maps are emptied, and the refusal-reported flag is not cleared. The model's
readings in it: that entry to HALTED empties both parking slots with no vote open and the counter unchanged too (log entry
28), that a proof test or an initialise goes on, its record as it stands (log entry 37), and that a COMMIT-TABLES whose
effects wait has them first, so that the channel is HALTED with the new tables, while another waiting command goes on waiting
(log entry 36) (07 section 7.2.1, 06 sections 6.2 and 6.9). -/
def Obligations.MarkElsewhereOrOnAnUpsetRecord : Prop :=
  (∀ s : State, s.csr.state ≠ .sealed → s.csr.state ≠ .voting → (markHold s).any = false →
     s.arb.grant ≠ some .processor →
     s.csr.state = .unconfigured ∨ copiesAgree s →
     exec .cycleMark s = .next { s with port.refusalReported := false }) ∧
  (∀ (s : State) (detail : Nat) (v : Word), s.csr.state ≠ .unconfigured → (markHold s).any = false → s.arb.grant = none →
     recordUpset s = some (detail, v) →
     (s.mgmt.deferred = some .commitTables → ∃ t, exec .cycleMark s = .next t ∧
       t.csr.state = .halted ∧ t.csr.counter = 0 ∧ t.csr.committed = 0 ∧ t.csr.c = 0 ∧ copiesAgree t ∧
       t.regions = { s.regions with committed := s.regions.loaded } ∧ t.sig.committedKeys = s.sig.loadedKeys ∧
       t.mgmt.digest = digestOf s.regions.loaded s.sig.loadedKeys ∧ t.mgmt.phase = .done ∧ t.mgmt.deferred = none ∧
       t.ev.faultLatch = true ∧ t.sig.valid = false ∧ t.jnl.entries = 0 ∧ t.mem = s.mem ∧ t.port = s.port) ∧
     (s.mgmt.deferred ≠ some .commitTables → ∃ t, exec .cycleMark s = .next t ∧
       t.csr.state = .halted ∧ t.csr.counter = s.csr.committed ∧ t.csr.committed = s.csr.committed ∧ t.csr.c = s.csr.c ∧
       copiesAgree t ∧ t.ev.faultLatch = true ∧ t.ev.health = s.ev.health ∧ t.sig.valid = false ∧ t.sig.walk = .idle ∧
       t.jnl = { JournalUnit.reset with rb := { s.jnl.rb with rolling := false } } ∧
       t.vote.record = VoteRecord.cleared ∧ t.vote.peer0.slot = none ∧ t.vote.peer1.slot = none ∧
       t.repair = { dc := [], dv := [], dO := [], r := [], dcValid := false, role := .none } ∧
       t.mem = s.mem ∧ t.port = s.port ∧ t.regions = s.regions ∧ t.spare = s.spare ∧ t.scrub = s.scrub ∧ t.mgmt = s.mgmt ∧
       (s.repair.role = .none → s.sig.walk ≠ .seal →
         t.ev.waiting = (let s1 := hand .internalFault detail .none v s
           hand .stateChange 17 (.channelState s.csr.state) (wordOf s.csr.committed.toNat)
             { s1 with csr := t.csr }).ev.waiting ∨ s.csr.state = .halted)))

/-- AGREE at the window's expiry: this channel's snapshot came from a peer too. C takes the snapshot and the committed cycle
becomes n, in both copies; the voting segment is discarded as R87 gives; Dc takes Dv; SEALED becomes VOTING with its record;
HEALTH is inverted just when the FAULT latch is clear; the vote's record is handed first, VOTE-UNANIMOUS when both peers
agree and otherwise VOTE, AGREE with the peers that do not; the open vote is cleared; the counter, S, Do, the slots and
memory stay. Before any outcome the record's copies are compared: where an item's two copies disagree, INTERNAL-FAULT names
the first such item, the record of the vote is cleared, no outcome is acted on, whatever has arrived, and the channel enters
HALTED, its copies agreeing again, the counter at the committed cycle, no peer marked and HEALTH as it was. That this entry
empties both parking slots is the model's reading (log entry 28) (07 sections 7.5 and 7.6, 06 sections 6.2 and 6.9). -/
def Obligations.AgreeCommitsTheCycle : Prop :=
  (∀ s : State, s.arb.grant = none → s.vote.record.isOpen = true → s.vote.record.window ≠ none → copiesAgree s →
    let r := s.vote.record
    let holds (a : Option (Nat × Arrival)) : Bool := match a with
      | some (v, _) => decide (v = r.snapshot)
      | none => false
    holds r.arrival0 = true ∨ holds r.arrival1 = true →
    ∃ t, exec .voteWindowExpiry s = .next (settle t) ∧
      t = { s with
        csr := t.csr, ev := t.ev, vote := t.vote
        jnl := { s.jnl with head := s.jnl.boundary, votingCount := 0, votingOver := false, votingPresent := false
                            pressure := s.jnl.pressure && decide (pressureLevel s ≤ s.jnl.openCount) }
        repair.dc := s.repair.dv, repair.dv := [], repair.dcValid := true } ∧
      t.csr.committed = r.cycle ∧ t.csr.c = r.snapshot ∧ t.csr.counter = s.csr.counter ∧
      t.csr.state = (if s.csr.state = .sealed then .voting else s.csr.state) ∧ copiesAgree t ∧
      t.ev.faultLatch = s.ev.faultLatch ∧ t.ev.health = (if s.ev.faultLatch then s.ev.health else !s.ev.health) ∧
      t.vote.record = VoteRecord.cleared ∧ t.vote.skewReported = s.vote.skewReported ∧
      (let after (a : Option (Nat × Arrival)) (x : Peer) : Peer := match a with
        | some (v, how) => { x with status := if v = r.snapshot then .agree else .dissent, arrival := some how }
        | none => { x with status := .absent, arrival := none }
      t.vote.peer0 = after r.arrival0 s.vote.peer0 ∧ t.vote.peer1 = after r.arrival1 s.vote.peer1) ∧
      (let both := holds r.arrival0 && holds r.arrival1
      let voted := evAfter (if both then .voteUnanimous else .vote) 1
        (if both then .none else setOfPeers s.mgmt.params.channelId (!holds r.arrival0) (!holds r.arrival1)) (wordOf r.snapshot)
        { s with csr := { t.csr with counter := r.cycle }, ev := { s.ev with health := t.ev.health } }
      t.ev = if s.csr.state = .sealed then
          evAfter .stateChange 5 (.channelState .sealed) (wordOf r.cycle.toNat) { s with csr := t.csr, ev := voted }
        else voted)) ∧
  (∀ (s : State) (detail : Nat) (v : Word), s.arb.grant = none → s.vote.record.isOpen = true → s.vote.record.window ≠ none →
    recordUpset s = some (detail, v) →
    ∃ t, exec .voteWindowExpiry s = .next (settle t) ∧
      t.csr.state = .halted ∧ t.csr.counter = s.csr.committed ∧ t.csr.committed = s.csr.committed ∧ t.csr.c = s.csr.c ∧
      copiesAgree t ∧ t.ev.faultLatch = true ∧ t.ev.health = s.ev.health ∧ t.sig.valid = false ∧ t.sig.s = s.sig.s ∧
      t.sig.walk = .idle ∧ t.jnl = { JournalUnit.reset with rb := { s.jnl.rb with rolling := false } } ∧
      t.vote.record = VoteRecord.cleared ∧ t.vote.peer0.slot = none ∧ t.vote.peer1.slot = none ∧
      t.vote.peer0.status = s.vote.peer0.status ∧ t.vote.peer0.arrival = s.vote.peer0.arrival ∧
      t.vote.peer1.status = s.vote.peer1.status ∧ t.vote.peer1.arrival = s.vote.peer1.arrival ∧
      t.repair = { dc := [], dv := [], dO := [], r := [], dcValid := false, role := .none } ∧
      t.mem = s.mem ∧ t.port = s.port ∧ t.regions = s.regions ∧ t.spare = s.spare ∧ t.scrub = s.scrub ∧ t.mgmt = s.mgmt ∧
      (s.repair.role = .none → s.sig.walk ≠ .seal → s.csr.state ≠ .halted →
        t.ev = evAfter .stateChange 17 (.channelState s.csr.state) (wordOf s.csr.committed.toNat) { s with
          csr := t.csr, ev := { evAfter .internalFault detail .none v s with faultLatch := true } }))

/-- At the window's expiry. LOCAL-DISSENT: both peers sent one value below p that is not this channel's. NO-MAJORITY: no
value is held by two counted channels, whichever SIGNs have come, two equal values of p or above among them. With an intact
empty journal and S valid and equal to C: after LOCAL-DISSENT, with no repair role, the channel goes to OUT, its rollback is
COMPLETE at once, and it asks the first eligible peer for a repair from its committed cycle; latch, HEALTH, C, the committed
cycle and memory stay. After NO-MAJORITY, with no source role, the latch is set, the counter falls back to the committed
cycle, memory, S and C stay and HEALTH does not move. Unless both peers are reported VOTING with committed cycles ahead of
this channel's the channel then holds; when both are, the watch that begins at entry to HELD finds a LOCAL-DISSENT, and the
channel goes on to OUT as after one, its peers marked AGREE. With entries in an intact journal the rollback starts ROLLING
with the tags of both segments: after LOCAL-DISSENT in OUT, the joiner preparing without a result yet; after NO-MAJORITY in
the state that it had. With an overflowed segment it ends BROKEN at once: in OUT with the preparation walk started, or in
HALTED. The VOTE record comes before the STATE-CHANGE record in each. That the voting segment stays present while the
rollback runs is the model's choice (log entry 35). The watch kept in HELD, at a BEAT: unless both peers are so ahead, the
BEAT is its sender's report only; when they are, a record disagreement halts the channel, and otherwise it goes to OUT as
after a LOCAL-DISSENT, its peers marked AGREE, a source role aborted with SOURCE-STATE. A source role held at either outcome
is aborted so within it: ABORT goes to the joiner, R is cleared, its relation is none, REPAIR comes before the
VOTE record, at a LOCAL-DISSENT with the state OUT in it, and all else is as with no role held (07 section 7.6, 06 sections
6.7 and 6.9, 05 section 5.4.1, 09 section 9.9). -/
def Obligations.VotesWithoutAgreement : Prop :=
  (∀ (s : State) (v : Nat) (h0 h1 : Arrival), v < 2 ^ 61 - 1 → s.arb.grant = none → s.vote.record.isOpen = true → s.vote.record.window ≠ none → copiesAgree s →
     s.vote.record.arrival0 = some (v, h0) → s.vote.record.arrival1 = some (v, h1) → v ≠ s.vote.record.snapshot →
     s.repair.role = .none → s.jnl.votingCount = 0 → s.jnl.openCount = 0 → s.jnl.votingOver = false →
     s.jnl.openOver = false → s.sig.valid = true → s.sig.s = s.csr.c →
     ∃ t j, exec .voteWindowExpiry s = .next (settle t) ∧
       t.csr.state = .out ∧ t.csr.counter = s.csr.committed ∧ t.csr.committed = s.csr.committed ∧ t.csr.c = s.csr.c ∧
       copiesAgree t ∧ t.ev.faultLatch = s.ev.faultLatch ∧ t.ev.health = s.ev.health ∧
       t.sig = s.sig ∧ t.mem = s.mem ∧ t.port = s.port ∧ t.vote.record = VoteRecord.cleared ∧
       t.vote.peer0.slot = none ∧ t.vote.peer1.slot = none ∧
       t.vote.peer0.status = .agree ∧ t.vote.peer1.status = .agree ∧
       t.jnl.entries = 0 ∧ t.jnl.rb.rolling = false ∧ t.jnl.rb.reason = some .dissent ∧
       t.repair.role = .joiner j ∧ j.base = some s.csr.committed ∧ j.need = [] ∧
       (∀ x y, otherIds s.mgmt.params.channelId = some (x, y) → eligible s.vote.peer0 = true →
         j.phase = .requesting ∧ j.candidate = some x ∧ j.replyTimer = some s.mgmt.params.voteWindow ∧
         t.vote.peer0.relation = some .joinerOf) ∧
       (0 < s.mgmt.params.rejoinRetries →
         let out := { s.csr with state := .out, stateInv := ~~~ (7 : BitVec 8) }
         let back := { out with counter := s.csr.committed, counterInv := ~~~ s.csr.committed }
         t.csr = back ∧ t.ev = evAfter .stateChange 6 (.channelState s.csr.state) (wordOf s.csr.committed.toNat) { s with
           csr := back
           ev := evAfter .vote 2 (.peers false false false) (wordOf s.vote.record.snapshot)
             { s with csr := { out with counter := s.vote.record.cycle } } })) ∧
  (∀ s : State, s.arb.grant = none → s.vote.record.isOpen = true → s.vote.record.window ≠ none → copiesAgree s →
     noMajorityIn s.vote.record →
     (∀ r, s.repair.role ≠ .source r) → s.jnl.votingCount = 0 → s.jnl.openCount = 0 → s.jnl.votingOver = false →
     s.jnl.openOver = false → s.sig.valid = true → s.sig.s = s.csr.c →
     let r := s.vote.record
     let after (a : Option (Nat × Arrival)) (x : Peer) : Peer := match a with
       | some (_, how) => { x with status := .dissent, arrival := some how, slot := none }
       | none => { x with status := .absent, arrival := none, slot := none }
     (¬ bothAhead s →
       ∃ t, exec .voteWindowExpiry s = .next (settle t) ∧
         t.csr.state = .held ∧ t.csr.counter = s.csr.committed ∧ t.csr.committed = s.csr.committed ∧ t.csr.c = s.csr.c ∧
         copiesAgree t ∧ t.ev.faultLatch = true ∧ t.ev.health = s.ev.health ∧
         t.sig = s.sig ∧ t.mem = s.mem ∧ t.repair = s.repair ∧ t.port = s.port ∧ t.vote.record = VoteRecord.cleared ∧
         t.vote.peer0 = after r.arrival0 s.vote.peer0 ∧ t.vote.peer1 = after r.arrival1 s.vote.peer1 ∧
         t.jnl.entries = 0 ∧ t.jnl.rb.rolling = false ∧ t.jnl.rb.reason = some .noMajority ∧
         t.ev = evAfter .stateChange 7 (.channelState s.csr.state) (wordOf s.csr.committed.toNat) { s with
           csr := t.csr
           ev := evAfter .vote 3 (setOfPeers s.mgmt.params.channelId true true) (wordOf r.snapshot)
             { s with csr.counter := r.cycle, ev.faultLatch := true } }) ∧
     (bothAhead s → ∃ t j, exec .voteWindowExpiry s = .next (settle t) ∧
       t.csr.state = .out ∧ t.csr.counter = s.csr.committed ∧ t.csr.committed = s.csr.committed ∧ t.csr.c = s.csr.c ∧
       copiesAgree t ∧ t.ev.faultLatch = true ∧ t.ev.health = s.ev.health ∧ t.sig = s.sig ∧ t.mem = s.mem ∧
       t.vote.record = VoteRecord.cleared ∧ t.vote.peer0.status = .agree ∧ t.vote.peer1.status = .agree ∧
       t.vote.peer0.arrival = none ∧ t.vote.peer1.arrival = none ∧ t.jnl.entries = 0 ∧ t.jnl.rb.rolling = false ∧
       t.jnl.rb.reason = some .dissent ∧ t.repair.role = .joiner j ∧ j.base = some s.csr.committed ∧ j.need = [])) ∧
  (∀ (l : LinkId) (raw : List Byte) (s : State) (f : Frame) (st : Option ChannelState) (k n : Cycle) (second : Bool),
     s.arb.grant = none → accepts l raw f s → f.payload = .beat st k n → s.csr.state = .held →
     peerSlot s f.sender = some second →
     let other := getPeer s (!second)
     let ahead (c : Cycle) : Prop := 1 ≤ (c - s.csr.committed).toNat ∧ (c - s.csr.committed).toNat < 2 ^ 31
     let both := st = some .voting ∧ ahead n ∧ other.state = some .voting ∧ ahead other.committed
     (¬ both → exec (.beatReceive l raw) s = .next (settle (reported f.sender st k n (silenceRestarted l s)))) ∧
     (both → ¬ copiesAgree s → ∃ t, exec (.beatReceive l raw) s = .next (settle t) ∧ t.csr.state = .halted ∧
       t.csr.committed = s.csr.committed ∧ t.csr.c = s.csr.c ∧ copiesAgree t ∧ t.ev.faultLatch = true ∧ t.mem = s.mem) ∧
     (both → copiesAgree s → s.jnl.votingCount = 0 → s.jnl.openCount = 0 → s.jnl.votingOver = false →
       s.jnl.openOver = false → s.sig.valid = true → s.sig.s = s.csr.c →
       ∃ t j, exec (.beatReceive l raw) s = .next (settle t) ∧
         t.csr.state = .out ∧ t.csr.counter = s.csr.committed ∧ t.csr.committed = s.csr.committed ∧ t.csr.c = s.csr.c ∧
         copiesAgree t ∧ t.ev.faultLatch = s.ev.faultLatch ∧ t.ev.health = s.ev.health ∧ t.sig = s.sig ∧ t.mem = s.mem ∧
         t.vote.peer0.status = .agree ∧ t.vote.peer1.status = .agree ∧ t.vote.peer0.arrival = none ∧
         t.vote.peer1.arrival = none ∧ t.jnl.entries = 0 ∧ t.jnl.rb.rolling = false ∧ t.jnl.rb.reason = some .dissent ∧
         t.repair.role = .joiner j ∧ j.base = some s.csr.committed ∧ j.need = [] ∧
         (∀ r me, s.repair.role = .source r → s.mgmt.params.channelId = some me → (getLink s r.link).status = .up →
           ownFrame me (.abort .sourceState) ∈ (match r.link with
             | .link1 => t.out.tx1.drop s.out.tx1.length
             | .link2 => t.out.tx2.drop s.out.tx2.length)))) ∧
  (∀ s : State, s.arb.grant = none → s.vote.record.isOpen = true → s.vote.record.window ≠ none → copiesAgree s →
     (∀ r, s.repair.role ≠ .source r) →
     let r := s.vote.record
     let rolling (why : RollbackReason) : RollbackRecord :=
       { rolling := true, reason := some why, validAtStart := s.sig.valid, tagVoting := s.csr.counter.setWidth 16
         tagOpen := (s.csr.counter + 1).setWidth 16, undone := 0 }
     let out := { s.csr with state := .out, stateInv := ~~~ (7 : BitVec 8) }
     let heldTo (t : State) : Prop := t.mem = s.mem ∧ t.sig = s.sig ∧ t.port = s.port ∧ t.regions = s.regions ∧
       t.vote.record = VoteRecord.cleared ∧ t.vote.peer0.slot = none ∧ t.vote.peer1.slot = none
     (s.jnl.votingOver = false → s.jnl.openOver = false → 1 ≤ s.jnl.votingCount + s.jnl.openCount →
       (noMajorityIn r → ∃ t, exec .voteWindowExpiry s = .next (settle t) ∧ heldTo t ∧
         t.csr = { s.csr with counter := s.csr.committed, counterInv := ~~~ s.csr.committed } ∧
         t.jnl = { s.jnl with rb := rolling .noMajority } ∧ t.repair = s.repair ∧
         t.ev = evAfter .vote 3 (setOfPeers s.mgmt.params.channelId true true) (wordOf r.snapshot)
           { s with csr.counter := r.cycle, ev.faultLatch := true }) ∧
       (∀ v h0 h1, v < 2 ^ 61 - 1 → r.arrival0 = some (v, h0) → r.arrival1 = some (v, h1) → v ≠ r.snapshot →
         ∃ t j, exec .voteWindowExpiry s = .next (settle t) ∧ heldTo t ∧ t.csr = out ∧
           t.jnl = { s.jnl with rb := rolling .dissent } ∧ t.repair = { s.repair with role := .joiner j } ∧
           j.phase = .preparing ∧ j.result = none ∧ j.forcedFull = false ∧ j.need = [] ∧
           t.ev = evAfter .stateChange 6 (.channelState s.csr.state) (wordOf s.csr.committed.toNat) { s with
             csr := out
             ev := evAfter .vote 2 (.peers false false false) (wordOf r.snapshot)
               { s with csr := { out with counter := r.cycle } } })) ∧
     (s.jnl.votingOver = true ∨ s.jnl.openOver = true →
       (noMajorityIn r → ∃ t, exec .voteWindowExpiry s = .next (settle t) ∧ t.csr.state = .halted ∧
         t.csr.counter = s.csr.committed ∧ t.csr.committed = s.csr.committed ∧ copiesAgree t ∧ t.sig.valid = false ∧
         t.jnl.entries = 0 ∧ t.jnl.rb.rolling = false ∧ t.jnl.rb.undone = 0 ∧ t.mem = s.mem ∧ t.ev.faultLatch = true) ∧
       (∀ v h0 h1, v < 2 ^ 61 - 1 → r.arrival0 = some (v, h0) → r.arrival1 = some (v, h1) → v ≠ r.snapshot →
         ∃ t j, exec .voteWindowExpiry s = .next (settle t) ∧ t.csr.state = .out ∧ t.csr.counter = s.csr.committed ∧
           t.jnl.entries = 0 ∧ t.jnl.rb.rolling = false ∧ t.mem = s.mem ∧ t.repair.role = .joiner j ∧
           j.phase = .preparing ∧ j.result = some .broken ∧
           t.sig = { s.sig with
             valid := false, walk := .preparation, cursor := 0, acc := 0, poisoned := [], overflow := false }))) ∧
  (∀ (s : State) (r : SourceRole) (me : Identity), s.arb.grant = none → s.vote.record.isOpen = true →
     s.vote.record.window ≠ none → copiesAgree s → s.repair.role = .source r → s.mgmt.params.channelId = some me →
     (getLink s r.link).status = .up →
     let parted (csr : ChannelRecord) : State :=
       { setRelation r.joiner none (sentUp r.link (ownFrame me (.abort .sourceState)) s) with
         repair := { s.repair with role := .none, r := [] }
         ev := evAfter .repair 9 (.peer r.joiner) (wordOf r.linesSent) { s with csr := csr } }
     let asAfter (u : State) : Prop := exec .voteWindowExpiry s = exec .voteWindowExpiry u ∧
       ∃ t, exec .voteWindowExpiry s = .next (settle t) ∧ framesOf u r.link <+: framesOf t r.link ∧ t.repair.r = [] ∧
         ∀ r1, t.repair.role ≠ .source r1
     (∀ v h0 h1, v < 2 ^ 61 - 1 → s.vote.record.arrival0 = some (v, h0) → s.vote.record.arrival1 = some (v, h1) →
       v ≠ s.vote.record.snapshot → asAfter (parted { s.csr with state := .out, stateInv := ~~~ (7 : BitVec 8) })) ∧
     (noMajorityIn s.vote.record → asAfter (parted s.csr)))

/-! ### Check coding, the engines, line sparing, the signature and the journal (chapters 2 to 5) -/

/-- A read of a logical word that decodes CORRECTED delivers the value, writes it back with good check bits where it was
read, counts it in its region and passes the line to the suspect table, where a held line's count rises to at most 15 and its
entry becomes the most recent, spare-pending when the count reaches RETIRE-THRESHOLD; no signature, journal or map changes.
One that decodes UNCORRECTABLE is counted and reported with its requester, word address and raw data, and makes S invalid
when the word is vital; the word stays as stored and nothing else changes (02 sections 2.1.3 and 2.1.4, 03 section 3.1.2). -/
def Obligations.WordsReadOutsideCleanAreReported : Prop :=
  (∀ (by_ : ReadBy) (a : Nat) (v : Word) (s : State) (i : Nat) (e : RegionEntry) (x : Suspect),
     decodeStored (storedAt s a) a = .corrected v → regionOf s (a / 256) = some (i, e) →
     findSuspect s.spare.suspects (a / 256) = some x →
     let n := min (max x.count 15) (x.count + 1)
     let crossed := decide (x.count < s.mgmt.params.retireThreshold ∧ s.mgmt.params.retireThreshold ≤ n) && !x.pending
     let r := readWord by_ a s
     r.1 = .corrected v ∧
     r.2 = { s with
       mem := s.mem.write (readPlace s a) { value := v, encodedAt := some a, flips := 0 }
       counters.corrected := s.counters.corrected.set i (satSucc (s.counters.corrected.getD i 0))
       spare.suspects := s.spare.suspects.map (Option.map (fun y =>
         let y1 := if y.recency < x.recency then { y with recency := y.recency + 1 } else y
         if y.line = a / 256 then { y1 with count := n, recency := 0, pending := y.pending || crossed } else y1))
       ev := if crossed then evAfter .lineSuspect 2 (.line (a / 256)) (wordOf n) s else s.ev }) ∧
  (∀ (by_ : ReadBy) (a : Nat) (raw : Word) (s : State), decodeStored (storedAt s a) a = .uncorrectable raw →
     readWord by_ a s = (.uncorrectable raw, { s with
       counters.uncorrectable := satSucc s.counters.uncorrectable
       sig.valid := s.sig.valid && decide (classOf s (a / 256) ≠ some .vital)
       ev := evAfter .uncorrectable by_.code (.word a) raw s }))

/-- R44, at a read that decodes CORRECTED in a region: a line that no slot holds enters the lowest empty slot; with none
empty it takes the slot of the entry with spare-pending clear of the lowest count and, among those, the highest recency,
which is forgotten; with every entry spare-pending the table stays. LINE-SUSPECT, ENTERED is handed, and with
RETIRE-THRESHOLD at 1 the entry is spare-pending and THRESHOLD follows; the correction is counted and written back in every
case. -/
def Obligations.CorrectedErrorEntersANewLine : Prop :=
  ∀ (by_ : ReadBy) (a : Nat) (v : Word) (s : State) (i : Nat) (e : RegionEntry),
    decodeStored (storedAt s a) a = .corrected v → regionOf s (a / 256) = some (i, e) →
    (∀ y, some y ∈ s.spare.suspects → y.line ≠ a / 256 ∧ y.recency ≤ 15) →
    let line := a / 256
    let pending := decide (s.mgmt.params.retireThreshold = 1)
    let x : Suspect := { line := line, count := 1, recency := 0, pending := pending }
    let entered := evAfter .lineSuspect 1 (.line line) 1 s
    let counted : State := { s with
      mem := s.mem.write (readPlace s a) { value := v, encodedAt := some a, flips := 0 }
      counters.corrected := s.counters.corrected.set i (satSucc (s.counters.corrected.getD i 0)) }
    let with_ (k : Nat) (down : Suspect → Bool) : State := { counted with
      spare.suspects := (s.spare.suspects.map (Option.map (fun y =>
        if down y then { y with recency := y.recency + 1 } else y))).set k (some x)
      ev := if pending then evAfter .lineSuspect 2 (.line line) 1 { s with ev := entered } else entered }
    (∀ k, s.spare.suspects[k]? = some none → (∀ m, m < k → s.spare.suspects[m]? ≠ some none) →
      readWord by_ a s = (.corrected v, with_ k (fun _ => true))) ∧
    (∀ k z, s.spare.suspects[k]? = some (some z) → none ∉ s.spare.suspects → z.pending = false →
      (∀ m y, s.spare.suspects[m]? = some (some y) → y.pending = false →
        m = k ∨ z.count < y.count ∨ (z.count = y.count ∧ y.recency < z.recency)) →
      readWord by_ a s = (.corrected v, with_ k (fun y => decide (y.recency < z.recency)))) ∧
    ((∀ y ∈ s.spare.suspects, ∃ z, y = some z ∧ z.pending = true) → readWord by_ a s = (.corrected v, counted))

/-- The scrub period sets the allowance to SCRUB-RATE. A scrub step on a CLEAN word spends one unit of allowance at word 0
and moves the cursor to the next word, to the next covered line after word 255, and after the last covered line completes the
pass: the pass count rises by 1, every suspect count falls by 1, an entry that would reach 0 leaves unless it is
spare-pending, which stays at 1, the recency order of the rest stays without gaps, and SCRUB-PASS is handed. A step on a
CORRECTED word corrects it and moves the cursor likewise. Covered are the lines of the valid VITAL, JOURNAL and EVENTS entries
of the committed table and of its valid PLAIN and FIXED entries with the scrub flag set. The word a step reads is that of the
cursor, or word 0 of the lowest covered line above it where the cursor's line is not covered; that the cursor itself moves
there only within that step is the model's choice (log entry 56). With no allowance left no step begins a line, while a line
that has begun goes on; none is requested in UNCONFIGURED, nor while a proof test or an initialise runs (01 section 1.1.1, 02
sections 2.1.3 and 2.3.2, 03 section 3.1.4). -/
def Obligations.ScrubWalkReadsTheCoveredLines : Prop :=
  (∀ s : State, exec .scrubPeriodExpiry s = .next { s with scrub.allowance := s.mgmt.params.scrubRate }) ∧
  (∀ (s : State) (l w : Nat) (v : Word), runs .scrub s → scrubPlace s = some (l, w) →
    decodeStored (storedAt s (l * 256 + w)) (l * 256 + w) = .clean v →
    let left := if w = 0 then s.scrub.allowance - 1 else s.scrub.allowance
    let stays (e : Suspect) : Bool := decide (1 < e.count) || e.pending
    (w < 255 → exec .scrubStep s = .next (settle { s with
      arb.grant := none
      scrub := { s.scrub with line := l, word := w + 1, allowance := left } })) ∧
    (255 ≤ w → ∀ m, nextCovered s.regions.committed (l + 1) = some m → exec .scrubStep s = .next (settle { s with
      arb.grant := none
      scrub := { s.scrub with line := m, word := 0, allowance := left } })) ∧
    (255 ≤ w → nextCovered s.regions.committed (l + 1) = none →
      ∀ m, nextCovered s.regions.committed 0 = some m → exec .scrubStep s = .next (settle { s with
        arb.grant := none
        scrub := { s.scrub with line := m, word := 0, allowance := left, passCount := s.scrub.passCount + 1 }
        spare.suspects := s.spare.suspects.map (fun y => match y with
          | none => none
          | some e => if stays e then
              some { e with
                count := max 1 (e.count - 1)
                recency := s.spare.suspects.countP (fun z => match z with
                  | some x => stays x && decide (x.recency < e.recency)
                  | none => false) }
            else none)
        ev := evAfter .scrubPass 0 .none (wordOf (s.scrub.passCount + 1).toNat) s }))) ∧
  (∀ (s : State) (l w : Nat) (v : Word), runs .scrub s → scrubPlace s = some (l, w) → w < 255 →
    decodeStored (storedAt s (l * 256 + w)) (l * 256 + w) = .corrected v →
    exec .scrubStep s = .next (settle { met .scrub [(l * 256 + w, .corrected v)] s with
      arb.grant := none
      scrub := { s.scrub with
        line := l, word := w + 1, allowance := if w = 0 then s.scrub.allowance - 1 else s.scrub.allowance } })) ∧
  (∀ s : State,
    let covered (l : Nat) : Prop := ∃ e ∈ s.regions.committed, e.valid = true ∧ e.base ≤ l ∧ l < e.base + e.count ∧
      (e.cls = .vital ∨ e.cls = .journal ∨ e.cls = .events ∨ e.scrub = true)
    let paused : Prop := s.csr.state = .unconfigured ∨ s.scrub.proof.status = .running ∨ s.scrub.init.status = .running
    (∀ l m, nextCovered s.regions.committed l = some m ↔ covered m ∧ l ≤ m ∧ ∀ n, l ≤ n → n < m → ¬ covered n) ∧
    (∀ l w, scrubPlace s = some (l, w) ↔ covered l ∧ s.scrub.line ≤ l ∧ (∀ n, s.scrub.line ≤ n → n < l → ¬ covered n) ∧
      w = (if l = s.scrub.line then s.scrub.word else 0)) ∧
    (∀ l w, scrubPlace s = some (l, w) → (waits .scrub s = true ↔ ¬ paused ∧ (w = 0 → 0 < s.scrub.allowance))) ∧
    (∀ l, scrubPlace s = some (l, 0) → s.scrub.allowance = 0 → s.arb.grant ≠ some .scrub →
      exec .scrubStep s = .next (settle s)) ∧
    (paused → s.arb.grant ≠ some .scrub → exec .scrubStep s = .next (settle s)))

/-- A scrub step that meets an uncorrectable vital word in SEALED, VOTING or HELD, with an intact empty journal, withdraws
the channel when its grant ends: OUT, the latch set, S invalid, an open vote cancelled, the counter at the committed cycle,
and the preparation walk started; the word stays as stored and HEALTH does not move. With no repair role that is all; a
source role is aborted with SOURCE-FAULT, its ABORT sent and its REPAIR record behind the STATE-CHANGE record. In RECEIVING
or CLOSING the joiner's role ends with JOINER-FAULT, its ABORT goes to the source, and the channel is back in OUT with the
base lost and the preparation walk started (02 section 2.1.4, 06 section 6.6, 09 sections 9.3, 9.8 and 9.9). That this REPAIR
record comes before the STATE-CHANGE record and carries RECEIVING is the model's choice (log entry 43). In OUT, with step 3 of
preparation past, in REQUESTING, RETRY-WAIT or GAVE-UP, preparation goes back to that step: an outstanding REQUEST is
abandoned, its relation none, the base is none for good, the need list is empty, S is invalid, and the preparation walk
starts (09 section 9.3). -/
def Obligations.UncorrectableVitalWordWithdrawsTheChannel : Prop :=
  (∀ (s : State) (l w : Nat) (raw : Word), runs .scrub s → scrubPlace s = some (l, w) →
     decodeStored (storedAt s (l * 256 + w)) (l * 256 + w) = .uncorrectable raw → classOf s l = some .vital → w < 256 →
     s.csr.state = .sealed ∨ s.csr.state = .voting ∨ s.csr.state = .held → s.repair.role = .none → s.jnl.rb.rolling = false →
     s.jnl.votingCount = 0 → s.jnl.openCount = 0 → s.jnl.votingOver = false → s.jnl.openOver = false →
     ∃ t j, exec .scrubStep s = .next (settle t) ∧
       t.csr.state = .out ∧ t.csr.counter = s.csr.committed ∧ t.csr.committed = s.csr.committed ∧ t.csr.c = s.csr.c ∧
       t.ev.faultLatch = true ∧ t.ev.health = s.ev.health ∧
       t.sig = { s.sig with valid := false, walk := .preparation, cursor := 0, acc := 0, poisoned := [], overflow := false } ∧
       t.vote.record = VoteRecord.cleared ∧ t.vote.peer0.slot = none ∧ t.vote.peer1.slot = none ∧
       t.jnl.entries = 0 ∧ t.jnl.rb.reason = some .withdrawal ∧
       t.repair.role = .joiner j ∧ j.phase = .preparing ∧ j.result = some .unsigned ∧ j.forcedFull = false ∧
       t.mem = s.mem ∧ t.port = s.port ∧ t.regions = s.regions ∧ t.mgmt = s.mgmt) ∧
  (∀ (s : State) (l w : Nat) (raw : Word) (me : Identity), runs .scrub s → scrubPlace s = some (l, w) →
     decodeStored (storedAt s (l * 256 + w)) (l * 256 + w) = .uncorrectable raw → classOf s l = some .vital → w < 255 →
     s.mgmt.params.channelId = some me →
     let read : State := { s with
       arb.grant := none
       counters.uncorrectable := satSucc s.counters.uncorrectable
       ev := evAfter .uncorrectable 2 (.word (l * 256 + w)) raw s
       scrub := { s.scrub with
         line := l, word := w + 1, allowance := if w = 0 then s.scrub.allowance - 1 else s.scrub.allowance }
       sig.valid := false }
     (∀ r, s.csr.state = .voting ∨ s.csr.state = .held → s.repair.role = .source r → (getLink s r.link).status = .up →
       s.jnl.rb.rolling = false → s.jnl.votingCount = 0 → s.jnl.openCount = 0 → s.jnl.votingOver = false →
       s.jnl.openOver = false → ∃ t j, exec .scrubStep s = .next (settle t) ∧
         let out := { s.csr with state := .out, stateInv := ~~~ (7 : BitVec 8) }
         t.csr = { out with counter := s.csr.committed, counterInv := ~~~ s.csr.committed } ∧
         t.mem = s.mem ∧ t.scrub = read.scrub ∧ t.vote.record = VoteRecord.cleared ∧ t.jnl.entries = 0 ∧
         t.sig = { s.sig with valid := false, walk := .preparation, cursor := 0, acc := 0, poisoned := [], overflow := false } ∧
         t.repair = { s.repair with role := .joiner j, r := [] } ∧ j.phase = .preparing ∧ j.result = some .unsigned ∧
         framesOf t r.link = framesOf s r.link ++ [ownFrame me (.abort .sourceFault)] ∧
         t.ev = evAfter .repair 4 (.peer r.joiner) (wordOf r.linesSent) { s with
           csr := out
           ev := evAfter .stateChange 8 (.channelState s.csr.state) (wordOf s.csr.committed.toNat)
             { s with csr := out, ev := { read.ev with faultLatch := true } } }) ∧
     (∀ j x k, s.csr.state = .receiving → s.repair.role = .joiner j → j.phase = .receiving ∨ j.phase = .closing →
       j.source = some x → j.link = some k → (getLink s k).status = .up →
       ∃ t, exec .scrubStep s = .next (settle t) ∧
         ReturnedToOut read t j x k 5 15 [ownFrame me (.abort .joinerFault)]) ∧
     (∀ j, s.csr.state = .out → s.repair.role = .joiner j →
       j.phase = .requesting ∨ j.phase = .retryWait ∨ j.phase = .gaveUp → s.sig.walk ≠ .preparation →
       exec .scrubStep s = .next (settle { (match j.candidate with
           | some i => setRelation i none read
           | none => read) with
         sig := { s.sig with valid := false, walk := .preparation, cursor := 0, acc := 0, poisoned := [], overflow := false }
         repair.role := .joiner { j with
           phase := .preparing, base := none, baseLost := true, need := [], candidate := none, tried := []
           replyTimer := none, retryTimer := none } })))

/-- A proof-test step writes the pattern of its pass, pattern A with the word address in both halves and B its inverse, and
moves on; at the range's end it turns from write to read, from pass A to pass B, and with the loop flag from pass B back to
A, counting the loop. A read that is CLEAN and equal moves on. Any other CLEAN value, a CORRECTED word and an UNCORRECTABLE
word end the test FAILED with the address, the values and the outcome, the last two with what every such read does. The last
read of pass B without the loop flag ends the test PASSED with its record, whose value is the loops completed as they stand,
0 without the flag (log entry 16). An initialise step writes zero and counts it; after the last word INIT-DONE is handed and
the record is IDLE (02 sections 2.4.2 and 2.5). Both go on in HALTED and write VITAL words there too: the model's reading
(log entry 37; 06 section 6.9). That the pass turns within the read that ends a pass, and not at the next write, is the model's
choice (log entry 55). -/
def Obligations.EngineStepsWriteAndCheckTheirRange : Prop :=
  (∀ s : State, runs .proof s →
    let p := s.scrub.proof
    let a := p.first * 256 + p.position
    let half := BitVec.ofNat 32 a
    let v : Word := match p.pass with
      | .a => half ++ half
      | .b => ~~~ (half ++ half)
    (p.phase = .write → p.position + 1 < p.count * 256 → exec .proofStep s = .next { s with
      arb.grant := none
      mem := (writeWord a v s).mem
      scrub.proof.position := p.position + 1 }) ∧
    (p.phase = .read → decodeStored (storedAt s a) a = .clean v → p.position + 1 < p.count * 256 →
      exec .proofStep s = .next { s with arb.grant := none, scrub.proof.position := p.position + 1 }) ∧
    (p.position + 1 < p.count * 256 ∨ p.phase = .write ∨ p.pass = .a ∨ p.loop = true →
      p.phase = .write ∨ decodeStored (storedAt s a) a = .clean v →
      exec .proofStep s = .next { s with
        arb.grant := none
        mem := if p.phase = .write then (writeWord a v s).mem else s.mem
        scrub.proof := if p.position + 1 < p.count * 256 then { p with position := p.position + 1 }
          else match p.phase, p.pass with
            | .write, _ => { p with phase := .read, position := 0 }
            | .read, .a => { p with pass := .b, phase := .write, position := 0 }
            | .read, .b => { p with loops := satSucc p.loops, pass := .a, phase := .write, position := 0 } }) ∧
    (∀ found i e, p.phase = .read → decodeStored (storedAt s a) a = .corrected found → regionOf s (a / 256) = some (i, e) →
      ∃ t, exec .proofStep s = .next t ∧
        t.mem = s.mem.write (readPlace s a) { value := found, encodedAt := some a, flips := 0 } ∧
        t.counters.corrected = s.counters.corrected.set i (satSucc (s.counters.corrected.getD i 0)) ∧
        t.scrub = { s.scrub with
          proof := { p with status := .failed, faultAddr := a, expected := v, found := found, outcome := .corrected } } ∧
        t.csr = s.csr ∧ t.sig = s.sig ∧ t.jnl = s.jnl ∧ t.port = s.port ∧ t.repair = s.repair) ∧
    (∀ raw, p.phase = .read → decodeStored (storedAt s a) a = .uncorrectable raw →
      s.csr.state = .configured ∨ s.csr.state = .halted → classOf s (a / 256) ≠ some .journal →
      let read : State := { s with
        ev := evAfter .uncorrectable 3 (.word a) raw s
        counters.uncorrectable := satSucc s.counters.uncorrectable }
      exec .proofStep s = .next { read with
        arb.grant := none
        sig.valid := s.sig.valid && decide (classOf s (a / 256) ≠ some .vital)
        scrub.proof := { p with status := .failed, faultAddr := a, expected := v, found := raw, outcome := .uncorrectable }
        ev := evAfter .proofResult 2 (.line p.first) (wordOf a) read }) ∧
    (∀ found, p.phase = .read → decodeStored (storedAt s a) a = .clean found → found ≠ v →
      exec .proofStep s = .next { s with
        arb.grant := none
        scrub.proof := { p with status := .failed, faultAddr := a, expected := v, found := found, outcome := .clean }
        ev := evAfter .proofResult 2 (.line p.first) (wordOf a) s }) ∧
    (p.phase = .read → p.pass = .b → p.loop = false → decodeStored (storedAt s a) a = .clean v →
      p.count * 256 ≤ p.position + 1 → exec .proofStep s = .next { s with
        arb.grant := none
        scrub.proof := { p with status := .passed }
        ev := evAfter .proofResult 1 (.line p.first) (wordOf p.loops) s })) ∧
  (∀ s : State, runs .init s →
    let p := s.scrub.init
    let a := p.first * 256 + p.written
    let m := (writeWord a 0 s).mem
    (p.written + 1 < p.count * 256 → exec .initStep s = .next { s with
      arb.grant := none, mem := m, scrub.init.written := p.written + 1 }) ∧
    (p.count * 256 ≤ p.written + 1 → exec .initStep s = .next { s with
      arb.grant := none, mem := m
      scrub.init := { p with status := .idle, written := p.written + 1 }
      ev := evAfter .initDone 1 (.line p.first) (wordOf (p.written + 1)) s }))

/-- The lowest spare-pending slot is served when the unit is idle: the lowest READY spare begins a copy from the line's
present place, a line that was served by a spare leaving that spare BAD; with none READY the lowest UNTESTED spare is tested;
with neither the entry stops being pending and exhaustion is reported once (03 sections 3.2.2, 3.2.4 and 3.3.1). That the
record of the operation notes the line it serves and keeps the fields that no rule writes is the model's choice (log entry
23). -/
def Obligations.SparePendingLineIsServed : Prop :=
  ∀ (s : State) (l : Nat), s.spare.op.kind = .idle → firstPending s.spare.suspects = some l →
    (∀ i, findRemap (fun e => decide (e = .ready)) s.spare.remap 0 = some i →
      exec .serveSparePending s = .next { s with
        spare.remap := (match activeSpare s l with
          | some t => s.spare.remap.set t .bad
          | none => s.spare.remap).set i (.copying l)
        spare.op := { s.spare.op with kind := .copying, spare := i, target := l, source := readLine s l, cursor := 0 } }) ∧
    (∀ i, findRemap (fun e => decide (e = .ready)) s.spare.remap 0 = none →
      findRemap (fun e => decide (e = .untested)) s.spare.remap 0 = some i →
      exec .serveSparePending s = .next { s with
        spare.op := { s.spare.op with kind := .testing, spare := i, pass := .a, phase := .write, word := 0, serving := l } }) ∧
    (findRemap (fun e => decide (e = .ready)) s.spare.remap 0 = none →
      findRemap (fun e => decide (e = .untested)) s.spare.remap 0 = none →
      exec .serveSparePending s = .next { s with
        spare := { s.spare with
          suspects := s.spare.suspects.map (Option.map (fun e => if e.line = l then { e with pending := false } else e))
          op := { s.spare.op with kind := .idle }, exhaustionReported := true }
        ev := if s.spare.exhaustionReported then s.ev
          else evAfter .sparesExhausted 0 (.line l) (wordOf (s.spare.remap.countP (fun e => decide (e = .bad)))) s })

/-- A spare-test step works on the spare's own physical words: it writes the pattern of its pass, and a CLEAN equal read
moves on; after word 255 it turns from write to read, and from pass A to pass B. An unequal read, a CORRECTED one and an
UNCORRECTABLE one make the spare BAD with SPARE-BAD and its detail, and, with none READY, the lowest UNTESTED spare is tested
next for the same line, or with none left the spares are exhausted, which is reported once. The last read of pass B makes it
READY, and the copy of the served line begins on it when no lower spare is READY, from the line's own place when no spare
serves it. A copy step stores a CLEAN or CORRECTED word in the spare with check bits for its logical address, the latter
written back and counted too, and an UNCORRECTABLE one as poison over its raw data, with what every such read does, a vital
one's withdrawal among them, and moves the cursor; after word 255 the spare is ACTIVE for the line, the line's suspect entry
is gone with the less recent ones a place up, and SPARE-DONE is handed (03 sections 3.2.3, 3.2.4, 3.3.2 and 3.3.3, 02
sections 2.1.3 and 2.1.4). That the record of the operation notes the line it serves and keeps its other fields when it is
idle is the model's choice (log entry 23). -/
def Obligations.SparesAreTestedAndCopiedInto : Prop :=
  (∀ s : State, runs .spareTest s →
     let o := s.spare.op
     let place := s.mgmt.params.memoryLines - 32 + o.spare
     let a := place * 256 + o.word
     let v := testPattern o.pass a
     (o.phase = .write → o.word < 255 → exec .spareTestStep s = .next { s with
       arb.grant := none
       mem := s.mem.write a { value := v, encodedAt := some a, flips := 0 }
       spare.op := { o with word := o.word + 1 } }) ∧
     (o.phase = .read → o.word < 255 → decodeStored (s.mem.read a) a = .clean v → exec .spareTestStep s = .next { s with
       arb.grant := none
       spare.op := { o with word := o.word + 1 } }) ∧
     (∀ found, o.phase = .read → decodeStored (s.mem.read a) a = .clean found → found ≠ v →
       ∃ t, exec .spareTestStep s = .next t ∧ t.mem = s.mem ∧ t.sig = s.sig ∧ t.csr = s.csr ∧
         (o.spare < s.spare.remap.length → t.spare.remap[o.spare]? = some .bad) ∧
         (∀ i, findRemap (fun e => decide (e = .untested)) (s.spare.remap.set o.spare .bad) 0 = some i →
           findRemap (fun e => decide (e = .ready)) (s.spare.remap.set o.spare .bad) 0 = none →
           t.ev = evAfter .spareBad 1 (.line place) (wordOf a) s ∧ t.spare.op.kind = .testing ∧ t.spare.op.spare = i ∧
             t.spare.op.serving = o.serving)) ∧
     (o.phase = .read → o.pass = .b → 255 ≤ o.word → decodeStored (s.mem.read a) a = .clean v →
       copyingSpare s o.serving = none → activeSpare s o.serving = none → findRemap (fun e => decide (e = .ready)) (s.spare.remap.set o.spare .ready) 0 = some o.spare →
       exec .spareTestStep s = .next { s with
         arb.grant := none
         spare.remap := s.spare.remap.set o.spare (.copying o.serving)
         spare.op := { o with kind := .copying, target := o.serving, source := o.serving, cursor := 0 } })) ∧
  (∀ (s : State) (v : Word), runs .copy s →
     let o := s.spare.op
     let a := o.target * 256 + o.cursor
     let place := s.mgmt.params.memoryLines - 32 + o.spare
     decodeStored (storedAt s a) a = .clean v →
     let m := s.mem.write (place * 256 + o.cursor) { value := v, encodedAt := some a, flips := 0 }
     (o.cursor < 255 → exec .copyStep s = .next (settle { s with
       arb.grant := none, mem := m, spare.op := { o with cursor := o.cursor + 1 } })) ∧
     (255 ≤ o.cursor → exec .copyStep s = .next (settle { s with
       arb.grant := none, mem := m
       spare := { s.spare with
         suspects := match findSuspect s.spare.suspects o.target with
           | none => s.spare.suspects
           | some e => s.spare.suspects.map (fun y => match y with
             | none => none
             | some x => if x.line = o.target then none
               else some (if e.recency < x.recency then { x with recency := x.recency - 1 } else x))
         remap := s.spare.remap.set o.spare (.active o.target)
         op := { o with kind := .idle, cursor := o.cursor + 1 } }
       ev := evAfter .spareDone (if o.source = o.target then 1 else 2) (.line o.target) (wordOf place) s }))) ∧
  ((∀ s : State, runs .spareTest s →
     let o := s.spare.op
     let place := s.mgmt.params.memoryLines - 32 + o.spare
     let a := place * 256 + o.word
     let v := testPattern o.pass a
     (o.phase = .write → 255 ≤ o.word → exec .spareTestStep s = .next { s with
       arb.grant := none
       mem := s.mem.write a { value := v, encodedAt := some a, flips := 0 }
       spare.op := { o with phase := .read, word := 0 } }) ∧
     (o.phase = .read → o.pass = .a → 255 ≤ o.word → decodeStored (s.mem.read a) a = .clean v →
       exec .spareTestStep s = .next { s with
         arb.grant := none
         spare.op := { o with pass := .b, phase := .write, word := 0 } }) ∧
     (∀ detail, o.phase = .read →
       (detail = 1 ∧ ∃ w, decodeStored (s.mem.read a) a = .clean w ∧ w ≠ v) ∨
         (detail = 2 ∧ ∃ w, decodeStored (s.mem.read a) a = .corrected w) ∨
         (detail = 3 ∧ ∃ w, decodeStored (s.mem.read a) a = .uncorrectable w) →
       let bad := s.spare.remap.set o.spare .bad
       let told := evAfter .spareBad detail (.line place) (wordOf a) s
       findRemap (fun e => decide (e = .ready)) bad 0 = none →
       (∀ i, findRemap (fun e => decide (e = .untested)) bad 0 = some i → exec .spareTestStep s = .next { s with
         arb.grant := none, ev := told, spare.remap := bad
         spare.op := { o with kind := .testing, spare := i, pass := .a, phase := .write, word := 0 } }) ∧
       (findRemap (fun e => decide (e = .untested)) bad 0 = none → exec .spareTestStep s = .next { s with
         arb.grant := none
         spare := { s.spare with
           suspects := s.spare.suspects.map (Option.map (fun e => if e.line = o.serving then { e with pending := false } else e))
           remap := bad, op := { o with kind := .idle }, exhaustionReported := true }
         ev := if s.spare.exhaustionReported then told
           else evAfter .sparesExhausted 0 (.line o.serving) (wordOf (bad.countP (fun e => decide (e = .bad))))
             { s with ev := told } }))) ∧
   (∀ s : State, runs .copy s →
     let o := s.spare.op
     let a := o.target * 256 + o.cursor
     let place := (s.mgmt.params.memoryLines - 32 + o.spare) * 256 + o.cursor
     o.cursor < 255 →
     (∀ raw, decodeStored (storedAt s a) a = .uncorrectable raw →
       let m := s.mem.write place { value := raw, encodedAt := none, flips := 0 }
       (classOf s o.target ≠ some .vital → classOf s o.target ≠ some .journal → exec .copyStep s = .next (settle { s with
         arb.grant := none, mem := m, spare.op := { o with cursor := o.cursor + 1 }
         counters.uncorrectable := satSucc s.counters.uncorrectable
         ev := evAfter .uncorrectable 4 (.word a) raw s })) ∧
       (classOf s o.target = some .vital → s.csr.state = .sealed ∨ s.csr.state = .voting ∨ s.csr.state = .held →
         ∃ t, exec .copyStep s = .next (settle t) ∧ t.mem = m ∧
           t.spare = { s.spare with op := { o with cursor := o.cursor + 1 } } ∧ t.csr.state = .out ∧
           t.ev.faultLatch = true ∧ t.counters.uncorrectable = satSucc s.counters.uncorrectable)) ∧
     (∀ v i e, decodeStored (storedAt s a) a = .corrected v → regionOf s o.target = some (i, e) →
       ∃ t, exec .copyStep s = .next (settle t) ∧
         t.mem = (s.mem.write (readPlace s a) { value := v, encodedAt := some a, flips := 0 }).write place
           { value := v, encodedAt := some a, flips := 0 } ∧
         t.spare.op = { o with cursor := o.cursor + 1 } ∧ t.spare.remap = s.spare.remap ∧
         t.counters = { s.counters with corrected := s.counters.corrected.set i (satSucc (s.counters.corrected.getD i 0)) } ∧
         t.csr = s.csr ∧ t.sig = s.sig ∧ t.jnl = s.jnl ∧ t.repair = s.repair)))

/-- R61: x and y are the remainders modulo p of the low half of v plus K1 × (a+1), and of the high half plus K2 × (a+1) + K3;
the hash is the remainder of x × y, a product below 2^122. It lies from 0 to p−1, is 0 when x or y is 0, and then changes no
sum. -/
def Obligations.WordHashIsTheProductOfTwoRemainders : Prop :=
  ∀ (k : Keys) (a : Nat) (v : Word), a < 2 ^ 25 →
    let p := 2 ^ 61 - 1
    let x := (v.toNat % 2 ^ 32 + k.k1 * (a + 1)) % p
    let y := (v.toNat / 2 ^ 32 + k.k2 * (a + 1) + k.k3) % p
    wordHash k a v = x * y % p ∧ x * y ≤ (p - 1) ^ 2 ∧ (p - 1) ^ 2 < 2 ^ 122 ∧ wordHash k a v ≤ p - 1 ∧
    (x = 0 ∨ y = 0 → wordHash k a v = 0 ∧ ∀ sum, sum < p → (sum + wordHash k a v) % p = sum ∧ (sum + (p - wordHash k a v)) % p = sum)

/-- The incremental formula keeps S the sum modulo p of the hashes of the vital words: for any list of distinct word
addresses, folding in one word's change takes the sum across the old values to the sum across the new ones (04 sections 4.2
to 4.4). -/
def Obligations.IncrementalUpdateKeepsTheSum : Prop :=
  ∀ (k : Keys) (addrs : List Nat) (f : Nat → Word) (a : Nat) (new : Word), addrs.Nodup → a ∈ addrs →
    foldChange k ((addrs.map (fun b => wordHash k b (f b))).sum % modulus) a (f a) new =
      (addrs.map (fun b => wordHash k b (if b = a then new else f b))).sum % modulus

/-- The vital ordinals (01 section 1.1.3): in a table whose valid entries share no line, the two directions of the mapping
are each other's inverse, the ordinals rise with the lines, and they are those below V. -/
def Obligations.VitalOrdinalsAreABijection : Prop :=
  ∀ t : List RegionEntry, t.Pairwise apart →
    (∀ l o, ordinalOf t l = some o → lineOf t o = some l ∧ o < vitalLines t) ∧
    (∀ l o, lineOf t o = some l → ordinalOf t l = some o) ∧
    (∀ l m o p, ordinalOf t l = some o → ordinalOf t m = some p → l < m → o < p) ∧
    (∀ o, o < vitalLines t → ∃ l, lineOf t o = some l) ∧
    (∀ o, vitalLines t ≤ o → lineOf t o = none)

/-- A rebuild step adds the hashes of the line of the cursor's ordinal to the accumulator and moves the cursor; the step of
the last ordinal of a seal walk completes the seal: S and C take the accumulator, S is valid, counter and committed cycle are
0, the maps and the journal are empty, and the channel is SEALED. A seal-walk step that meets one uncorrectable word aborts
the seal: the walk idle, CONFIGURED, and COMMAND-DONE, SEAL-ABORTED with the word's address. In the preparation walk such a
word is stored as zero, counted as zero and its ordinal listed; a scrub step that meets one at or above the cursor leaves the
walk alone, below the cursor it restarts the walk with the ordinal listed; the last step makes S valid, settles the base and
the need list by the rollback's result, and sends the first REQUEST (04 sections 4.8 to 4.10, 09 sections 9.3 and 9.4). -/
def Obligations.RebuildStepSumsOneLine : Prop :=
  (∀ (s : State) (l : Nat) (vs : List Word), runs .rebuild s → lineOf s.regions.committed s.sig.cursor = some l →
     vs.length = 256 → cleanAt s (l * 256) vs →
     let acc := (s.sig.acc + ((List.range 256).map (fun i => wordHash s.sig.committedKeys (l * 256 + i) (vs.getD i 0))).sum) % modulus
     (s.sig.cursor + 1 < numVital s → exec .rebuildStep s = .next { s with
       arb.grant := none, sig.acc := acc, sig.cursor := s.sig.cursor + 1 }) ∧
     (s.sig.walk = .seal → numVital s ≤ s.sig.cursor + 1 → ∃ t, exec .rebuildStep s = .next t ∧
       t = { s with
         arb.grant := none, csr := t.csr, ev := t.ev, vote := t.vote
         sig := { s.sig with s := acc, valid := true, walk := .idle, cursor := 0, acc := 0 }
         jnl := { JournalUnit.reset with rb := s.jnl.rb }
         repair.dc := [], repair.dv := [], repair.dO := [], repair.dcValid := false } ∧
       t.csr.state = .sealed ∧ t.csr.counter = 0 ∧ t.csr.committed = 0 ∧ t.csr.c = acc ∧ copiesAgree t ∧
       t.vote.record = s.vote.record ∧ t.vote.peer0.slot = none ∧ t.vote.peer1.slot = none ∧
       t.ev.faultLatch = s.ev.faultLatch ∧ t.ev.health = s.ev.health)) ∧
  (∀ (s : State) (l k : Nat) (raw : Word), runs .rebuild s → lineOf s.regions.committed s.sig.cursor = some l →
     s.sig.walk = .seal → s.csr.state = .sealing → k < 256 → classOf s l = some .vital →
     decodeStored (storedAt s (l * 256 + k)) (l * 256 + k) = .uncorrectable raw →
     (∀ i, i < 256 → i ≠ k → ∃ v, decodeStored (storedAt s (l * 256 + i)) (l * 256 + i) = .clean v) →
     let met : State := { s with
       arb.grant := none
       counters.uncorrectable := satSucc s.counters.uncorrectable
       ev := evAfter .uncorrectable 7 (.word (l * 256 + k)) raw s
       sig := { s.sig with valid := false, walk := .idle, cursor := 0, acc := 0 }
       csr := { s.csr with state := .configured, stateInv := ~~~ (2 : BitVec 8) } }
     exec .rebuildStep s = .next (hand .commandDone 2 (.command 9) (wordOf (l * 256 + k))
       (hand .stateChange 4 (.channelState .sealing) (wordOf s.csr.committed.toNat) met))) ∧
  ((∀ (s : State) (l k : Nat) (raw : Word) (vs : List Word), runs .rebuild s →
     lineOf s.regions.committed s.sig.cursor = some l → s.sig.walk = .preparation → s.csr.state = .out → k < 256 →
     classOf s l = some .vital → s.sig.cursor + 1 < numVital s →
     decodeStored (storedAt s (l * 256 + k)) (l * 256 + k) = .uncorrectable raw → vs.length = 256 → vs.getD k 0 = 0 →
     (∀ i, i < 256 → i ≠ k → decodeStored (storedAt s (l * 256 + i)) (l * 256 + i) = .clean (vs.getD i 0)) →
     s.sig.cursor ∉ s.sig.poisoned → s.sig.acc < modulus →
     exec .rebuildStep s = .next { s with
       arb.grant := none
       mem := (writeWord (l * 256 + k) 0 s).mem
       counters.uncorrectable := satSucc s.counters.uncorrectable
       ev := evAfter .uncorrectable 7 (.word (l * 256 + k)) raw s
       sig := { s.sig with
         valid := false, cursor := s.sig.cursor + 1
         acc := (s.sig.acc + ((List.range 256).map (fun i =>
           wordHash s.sig.committedKeys (l * 256 + i) (vs.getD i 0))).sum) % modulus
         poisoned := if s.sig.poisoned.length < 8 then s.sig.poisoned ++ [s.sig.cursor] else s.sig.poisoned
         overflow := s.sig.overflow || decide (8 ≤ s.sig.poisoned.length) } }) ∧
   (∀ (s : State) (l w o : Nat) (raw : Word) (j : JoinerRole), runs .scrub s → scrubPlace s = some (l, w) → w < 255 →
     decodeStored (storedAt s (l * 256 + w)) (l * 256 + w) = .uncorrectable raw → classOf s l = some .vital →
     ordinalOf s.regions.committed l = some o → s.csr.state = .out → s.repair.role = .joiner j → s.sig.walk = .preparation →
     let read : State := { s with
       arb.grant := none
       counters.uncorrectable := satSucc s.counters.uncorrectable
       ev := evAfter .uncorrectable 2 (.word (l * 256 + w)) raw s
       scrub := { s.scrub with
         line := l, word := w + 1, allowance := if w = 0 then s.scrub.allowance - 1 else s.scrub.allowance }
       sig.valid := false }
     (s.sig.cursor ≤ o → exec .scrubStep s = .next (settle read)) ∧
     (o < s.sig.cursor → exec .scrubStep s = .next (settle { read with sig := { s.sig with
       valid := false, cursor := 0, acc := 0
       poisoned := if o ∈ s.sig.poisoned ∨ 8 ≤ s.sig.poisoned.length then s.sig.poisoned else s.sig.poisoned ++ [o]
       overflow := s.sig.overflow || decide (o ∉ s.sig.poisoned ∧ 8 ≤ s.sig.poisoned.length) } }))) ∧
   (∀ (s : State) (l : Nat) (vs : List Word) (j : JoinerRole) (me x y : Identity) (k : LinkId), runs .rebuild s →
     lineOf s.regions.committed s.sig.cursor = some l → s.sig.walk = .preparation → vs.length = 256 →
     cleanAt s (l * 256) vs → numVital s ≤ s.sig.cursor + 1 → s.repair.role = .joiner j →
     s.mgmt.params.channelId = some me → otherIds (some me) = some (x, y) → eligible s.vote.peer0 = true →
     s.vote.peer0.link = some k → (getLink s k).status = .up →
     let acc := (s.sig.acc + ((List.range 256).map (fun i =>
       wordHash s.sig.committedKeys (l * 256 + i) (vs.getD i 0))).sum) % modulus
     let based := j.forcedFull = false ∧ j.baseLost = false ∧
       (j.result = some .complete ∨ (j.result = some .unsigned ∧ s.sig.overflow = false))
     let base : Option Cycle := if based then some s.csr.committed else none
     let need : List Nat := if based ∧ j.result = some .unsigned then s.sig.poisoned else []
     exec .rebuildStep s = .next { sentUp k (ownFrame me (.request base (need.map (BitVec.ofNat 32)))) s with
       arb.grant := none
       sig := { s.sig with s := acc, valid := true, walk := .idle, cursor := 0, acc := 0 }
       vote.peer0.relation := some .joinerOf
       repair.role := .joiner { j with
         base := base, need := need, baseLost := j.baseLost || base.isNone, retry := s.mgmt.params.rejoinRetries
         phase := .requesting, tried := [x], candidate := some x, replyTimer := some s.mgmt.params.voteWindow
         retryTimer := none } }))

/-- A rollback step undoes the newest entry of the open segment, or, with that one empty, of the voting segment, whose
boundary follows the tail: it stores the entry's old value, folds the change into S when S is valid, takes the entry off,
counts it, and rearms pressure reporting below the level. The step that takes the last entry ends the rollback, the counter
at the committed cycle: COMPLETE with S valid throughout and equal to C, CHECK-FAILED with its record when it differs,
UNSIGNED when S was or became invalid. After DISSENT or WITHDRAWAL the joiner goes on with that result: after COMPLETE no
walk is run, and its base is the committed cycle; else the preparation walk begins. After NO-MAJORITY COMPLETE leads to HELD
with its record and the other results to HALTED. Where both peers are reported VOTING with committed cycles ahead, the watch
at entry to HELD finds a LOCAL-DISSENT, and the channel goes on to OUT, its peers marked AGREE, the joiner's base the
committed cycle. An uncorrectable current word takes the old value all the same and makes S invalid, and before NO-MAJORITY's
end withdraws the channel, whose rollback goes on as WITHDRAWAL. A newest entry that carries another cycle's tag, or that
cannot be read, stops the rollback: ROLLBACK-CHECK, ENTRY or UNREADABLE, with the count of entries undone, the journal
emptied, S invalid and the result BROKEN. After NO-MAJORITY the channel is then HALTED, and the records are ROLLBACK-CHECK
and STATE-CHANGE where no role and no seal walk end with it. After DISSENT or WITHDRAWAL the joiner goes on with result
BROKEN, and the preparation walk begins. So it is for every newest entry, the last one and one of the voting segment among
them, that carries another tag than its segment's, that names no vital word, or either word of which cannot be read,
CORRECTED words written back and counted on the way (05 section 5.4, 06 sections 6.6, 6.7 and 6.9, 09 section 9.3, 07 section
7.6.6, 02 sections 2.1.3 and 2.1.4). -/
def Obligations.RollbackStepUndoesTheNewestEntry : Prop :=
  (∀ (s : State) (w0 old cur : Word) (o : Nat),
     let cap := journalCapacity s
     let i := (s.jnl.tail + cap - 1) % cap
     let slot := journalSlot s i
     let a := w0.toNat % 2 ^ 25
     let tag := BitVec.ofNat 16 (w0.toNat / 2 ^ 32)
     runs .rollback s → s.jnl.broken = false → 1 ≤ s.jnl.openCount → 2 ≤ s.jnl.votingCount + s.jnl.openCount →
     cleanAt s slot [w0, old] → ordinalOf s.regions.committed (a / 256) = some o →
     (tag = s.jnl.rb.tagOpen → decodeStored (storedAt s a) a = .clean cur → exec .rollbackStep s = .next (settle { s with
       arb.grant := none
       mem := (writeWord a old s).mem
       sig.s := if s.sig.valid then foldChange s.sig.committedKeys s.sig.s a cur old else s.sig.s
       jnl := { s.jnl with
         tail := i, openCount := s.jnl.openCount - 1, rb.undone := s.jnl.rb.undone + 1
         pressure := s.jnl.pressure && decide (pressureLevel s ≤ s.jnl.votingCount + s.jnl.openCount - 1) } })) ∧
     (tag ≠ s.jnl.rb.tagOpen → s.jnl.rb.reason = some .noMajority → ∃ t, exec .rollbackStep s = .next (settle t) ∧
       t.csr.state = .halted ∧ t.csr.counter = s.csr.committed ∧ t.jnl.entries = 0 ∧ t.jnl.rb.rolling = false ∧
       t.sig.valid = false ∧ t.mem = s.mem ∧ t.ev.faultLatch = true ∧
       (s.repair.role = .none → s.sig.walk ≠ .seal → s.csr.state ≠ .halted →
         let back : State := { s with csr := { s.csr with counter := s.csr.committed, counterInv := ~~~ s.csr.committed } }
         let told : State := { back with
           csr := t.csr
           ev := evAfter .rollbackCheck 4 (.region (journalIndex s)) (wordOf s.jnl.rb.undone) back }
         t.ev.waiting = (evAfter .stateChange 7 (.channelState s.csr.state) (wordOf s.csr.committed.toNat) told).waiting)) ∧
     (tag ≠ s.jnl.rb.tagOpen → s.jnl.rb.reason = some .dissent ∨ s.jnl.rb.reason = some .withdrawal →
       ∀ j, s.repair.role = .joiner j → ∃ t, exec .rollbackStep s = .next (settle t) ∧
         let back : State := { s with csr := { s.csr with counter := s.csr.committed, counterInv := ~~~ s.csr.committed } }
         t.csr = back.csr ∧ t.ev = evAfter .rollbackCheck 4 (.region (journalIndex s)) (wordOf s.jnl.rb.undone) back ∧
         t.jnl.entries = 0 ∧ t.jnl.rb.rolling = false ∧ t.mem = s.mem ∧
         t.sig = { s.sig with valid := false, walk := .preparation, cursor := 0, acc := 0, poisoned := [], overflow := false } ∧
         t.repair.role = .joiner { j with result := some .broken })) ∧
  (∀ s : State,
     let cap := journalCapacity s
     let i := (s.jnl.tail + cap - 1) % cap
     let slot := journalSlot s i
     let count := s.jnl.votingCount + s.jnl.openCount
     let back : State := { s with csr := { s.csr with counter := s.csr.committed, counterInv := ~~~ s.csr.committed } }
     let report := Subject.region (journalIndex s)
     let walk (g : SignatureUnit) : SignatureUnit :=
       { g with valid := false, walk := .preparation, cursor := 0, acc := 0, poisoned := [], overflow := false }
     runs .rollback s → s.jnl.broken = false →
     (∀ (w0 old : Word) (o : Nat),
       let a := w0.toNat % 2 ^ 25
       let tag := BitVec.ofNat 16 (w0.toNat / 2 ^ 32)
       cleanAt s slot [w0, old] → ordinalOf s.regions.committed (a / 256) = some o →
       (∀ cur, decodeStored (storedAt s a) a = .clean cur →
         let mem := (writeWord a old s).mem
         let sum := if s.sig.valid then foldChange s.sig.committedKeys s.sig.s a cur old else s.sig.s
         (s.jnl.openCount = 0 → 2 ≤ s.jnl.votingCount → tag = s.jnl.rb.tagVoting →
           exec .rollbackStep s = .next (settle { s with
             arb.grant := none, mem := mem, sig.s := sum
             jnl := { s.jnl with
               tail := i, boundary := i, votingCount := s.jnl.votingCount - 1, rb.undone := s.jnl.rb.undone + 1
               pressure := s.jnl.pressure && decide (pressureLevel s ≤ s.jnl.votingCount - 1) } })) ∧
         (count = 1 → tag = (if s.jnl.openCount = 0 then s.jnl.rb.tagVoting else s.jnl.rb.tagOpen) →
           let signed := s.jnl.rb.validAtStart = true ∧ s.sig.valid = true
           (s.jnl.rb.reason = some .noMajority → signed → sum = s.csr.c → ¬ bothAhead s) →
           ∃ t, exec .rollbackStep s = .next (settle t) ∧ t.mem = mem ∧ t.jnl.entries = 0 ∧ t.jnl.rb.rolling = false ∧
             t.jnl.rb.undone = s.jnl.rb.undone + 1 ∧ t.csr.counter = s.csr.committed ∧ t.csr.committed = s.csr.committed ∧
             (∀ j, s.jnl.rb.reason = some .dissent ∨ s.jnl.rb.reason = some .withdrawal → s.repair.role = .joiner j →
               t.csr = back.csr ∧
               (signed → sum = s.csr.c → t.sig = { s.sig with s := sum } ∧ ∃ j1, t.repair.role = .joiner j1 ∧
                 j1.result = some .complete ∧ j1.phase ≠ .preparing ∧
                 (j.forcedFull = false → j.baseLost = false → j1.base = some s.csr.committed ∧ j1.need = [])) ∧
               (signed → sum ≠ s.csr.c → t.sig = walk { s.sig with s := sum } ∧
                 t.repair.role = .joiner { j with result := some .checkFailed } ∧
                 t.ev = evAfter .rollbackCheck 1 report (wordOf sum) back) ∧
               (¬ signed → t.sig = walk { s.sig with s := sum } ∧ t.repair.role = .joiner { j with result := some .unsigned } ∧
                 t.ev = s.ev)) ∧
             (s.jnl.rb.reason = some .noMajority →
               (signed → sum = s.csr.c → t.csr.state = .held ∧ t.sig = { s.sig with s := sum } ∧ t.repair = s.repair ∧
                 t.ev = evAfter .stateChange 7 (.channelState s.csr.state) (wordOf s.csr.committed.toNat)
                   { s with csr := t.csr }) ∧
               (¬ (signed ∧ sum = s.csr.c) → t.csr.state = .halted ∧ t.sig.valid = false ∧ t.ev.faultLatch = true))) ∧
         (count = 1 → tag = (if s.jnl.openCount = 0 then s.jnl.rb.tagVoting else s.jnl.rb.tagOpen) →
           s.jnl.rb.reason = some .noMajority → bothAhead s → copiesAgree s → s.jnl.rb.validAtStart = true →
           s.sig.valid = true → sum = s.csr.c →
           ∃ t j, exec .rollbackStep s = .next (settle t) ∧ t.mem = mem ∧ t.sig = { s.sig with s := sum } ∧
             t.csr.state = .out ∧ t.csr.counter = s.csr.committed ∧ t.csr.committed = s.csr.committed ∧ t.csr.c = s.csr.c ∧
             copiesAgree t ∧ t.ev.faultLatch = s.ev.faultLatch ∧ t.ev.health = s.ev.health ∧ t.jnl.entries = 0 ∧
             t.jnl.rb.rolling = false ∧ t.jnl.rb.reason = some .dissent ∧ t.vote.peer0.status = .agree ∧
             t.vote.peer1.status = .agree ∧ t.repair.role = .joiner j ∧ j.base = some s.csr.committed ∧ j.need = [])) ∧
       (∀ raw j, decodeStored (storedAt s a) a = .uncorrectable raw → 2 ≤ count → 1 ≤ s.jnl.openCount →
         tag = s.jnl.rb.tagOpen →
         let undone : State := { s with
           arb.grant := none, mem := (writeWord a old s).mem
           counters.uncorrectable := satSucc s.counters.uncorrectable
           sig.valid := false
           ev := evAfter .uncorrectable 8 (.word a) raw s
           jnl := { s.jnl with
             tail := i, openCount := s.jnl.openCount - 1, rb.undone := s.jnl.rb.undone + 1
             pressure := s.jnl.pressure && decide (pressureLevel s ≤ count - 1) } }
         (s.csr.state = .out → s.repair.role = .joiner j → j.phase = .preparing → s.sig.walk ≠ .preparation →
           exec .rollbackStep s = .next (settle undone)) ∧
         (s.csr.state = .sealed ∨ s.csr.state = .voting → s.jnl.rb.reason = some .noMajority →
           (∀ r, s.repair.role ≠ .source r) → ∃ t, exec .rollbackStep s = .next (settle t) ∧ t.mem = undone.mem ∧
             t.jnl = { undone.jnl with rb.reason := some .withdrawal } ∧ t.csr.state = .out ∧ t.csr.counter = s.csr.counter ∧
             t.ev.faultLatch = true ∧ t.sig = undone.sig ∧ ∃ j1, t.repair.role = .joiner j1 ∧ j1.result = none))) ∧
     (∀ raw w j, (decodeStored (storedAt s slot) slot = .uncorrectable raw ∧ decodeStored (storedAt s (slot + 1)) (slot + 1) = .clean w ∨
         decodeStored (storedAt s slot) slot = .clean w ∧ decodeStored (storedAt s (slot + 1)) (slot + 1) = .uncorrectable raw) →
       classOf s (slot / 256) = some .journal → classOf s ((slot + 1) / 256) = some .journal →
       s.jnl.rb.reason = some .dissent ∨ s.jnl.rb.reason = some .withdrawal → s.repair.role = .joiner j →
       ∃ t at_, (at_ = slot ∨ at_ = slot + 1) ∧ decodeStored (storedAt s at_) at_ = .uncorrectable raw ∧
         exec .rollbackStep s = .next (settle t) ∧ t.mem = s.mem ∧ t.csr = back.csr ∧ t.jnl.entries = 0 ∧
         t.jnl.rb.rolling = false ∧ t.jnl.rb.undone = s.jnl.rb.undone ∧ t.sig = walk s.sig ∧
         t.counters.uncorrectable = satSucc s.counters.uncorrectable ∧
         t.repair.role = .joiner { j with result := some .broken } ∧
         t.ev = evAfter .rollbackCheck 3 report (wordOf s.jnl.rb.undone)
           { back with ev := evAfter .uncorrectable 8 (.word at_) raw s }) ∧
     (∀ detail : Nat,
       let seen := outcomesAt s [slot, slot + 1]
       let read := met .rollback seen { s with arb.grant := none }
       let tag := if s.jnl.openCount = 0 then s.jnl.rb.tagVoting else s.jnl.rb.tagOpen
       let told := evAfter .rollbackCheck detail report (wordOf s.jnl.rb.undone) { back with ev := read.ev }
       let stopped (t : State) : Prop := t.mem = read.mem ∧ t.counters = read.counters ∧ t.spare = read.spare ∧
         t.jnl.entries = 0 ∧ t.jnl.rb.rolling = false ∧ t.jnl.rb.undone = s.jnl.rb.undone ∧ t.csr.counter = s.csr.committed ∧
         t.csr.committed = s.csr.committed ∧ t.csr.c = s.csr.c ∧ t.sig.valid = false
       (detail = 3 ∧ badWords seen ≠ [] ∧ classOf s (slot / 256) = some .journal) ∨
         (detail = 4 ∧ ∃ w0 old, seen.map (fun x => x.2.value) = [some w0, some old] ∧
           (ordinalOf s.regions.committed (w0.toNat % 2 ^ 25 / 256) = none ∨ BitVec.ofNat 16 (w0.toNat / 2 ^ 32) ≠ tag)) →
       (s.jnl.rb.reason = some .noMajority → ∃ t, exec .rollbackStep s = .next (settle t) ∧ stopped t ∧
         t.csr.state = .halted ∧ copiesAgree t ∧ t.ev.faultLatch = true ∧
         (s.repair.role = .none → s.sig.walk ≠ .seal → s.csr.state ≠ .halted →
           t.ev = evAfter .stateChange 7 (.channelState s.csr.state) (wordOf s.csr.committed.toNat)
             { back with csr := t.csr, ev := { told with faultLatch := true } })) ∧
       (s.jnl.rb.reason = some .dissent ∨ s.jnl.rb.reason = some .withdrawal → ∀ j, s.repair.role = .joiner j →
         ∃ t, exec .rollbackStep s = .next (settle t) ∧ stopped t ∧ t.csr = back.csr ∧ t.sig = walk s.sig ∧ t.ev = told ∧
           t.repair.role = .joiner { j with result := some .broken })))

/-! ### Links and repair (chapters 8 and 9) -/

/-- The four timers of a link. Hail: a HAIL goes out with ACK when a sender has been heard, with MISMATCH in MISMATCH, and
the timer starts again. Quiet: the link is HAILING afresh, and in ACTIVE mode a HAIL without flags goes out at once. Silence:
the link leaves UP for QUIET for 4 ms, its peer's entry loses link and state, and LINK-STATE is handed. Beat: a BEAT goes out
and the timer starts again. Silence with a role over that link: a source role ends with REPAIR, LINK-LOST; a joiner's
outstanding try fails; a joiner in RECEIVING or CLOSING is back in OUT with no base (08 sections 8.4.1, 8.4.2, 8.5 and 8.5.1, 09 sections 9.4 and 9.9). That a timer that does not run
does nothing is the model's choice (log entry 5), and so is the form of timers (log entry 9). -/
def Obligations.LinkTimersActAndRestart : Prop :=
  (∀ (l : LinkId) (me : Identity) (s : State), s.mgmt.params.channelId = some me →
     let k := getLink s l
     (k.hailTimer ≠ none → k.status = .hailing ∨ k.status = .mismatch →
       exec (.hailTimerExpiry l) s = .next (updLink l (fun k => { k with hailTimer := some 1 }) (transmit l
         { ack := decide (k.status = .hailing) && k.heard.isSome, mismatch := decide (k.status = .mismatch)
           relayed := false, sender := me, originator := me
           payload := .hail s.mgmt.digest (some s.csr.state) s.csr.counter s.csr.committed } s))) ∧
     (k.hailTimer = none → exec (.hailTimerExpiry l) s = .next s) ∧
     (k.quietTimer ≠ none → ∃ t, exec (.quietTimerExpiry l) s = .next t ∧
       t = { s with link1 := t.link1, link2 := t.link2, out.tx1 := t.out.tx1, out.tx2 := t.out.tx2 } ∧
       getLink t l = { k with
         status := .hailing, heard := none, peer := none, silenceTimer := none, beatTimer := none, quietTimer := none
         hailTimer := if k.mode = .active then some 1 else none } ∧
       getLink t (otherLink l) = getLink s (otherLink l) ∧ framesOf t (otherLink l) = framesOf s (otherLink l) ∧
       framesOf t l = framesOf s l ++ (if k.mode = .active then
         [ownFrame me (.hail s.mgmt.digest (some s.csr.state) s.csr.counter s.csr.committed)] else [])) ∧
     (k.quietTimer = none → exec (.quietTimerExpiry l) s = .next s) ∧
     (∀ x, k.silenceTimer ≠ none → k.peer = some x → s.repair.role = .none →
       exec (.silenceTimerExpiry l) s = .next (settle (updLink l (fun k => { k with
         status := .quiet, quietTimer := some 4, silenceTimer := none, beatTimer := none, peer := none, buffer := []
         holdSent := false, peerHolding := false })
         { updPeer x (fun y => { y with link := none, state := none }) s with
           ev := evAfter .linkState 2 (.link l) (wordOf x.code) s }))) ∧
     (k.silenceTimer = none → exec (.silenceTimerExpiry l) s = .next (settle s)) ∧
     (k.beatTimer ≠ none → k.status = .up → exec (.beatTimerExpiry l) s = .next
       (sentUp l (ownFrame me (.beat (some s.csr.state) s.csr.counter s.csr.committed)) s)) ∧
     (k.beatTimer = none → exec (.beatTimerExpiry l) s = .next s)) ∧
  (∀ (l : LinkId) (x : Identity) (s : State), (getLink s l).silenceTimer ≠ none → (getLink s l).peer = some x →
     s.arb.grant = none →
     let gone (t : State) : State := updLink l (fun k => { k with
       status := .quiet, quietTimer := some 4, silenceTimer := none, beatTimer := none, peer := none, buffer := []
       holdSent := false, peerHolding := false }) (updPeer x (fun y => { y with link := none, state := none }) t)
     (∀ r, s.repair.role = .source r → r.link = l →
       let ended : State := { s with
         repair := { s.repair with role := .none, r := [] }
         ev := evAfter .repair 8 (.peer r.joiner) (wordOf r.linesSent) s }
       exec (.silenceTimerExpiry l) s = .next (settle (gone (setRelation r.joiner none { ended with
         ev := evAfter .linkState 2 (.link l) (wordOf x.code) ended })))) ∧
     (∀ j me, s.repair.role = .joiner j → s.mgmt.params.channelId = some me → j.phase = .requesting → j.candidate = some x →
       (∀ i, i ≠ me → i ∈ j.tried) → 0 < j.retry →
       exec (.silenceTimerExpiry l) s = .next (settle (gone (setRelation x none { s with
         repair.role := .joiner { j with
           phase := .retryWait, retry := j.retry - 1, candidate := none, replyTimer := none
           retryTimer := some s.mgmt.params.rejoinRetry }
         ev := evAfter .linkState 2 (.link l) (wordOf x.code) s })))) ∧
     (∀ j, s.repair.role = .joiner j → j.phase = .receiving ∨ j.phase = .closing → j.link = some l → j.source = some x →
       s.sig.valid = true → ∃ t j1, exec (.silenceTimerExpiry l) s = .next (settle t) ∧ t.csr.state = .out ∧
         t.csr.counter = s.csr.counter ∧ t.sig = s.sig ∧ t.mem = s.mem ∧ t.jnl = s.jnl ∧
         t.repair.role = .joiner j1 ∧ j1.base = none ∧ j1.need = [] ∧ j1.phase ≠ .receiving ∧ j1.phase ≠ .closing ∧
         (getLink t l).status = .quiet ∧ (getLink t l).buffer = [] ∧ (getLink t l).peer = none))

/-- At every reception: a link that is DOWN or QUIET takes nothing; bytes that fail a check are counted as a bad frame and do
nothing else; in HAILING and MISMATCH a good frame other than a HAIL is dropped uncounted; in UP a good frame of another
sender than the peer is counted and dropped (08 section 8.3.2). No transaction is held, so that none is decided again. -/
def Obligations.ReceptionsDropWhatTheyMustNotTake : Prop :=
  ∀ (l : LinkId) (raw : List Byte) (s : State) (kind : FrameKind) (c : Instr), s.port.held = none →
    (kind, c) ∈ [(FrameKind.hail, Instr.hailReceive l raw), (.beat, .beatReceive l raw), (.sign, .signReceive l raw),
      (.request, .requestReceive l raw), (.accept, .acceptReceive l raw), (.refuse, .refuseReceive l raw),
      (.line, .lineReceive l raw), (.hold, .holdReceive l raw), (.go, .goReceive l raw), (.close, .closeReceive l raw),
      (.verdict, .verdictReceive l raw), (.abort, .abortReceive l raw)] →
    let counted := updLink l (fun k => { k with badFrames := satSucc k.badFrames }) s
    let st := (getLink s l).status
    (st = .down ∨ st = .quiet → exec c s = .next s) ∧
    (st ≠ .down → st ≠ .quiet → checkFrame raw = none → exec c s = .next counted) ∧
    (∀ f, checkFrame raw = some f → f.kind = kind → kind ≠ .hail →
      (st = .hailing ∨ st = .mismatch → exec c s = .next s) ∧
      (st = .up → (getLink s l).peer ≠ some f.sender → exec c s = .next counted))

/-- A HAIL in HAILING, on a link of either mode. Another digest takes the link to MISMATCH with its record, and so does a
sender that is this channel itself, with SELF-IDENTITY, or the peer of the other link, which is UP, with DUPLICATE-PEER; a
PASSIVE link answers each with the MISMATCH flag (log entry 19). Any other HAIL is its sender's report. With the MISMATCH
flag it clears what the link had heard. Without flags it is answered with a HAIL that carries ACK. With ACK from the sender
heard before, the link is UP with its timers running, the peer's entry names the link, and LINK-STATE is handed; with ACK and
another sender heard, or none, the same, and a HAIL with ACK goes out. In MISMATCH: one of another digest keeps the link
there and a PASSIVE link answers with the MISMATCH flag; a matching one takes a PASSIVE link to HAILING and is acted on
there. In UP: the peer's own with ACK is a report; one without ACK takes a PASSIVE link, with no role held, to HAILING with
LINK-STATE, RESTART, and is acted on there. (Outside HELD, whose watch is stated with VotesWithoutAgreement.) For a link of
either mode, whatever the flags: a matching HAIL in MISMATCH, and in UP any HAIL but the peer's own matching one with ACK and
without MISMATCH, one of another digest or another sender among them, has the effect of its reception in HAILING entered
afresh, an ACTIVE link's HAIL sent on entry. Before that an UP link has left UP: its peer's entry loses link and state, a
source role over it ends with REPAIR, LINK-LOST, a joiner's outstanding try of that peer fails as at its reply timer, a joiner
that receives over it is back in OUT with the base lost, and LINK-STATE, RESTART follows. That a PASSIVE link answers the
HAIL that ends MISMATCH as in HAILING only, and not with the MISMATCH flag too, is the model's choice (log entry 57), and so
is the order of the REPAIR and STATE-CHANGE records of that return (log entry 43) (08 sections 8.4.1 to 8.5.1, 09 sections
9.4 and 9.9). -/
def Obligations.HailBringsALinkUp : Prop :=
  (∀ (l : LinkId) (raw : List Byte) (s : State) (f : Frame) (d : BitVec 32) (st : Option ChannelState) (k n : Cycle)
     (me : Identity),
     s.mgmt.params.channelId = some me → (getLink s l).status = .hailing →
     s.csr.state ≠ .held → checkFrame raw = some f → f.payload = .hail d st k n →
     let mine (ack mismatch : Bool) : Frame :=
       { ownFrame me (.hail s.mgmt.digest (some s.csr.state) s.csr.counter s.csr.committed) with ack := ack, mismatch := mismatch }
     let mismatched (detail : Nat) (v : Word) : State :=
       let t := updLink l (fun k => { k with status := .mismatch, heard := none })
         { s with ev := evAfter .configMismatch detail (.link l) v s }
       settle (if (getLink s l).mode = .passive then transmit l (mine false true) t else t)
     let raised : State := updLink l (fun k => { k with
       status := .up, peer := some f.sender, heard := none, hailTimer := none
       silenceTimer := some (max s.mgmt.params.silence (2 * s.mgmt.params.beat))
       beatTimer := some s.mgmt.params.beat, holdSent := false, peerHolding := false })
       { updPeer f.sender (fun y => { y with state := st, counter := k, committed := n, link := some l }) s with
         ev := evAfter .linkState 1 (.link l) (wordOf f.sender.code) s }
     let otherHasIt := (getLink s (otherLink l)).status = .up ∧ (getLink s (otherLink l)).peer = some f.sender
     (d ≠ s.mgmt.digest → exec (.hailReceive l raw) s = .next (mismatched 1 (wordOf d.toNat))) ∧
     (d = s.mgmt.digest → f.sender = me → exec (.hailReceive l raw) s = .next (mismatched 2 (wordOf f.sender.code))) ∧
     (d = s.mgmt.digest → f.sender ≠ me → otherHasIt →
       exec (.hailReceive l raw) s = .next (mismatched 3 (wordOf f.sender.code))) ∧
     (d = s.mgmt.digest → f.sender ≠ me → ¬ otherHasIt → f.mismatch = true → exec (.hailReceive l raw) s = .next (settle
       (updLink l (fun k => { k with heard := none }) (reported f.sender st k n s)))) ∧
     (d = s.mgmt.digest → f.sender ≠ me → ¬ otherHasIt → f.mismatch = false →
       (f.ack = false → exec (.hailReceive l raw) s = .next (settle
         (updLink l (fun k => { k with heard := some f.sender }) (transmit l (mine true false) (reported f.sender st k n s))))) ∧
       (f.ack = true → (getLink s l).heard = some f.sender → exec (.hailReceive l raw) s = .next (settle raised)) ∧
       (f.ack = true → (getLink s l).heard ≠ some f.sender →
         exec (.hailReceive l raw) s = .next (settle (transmit l (mine true false) raised))))) ∧
  (∀ (l : LinkId) (raw : List Byte) (s : State) (f : Frame) (d : BitVec 32) (st : Option ChannelState) (k n : Cycle)
     (me : Identity), s.arb.grant = none → s.mgmt.params.channelId = some me → s.csr.state ≠ .held → checkFrame raw = some f →
     f.payload = .hail d st k n →
     let mine (ack mismatch : Bool) : Frame :=
       { ownFrame me (.hail s.mgmt.digest (some s.csr.state) s.csr.counter s.csr.committed) with ack := ack, mismatch := mismatch }
     ((getLink s l).status = .mismatch → d ≠ s.mgmt.digest →
       ((getLink s l).mode ≠ .passive → exec (.hailReceive l raw) s = .next (settle s)) ∧
       ((getLink s l).mode = .passive → exec (.hailReceive l raw) s = .next (settle (transmit l (mine false true) s)))) ∧
     ((getLink s l).status = .mismatch → (getLink s l).mode = .passive → d = s.mgmt.digest → f.sender ≠ me →
       (getLink s (otherLink l)).peer ≠ some f.sender → f.mismatch = false → f.ack = false →
       exec (.hailReceive l raw) s = .next (settle (updLink l (fun k => { k with
         status := .hailing, heard := some f.sender, peer := none, silenceTimer := none, beatTimer := none
         quietTimer := none, hailTimer := none }) (transmit l (mine true false) (reported f.sender st k n s))))) ∧
     ((getLink s l).status = .up → (getLink s l).peer = some f.sender → d = s.mgmt.digest → f.ack = true →
       f.mismatch = false → exec (.hailReceive l raw) s = .next (settle (reported f.sender st k n (silenceRestarted l s)))) ∧
     (∀ x, (getLink s l).status = .up → (getLink s l).peer = some x → (getLink s l).mode = .passive → s.repair.role = .none →
       d = s.mgmt.digest → f.sender ≠ me → (getLink s (otherLink l)).peer ≠ some f.sender → f.mismatch = false →
       f.ack = false → exec (.hailReceive l raw) s = .next (settle (updLink l (fun k => { k with
         status := .hailing, heard := some f.sender, peer := none, silenceTimer := none, beatTimer := none
         quietTimer := none, hailTimer := none, buffer := [], holdSent := false, peerHolding := false })
         (transmit l (mine true false) (reported f.sender st k n
           { updPeer x (fun y => { y with link := none, state := none }) s with
             ev := evAfter .linkState 3 (.link l) (wordOf x.code) s })))))) ∧
  (∀ (l : LinkId) (raw : List Byte) (s : State) (f : Frame) (d : BitVec 32) (st : Option ChannelState) (k n : Cycle)
     (me : Identity), s.arb.grant = none → s.mgmt.params.channelId = some me → checkFrame raw = some f →
     f.payload = .hail d st k n →
     let asIn (t : State) : Prop := exec (.hailReceive l raw) s = exec (.hailReceive l raw) (hailsAfresh l me t)
     let othersPeer := (getLink s (otherLink l)).status = .up ∧ (getLink s (otherLink l)).peer = some f.sender
     ((getLink s l).status = .mismatch → d = s.mgmt.digest → f.sender ≠ me → ¬ othersPeer → asIn s) ∧
     (∀ x, (getLink s l).status = .up → (getLink s l).peer = some x →
       f.sender ≠ x ∨ d ≠ s.mgmt.digest ∨ f.ack = false ∨ f.mismatch = true →
       let restart (t : State) : State := { t with ev := evAfter .linkState 3 (.link l) (wordOf x.code) t }
       let gone := linkGone l x s
       ((∀ r, s.repair.role = .source r → r.link ≠ l) → (∀ j, s.repair.role = .joiner j →
           (j.receiving = true → j.link ≠ some l) ∧ (j.phase = .requesting → j.candidate ≠ some x)) → asIn (restart gone)) ∧
       (∀ r, s.repair.role = .source r → r.link = l → asIn (restart { setRelation r.joiner none gone with
         repair := { s.repair with role := .none, r := [] }
         ev := evAfter .repair 8 (.peer r.joiner) (wordOf r.linesSent) s })) ∧
       (∀ j u, s.repair.role = .joiner j → j.phase = .requesting → j.candidate = some x → j.replyTimer ≠ none →
         exec .replyTimerExpiry gone = .next u → asIn (restart u)) ∧
       (∀ j, s.repair.role = .joiner j → s.csr.state = .receiving → j.phase = .receiving ∨ j.phase = .closing →
         j.source = some x → j.link = some l → ∃ t, ReturnedToOut gone t j x l 8 15 [] ∧ asIn (restart t))))

/-- An accepted BEAT is its sender's report. An accepted SIGN is its originator's report, goes on over the other link when it
is direct and that link is UP, and is then used by its distance d from the counter in SEALED, VOTING and HELD (there where
the watch finds no two peers ahead) with no rollback running: parked at 1 when the slot is empty, reported once as PEER-SKEW
from 2 to 2^31−1, stored for the open vote at 0 when its originator, first or second, is expected and not yet counted;
otherwise dropped: with no vote open, an arrival already stored, an originator not expected, or in another state. A SIGN
whose originator names no peer is discarded. The SIGN that completes the arrivals resolves the vote in its own event, with
every expected peer counted, as the window's expiry would with that SIGN stored (07 sections 7.3 to 7.5 and 7.6.6). A
forwarded SIGN whose state byte is unknown goes out with code 0 (log entry 39). In HELD the watch acts before the SIGN goes
on (log entry 49), and a frame is sent whole in the step that hands it (log entry 50). -/
def Obligations.BeatAndSignAreUsedByTheVoteUnit : Prop :=
  ((∀ (l : LinkId) (raw : List Byte) (s : State) (f : Frame) (st : Option ChannelState) (k n : Cycle),
     accepts l raw f s → f.payload = .beat st k n → s.csr.state ≠ .held →
     exec (.beatReceive l raw) s = .next (settle (reported f.sender st k n (silenceRestarted l s)))) ∧
   (∀ (l : LinkId) (raw : List Byte) (s : State) (f : Frame) (m n : Cycle) (st : Option ChannelState) (sg : Word)
     (me : Identity) (second : Bool),
     accepts l raw f s → f.payload = .sign m n st sg → s.mgmt.params.channelId = some me →
     peerSlot s f.originator = some second →
     let ahead (c : Cycle) : Prop := 1 ≤ (c - s.csr.committed).toNat ∧ (c - s.csr.committed).toNat < 2 ^ 31
     let other := if second then s.vote.peer0 else s.vote.peer1
     s.csr.state ≠ .held ∨ ¬ (st = some .voting ∧ ahead n ∧ other.state = some .voting ∧ ahead other.committed) →
     let how : Arrival := if f.relayed then .relayed else .direct
     let told := reported f.originator st m n (silenceRestarted l s)
     let s1 := if f.relayed = false ∧ (getLink s (otherLink l)).status = .up then
         sentUp (otherLink l) { f with relayed := true, sender := me } told else told
     let d := (m - s.csr.counter).toNat
     let signed := s.csr.state = .sealed ∨ s.csr.state = .voting ∨ s.csr.state = .held
     let slot := if second then s.vote.peer1.slot else s.vote.peer0.slot
     (¬ signed ∨ s.jnl.rb.rolling = true → exec (.signReceive l raw) s = .next (settle s1)) ∧
     (signed → s.jnl.rb.rolling = false →
       (d = 1 → exec (.signReceive l raw) s = .next (settle (updPeer f.originator (fun y =>
         if slot = none then { y with slot := some { cycle := m, signature := sg.toNat, arrival := how } } else y) s1))) ∧
       (2 ≤ d → d < 2 ^ 31 → s.vote.skewReported = true → exec (.signReceive l raw) s = .next (settle s1)) ∧
       (2 ≤ d → d < 2 ^ 31 → s.vote.skewReported = false → exec (.signReceive l raw) s = .next (settle { s1 with
         vote.skewReported := true
         ev := evAfter .peerSkew how.code (.peer f.originator) (wordOf m.toNat) s })) ∧
       (2 ^ 31 ≤ d ∨ (d = 0 ∧ s.vote.record.isOpen = false) → exec (.signReceive l raw) s = .next (settle s1)) ∧
       (d = 0 → s.vote.record.isOpen = true → second = false → s.vote.record.expected0 = true →
         s.vote.record.arrival0 = none → s.vote.record.expected1 = true → s.vote.record.arrival1 = none →
         exec (.signReceive l raw) s = .next (settle { s1 with vote.record.arrival0 := some (sg.toNat, how) })) ∧
       (d = 0 → s.vote.record.isOpen = true → second = true → s.vote.record.expected1 = true →
         s.vote.record.arrival1 = none → s.vote.record.expected0 = true → s.vote.record.arrival0 = none →
         exec (.signReceive l raw) s = .next (settle { s1 with vote.record.arrival1 := some (sg.toNat, how) })) ∧
       (d = 0 → s.vote.record.isOpen = true →
         (if second then s.vote.record.expected1 = false ∨ s.vote.record.arrival1 ≠ none
           else s.vote.record.expected0 = false ∨ s.vote.record.arrival0 ≠ none) →
         exec (.signReceive l raw) s = .next (settle s1)))) ∧
   (∀ (l : LinkId) (raw : List Byte) (s : State) (f : Frame) (m n : Cycle) (st : Option ChannelState) (sg : Word),
     accepts l raw f s → f.payload = .sign m n st sg → peerSlot s f.originator = none →
     exec (.signReceive l raw) s = .next (settle (silenceRestarted l s)))) ∧
  (∀ (l : LinkId) (raw : List Byte) (s : State) (f : Frame) (m n : Cycle) (st : Option ChannelState) (sg : Word)
     (me : Identity) (second : Bool),
     accepts l raw f s → f.payload = .sign m n st sg → s.mgmt.params.channelId = some me →
     peerSlot s f.originator = some second → s.csr.state = .sealed ∨ s.csr.state = .voting → s.jnl.rb.rolling = false →
     s.arb.grant = none → m = s.csr.counter → s.vote.record.isOpen = true → s.vote.record.window ≠ none →
     let r := s.vote.record
     let how : Arrival := if f.relayed then .relayed else .direct
     let told := reported f.originator st m n (silenceRestarted l s)
     let s1 := if f.relayed = false ∧ (getLink s (otherLink l)).status = .up then
         sentUp (otherLink l) { f with relayed := true, sender := me } told else told
     (second = false → r.expected0 = true → r.arrival0 = none → r.expected1 = false ∨ r.arrival1 ≠ none →
       exec (.signReceive l raw) s = exec .voteWindowExpiry { s1 with vote.record.arrival0 := some (sg.toNat, how) }) ∧
     (second = true → r.expected1 = true → r.arrival1 = none → r.expected0 = false ∨ r.arrival0 ≠ none →
       exec (.signReceive l raw) s = exec .voteWindowExpiry { s1 with vote.record.arrival1 := some (sg.toNat, how) }))

/-- A REQUEST is refused NOT-ELIGIBLE outside VOTING and HELD, BUSY while a role is held, TOO-OLD for a base that is neither
none nor the committed cycle nor, with Dc-valid set, the cycle before it. Otherwise the source role begins, in VOTING and in
HELD, with R the base's map and the need list's ordinals below V, ACCEPT goes out, and ACCEPTED is handed; a joiner that
already holds starts the hold timer. In HELD with R empty CLOSE follows the ACCEPT at once, with the committed cycle and S,
and the source awaits the verdict; that a hold timer started so keeps running then is the model's reading (log entry 28) (09
sections 9.5 to 9.7). -/
def Obligations.RequestIsRefusedOrAccepted : Prop :=
  ∀ (l : LinkId) (raw : List Byte) (s : State) (f : Frame) (base : Option Cycle) (need : List (BitVec 32)) (me : Identity),
    accepts l raw f s → f.payload = .request base need → s.mgmt.params.channelId = some me →
    let heard := silenceRestarted l s
    let map : Option (List Nat) := match base with
      | none => some (List.range (numVital s))
      | some b => if b = s.csr.committed then some (setUnion s.repair.dv s.repair.dO)
        else if b + 1 = s.csr.committed ∧ s.repair.dcValid = true then
          some (setUnion s.repair.dc (setUnion s.repair.dv s.repair.dO))
        else none
    (s.csr.state ≠ .voting → s.csr.state ≠ .held →
      exec (.requestReceive l raw) s = .next (sentUp l (ownFrame me (.refuse .notEligible)) heard)) ∧
    (s.csr.state = .voting ∨ s.csr.state = .held → s.repair.role ≠ .none →
      exec (.requestReceive l raw) s = .next (sentUp l (ownFrame me (.refuse .busy)) heard)) ∧
    (s.csr.state = .voting ∨ s.csr.state = .held → s.repair.role = .none → map = none →
      exec (.requestReceive l raw) s = .next (sentUp l (ownFrame me (.refuse .tooOld)) heard)) ∧
    (∀ r0, s.csr.state = .voting ∨ s.csr.state = .held → s.repair.role = .none → map = some r0 →
      let r := setUnion r0 ((need.map BitVec.toNat).filter (fun o => decide (o < numVital s)))
      let role : SourceRole :=
        { joiner := f.sender, link := l, base := base, phase := .pass, cycles := 0, linesSent := 0, scan := 0, captured := none
          holdTimer := if (getLink s l).peerHolding = true then some s.mgmt.params.holdLimit else none
          catchupTimer := none, verdictTimer := none, closeCycle := 0, target := 0 }
      let accepted : State :=
        { sentUp l (ownFrame me (.accept base (BitVec.ofNat 32 r.length))) (setRelation f.sender (some .sourceOf) heard) with
          repair.r := r
          repair.role := .source role
          ev := evAfter .repair 1 (.peer f.sender) (wordOf r.length) s }
      (s.csr.state = .voting ∨ r ≠ [] → exec (.requestReceive l raw) s = .next accepted) ∧
      (s.csr.state = .held → r = [] → exec (.requestReceive l raw) s = .next
        { setRelation f.sender (some .joining)
            (sentUp l (ownFrame me (.close s.csr.committed 0 (wordOf s.sig.s))) accepted) with
          repair.role := .source { role with
            phase := .awaitVerdict, verdictTimer := some s.mgmt.params.holdLimit, closeCycle := s.csr.committed
            target := s.sig.s } }))

/-- At the joiner. ACCEPT for the outstanding REQUEST: RECEIVING from that source, with its record; any other, in any role,
is answered ABORT, STALLED. REFUSE TOO-OLD: a new REQUEST without a base. REFUSE for another reason, and the reply timer: the
try fails, and the next candidate is asked, or with none the joiner waits out the retry timer, or with no retries left gives
up with its record. CLOSE from the source in RECEIVING is recorded, and the phase is CLOSING. The retry timer begins a fresh
sequence: a REQUEST to the first eligible peer, or with none the next wait. The receive timer sends ABORT, STALLED to the
source, and ABORT from the source ends the repair: REPAIR and STATE-CHANGE are handed, and the joiner is back in OUT with the
base lost; with S valid no walk is run and a fresh sequence begins at once, with S not valid the preparation walk starts (09
sections 9.4, 9.5, 9.8 and 9.9). The REPAIR record comes first and carries RECEIVING (log entry 43). That an ABORT taken with
reason RELEASED is one like any other is the model's reading (log entry 32). -/
def Obligations.JoinerFollowsItsRequest : Prop :=
  (∀ (l : LinkId) (raw : List Byte) (s : State) (f : Frame) (me : Identity), s.mgmt.params.channelId = some me →
     let heard := silenceRestarted l s
     (accepts l raw f s → ∀ b n, f.payload = .accept b n →
       (∀ j, s.repair.role = .joiner j → j.phase = .requesting → j.candidate = some f.sender →
         let s1 : State := { heard with csr.state := .receiving, csr.stateInv := ~~~ (8 : BitVec 8) }
         exec (.acceptReceive l raw) s = .next { s1 with
           repair.role := .joiner { j with
             phase := .receiving, replyTimer := none, candidate := none, source := some f.sender, link := some l
             linesWritten := 0, receiveTimer := some s.mgmt.params.rejoinRetry }
           ev := evAfter .stateChange 12 (.channelState s.csr.state) (wordOf s.csr.committed.toNat) s1 }) ∧
       ((∀ j, s.repair.role = .joiner j → j.phase ≠ .requesting ∨ j.candidate ≠ some f.sender) →
         exec (.acceptReceive l raw) s = .next (sentUp l (ownFrame me (.abort .stalled)) heard))) ∧
     (accepts l raw f s → ∀ why, f.payload = .refuse why →
       (∀ j second, s.repair.role = .joiner j → j.phase = .requesting → j.candidate = some f.sender → why = .tooOld →
         peerSlot s f.sender = some second → (getPeer s second).link = some l → exec (.refuseReceive l raw) s = .next
         { sentUp l (ownFrame me (.request none [])) (setRelation f.sender (some .joinerOf) heard) with
           repair.role := .joiner { j with
             base := none, baseLost := true, need := [], phase := .requesting, candidate := some f.sender
             replyTimer := some s.mgmt.params.voteWindow } }) ∧
       ((∀ j, s.repair.role = .joiner j → j.phase ≠ .requesting ∨ j.candidate ≠ some f.sender) →
         exec (.refuseReceive l raw) s = .next heard)) ∧
     (∀ (c : Instr) (u : State) (j : JoinerRole) (x : Identity), s.repair.role = .joiner j → j.phase = .requesting →
       j.candidate = some x →
       (c = .refuseReceive l raw ∧ u = heard ∧ accepts l raw f s ∧ f.sender = x ∧
           (f.payload = .refuse .busy ∨ f.payload = .refuse .notEligible)) ∨
         (c = .replyTimerExpiry ∧ u = s ∧ j.replyTimer ≠ none) →
       (∀ y k, otherIds (some me) = some (x, y) → y ∉ j.tried → eligible s.vote.peer1 = true → x ∈ j.tried →
         s.vote.peer1.link = some k → (getLink s k).status = .up →
         ∃ tried, y ∈ tried ∧ (∀ i, i ∈ j.tried → i ∈ tried) ∧ exec c s = .next
           { sentUp k (ownFrame me (.request j.base (j.need.map (BitVec.ofNat 32)))) u with
             vote := { s.vote with peer0.relation := none, peer1.relation := some .joinerOf }
             repair.role := .joiner { j with
               tried := tried, candidate := some y, replyTimer := some s.mgmt.params.voteWindow } }) ∧
       ((∀ i, i ≠ me → i ∈ j.tried) → 0 < j.retry → exec c s = .next { setRelation x none u with
         repair.role := .joiner { j with
           phase := .retryWait, retry := j.retry - 1, candidate := none, replyTimer := none
           retryTimer := some s.mgmt.params.rejoinRetry } }) ∧
       ((∀ i, i ≠ me → i ∈ j.tried) → j.retry = 0 → exec c s = .next { setRelation x none u with
         repair.role := .joiner { j with phase := .gaveUp, candidate := none, replyTimer := none }
         ev := evAfter .repair 11 .none 0 s })) ∧
     (accepts l raw f s → ∀ k n t, f.payload = .close k n t →
       (∀ j, s.repair.role = .joiner j → j.phase = .receiving → j.source = some f.sender →
         exec (.closeReceive l raw) s = .next { heard with
           repair.role := .joiner { j with
             phase := .closing, receiveTimer := none, closeCycle := k, closeTarget := t.toNat, closeLines := n.toNat } }) ∧
       ((∀ j, s.repair.role = .joiner j → j.phase ≠ .receiving ∨ j.source ≠ some f.sender) →
         exec (.closeReceive l raw) s = .next heard))) ∧
  (∀ (s : State) (j : JoinerRole) (me : Identity), s.repair.role = .joiner j → s.mgmt.params.channelId = some me →
     (∀ x y l, j.phase = .retryWait → j.retryTimer ≠ none → otherIds (some me) = some (x, y) → eligible s.vote.peer0 = true →
       s.vote.peer0.link = some l → (getLink s l).status = .up →
       exec .retryTimerExpiry s = .next
         { sentUp l (ownFrame me (.request j.base (j.need.map (BitVec.ofNat 32)))) s with
           vote.peer0.relation := some .joinerOf
           repair.role := .joiner { j with
             phase := .requesting, tried := [x], candidate := some x, retryTimer := none
             replyTimer := some s.mgmt.params.voteWindow } }) ∧
     (j.phase = .retryWait → j.retryTimer ≠ none → eligible s.vote.peer0 = false → eligible s.vote.peer1 = false → 0 < j.retry →
       exec .retryTimerExpiry s = .next { s with
         repair.role := .joiner { j with
           tried := [], retry := j.retry - 1, candidate := none, replyTimer := none
           retryTimer := some s.mgmt.params.rejoinRetry } }) ∧
     (∀ x l, j.phase = .receiving → j.receiveTimer ≠ none → j.source = some x → j.link = some l →
       (getLink s l).status = .up → s.csr.state = .receiving → s.arb.grant = none →
       ∃ t, exec .receiveTimerExpiry s = .next t ∧ ReturnedToOut s t j x l 6 15 [ownFrame me (.abort .stalled)]) ∧
     (∀ x l raw f why, j.phase = .receiving ∨ j.phase = .closing → j.source = some x → j.link = some l →
       s.csr.state = .receiving → s.arb.grant = none → accepts l raw f s → f.payload = .abort why →
       (f.sender = x → ∃ t, exec (.abortReceive l raw) s = .next (settle t) ∧
         ReturnedToOut (silenceRestarted l s) t j x l (3 + why.code) 15 []) ∧
       (f.sender ≠ x → exec (.abortReceive l raw) s = .next (settle (silenceRestarted l s)))))

/-- The receive buffer. A LINE below V for the receiving joiner joins the end of the buffer, restarts the receive timer, and
at 3 frames or more HOLD goes out once; with 4 frames held it is lost and counted. In CLOSING a LINE from the source joins
the buffer, with HOLD, and is counted when it is lost, in the same way, and is dropped without a write when it heads the
buffer, with GO where HOLD was sent: the model's reading (log entry 21). A LINE that no joiner receives is dropped. At the
source HOLD sets the peer-holding flag and starts the hold timer, GO clears it and stops the timer, and a captured frame that
waited goes out and is counted; where R is empty, in catch-up or in PASS in HELD, CLOSE follows it, with the cycle and the
target of the catch-up or the committed cycle and S, and the source awaits the verdict. That a LINE counts as sent when it is
handed to the link, the captured one at GO and not before, is the model's reading (log entry 28) (08 section 8.7, 09 sections
9.6 to 9.8). -/
def Obligations.ReceiveBufferHoldsAndReleases : Prop :=
  (∀ (l : LinkId) (raw : List Byte) (s : State) (f : Frame) (o : BitVec 32) (ws : List Word) (j : JoinerRole) (me : Identity),
    accepts l raw f s → f.payload = .line o ws → s.mgmt.params.channelId = some me →
    s.repair.role = .joiner j → j.phase = .receiving → j.link = some l →
    let timed : State := { silenceRestarted l s with
      repair.role := .joiner { j with receiveTimer := some s.mgmt.params.rejoinRetry } }
    let b := (getLink s l).buffer ++ [{ ordinal := o.toNat, words := ws }]
    (4 ≤ (getLink s l).buffer.length → exec (.lineReceive l raw) s = .next
      (updLink l (fun k => { k with discards := satSucc k.discards }) timed)) ∧
    ((getLink s l).buffer.length < 4 → (∀ x ∈ b, x.ordinal < numVital s ∧ x.late = false) →
      (b.length < 3 ∨ (getLink s l).holdSent = true → exec (.lineReceive l raw) s = .next
        (updLink l (fun k => { k with buffer := b }) timed)) ∧
      (3 ≤ b.length → (getLink s l).holdSent = false → exec (.lineReceive l raw) s = .next
        (updLink l (fun k => { k with buffer := b, holdSent := true }) (sentUp l (ownFrame me .hold) timed))))) ∧
  (∀ (l : LinkId) (raw : List Byte) (s : State) (f : Frame) (o : BitVec 32) (ws : List Word) (j : JoinerRole) (me : Identity),
    accepts l raw f s → f.payload = .line o ws → s.mgmt.params.channelId = some me →
    s.repair.role = .joiner j → j.phase = .closing → j.link = some l →
    (∀ x ∈ (getLink s l).buffer, x.ordinal < numVital s ∧ x.late = false) →
    let heard := silenceRestarted l s
    let b := (getLink s l).buffer ++ [{ ordinal := o.toNat, words := ws, late := true }]
    (4 ≤ (getLink s l).buffer.length → exec (.lineReceive l raw) s = .next
      (updLink l (fun k => { k with discards := satSucc k.discards }) heard)) ∧
    ((getLink s l).buffer = [] → (getLink s l).holdSent = false → exec (.lineReceive l raw) s = .next heard) ∧
    ((getLink s l).buffer = [] → (getLink s l).holdSent = true → exec (.lineReceive l raw) s = .next
      (updLink l (fun k => { k with holdSent := false }) (sentUp l (ownFrame me .go) heard))) ∧
    ((getLink s l).buffer ≠ [] → (getLink s l).buffer.length < 4 →
      (b.length < 3 ∨ (getLink s l).holdSent = true → exec (.lineReceive l raw) s = .next
        (updLink l (fun k => { k with buffer := b }) heard)) ∧
      (3 ≤ b.length → (getLink s l).holdSent = false → exec (.lineReceive l raw) s = .next
        (updLink l (fun k => { k with buffer := b, holdSent := true }) (sentUp l (ownFrame me .hold) heard))))) ∧
  (∀ (l : LinkId) (raw : List Byte) (s : State) (f : Frame) (o : BitVec 32) (ws : List Word),
    accepts l raw f s → f.payload = .line o ws → receivingLink s ≠ some l → (getLink s l).buffer = [] →
    (getLink s l).holdSent = false → exec (.lineReceive l raw) s = .next (silenceRestarted l s)) ∧
  (∀ (l : LinkId) (raw : List Byte) (s : State) (f : Frame) (r : SourceRole), accepts l raw f s →
    s.repair.role = .source r → r.link = l → r.phase ≠ .awaitVerdict → r.captured = none →
    (f.payload = .hold → (getLink s l).peerHolding = false → exec (.holdReceive l raw) s = .next
      { updLink l (fun k => { k with peerHolding := true }) (silenceRestarted l s) with
        repair.role := .source { r with holdTimer := some s.mgmt.params.holdLimit } }) ∧
    (f.payload = .hold → (getLink s l).peerHolding = true → exec (.holdReceive l raw) s = .next (silenceRestarted l s)) ∧
    (f.payload = .go → (getLink s l).peerHolding = true → exec (.goReceive l raw) s = .next (settle
      { updLink l (fun k => { k with peerHolding := false }) (silenceRestarted l s) with
        repair.role := .source { r with holdTimer := none } }))) ∧
  (∀ (l : LinkId) (raw : List Byte) (s : State) (f : Frame) (r : SourceRole) (c : LineFrame) (me : Identity), accepts l raw f s →
    f.payload = .go → s.mgmt.params.channelId = some me → s.repair.role = .source r → r.link = l → r.captured = some c →
    r.phase ≠ .awaitVerdict → (getLink s l).peerHolding = true →
    let sent := satSucc r.linesSent
    let cycle := if r.phase = .catchup then r.closeCycle else s.csr.committed
    let target := if r.phase = .catchup then r.target else s.sig.s
    let going : State := sentUp l (ownFrame me (.line (BitVec.ofNat 32 c.ordinal) c.words))
      (updLink l (fun k => { k with peerHolding := false }) (silenceRestarted l s))
    let gone : SourceRole := { r with holdTimer := none, captured := none, linesSent := sent }
    (s.repair.r ≠ [] ∨ (r.phase = .pass ∧ s.csr.state ≠ .held) →
      exec (.goReceive l raw) s = .next (settle { going with repair.role := .source gone })) ∧
    (s.repair.r = [] → r.phase = .catchup ∨ s.csr.state = .held → exec (.goReceive l raw) s = .next (settle
      { setRelation r.joiner (some .joining)
          (sentUp l (ownFrame me (.close cycle (BitVec.ofNat 32 sent) (wordOf target))) going) with
        repair.role := .source { gone with
          phase := .awaitVerdict, catchupTimer := none, verdictTimer := some s.mgmt.params.holdLimit, closeCycle := cycle
          target := target } })))

/-- The ends of a source role. At a VERDICT from its joiner in AWAIT-VERDICT the role ends, R is cleared and REPAIR is handed
with the verdict; after MATCH a channel in HELD is VOTING with STATE-CHANGE behind it; any other VERDICT is ignored. ABORT
from its joiner: the role ends with the reason reported. The hold, catch-up and verdict timers: the same with STALLED, and
ABORT goes out (09 sections 9.6, 9.7 and 9.9). -/
def Obligations.SourceRoleEnds : Prop :=
  ∀ (l : LinkId) (raw : List Byte) (s : State) (f : Frame) (r : SourceRole), s.repair.role = .source r →
    let ended (t : State) (detail : Nat) : State := { setRelation r.joiner none t with
      repair.role := .none, repair.r := [], ev := evAfter .repair detail (.peer r.joiner) (wordOf r.linesSent) s }
    (accepts l raw f s → f.sender = r.joiner → r.phase = .awaitVerdict → ∀ v, f.payload = .verdict v →
      (s.csr.state ≠ .held ∨ v = .mismatch → exec (.verdictReceive l raw) s = .next
        (ended (silenceRestarted l s) (match v with
          | .matched => 2
          | .mismatch => 3))) ∧
      (s.csr.state = .held → v = .matched → s.csr.counter = s.csr.committed → ∃ t,
        exec (.verdictReceive l raw) s = .next t ∧
        let voting : State := { ended (silenceRestarted l s) 2 with
          csr := { s.csr with state := .voting, stateInv := ~~~ (5 : BitVec 8), counterInv := ~~~ s.csr.committed } }
        t = { voting with ev := evAfter .stateChange 10 (.channelState .held) (wordOf s.csr.committed.toNat) voting })) ∧
    (accepts l raw f s → ∀ v, f.payload = .verdict v → f.sender ≠ r.joiner ∨ r.phase ≠ .awaitVerdict →
      exec (.verdictReceive l raw) s = .next (silenceRestarted l s)) ∧
    (accepts l raw f s → s.arb.grant = none → f.sender = r.joiner → ∀ why, f.payload = .abort why → exec (.abortReceive l raw) s = .next (settle
      (ended (silenceRestarted l s) (3 + why.code)))) ∧
    (∀ me, s.mgmt.params.channelId = some me → (getLink s r.link).status = .up →
      let told := ended (sentUp r.link (ownFrame me (.abort .stalled)) s) 6
      (r.holdTimer ≠ none → s.arb.grant = none → exec .holdTimerExpiry s = .next (settle told)) ∧
      (r.catchupTimer ≠ none → s.arb.grant = none → exec .catchupTimerExpiry s = .next (settle told)) ∧
      (r.verdictTimer ≠ none → exec .verdictTimerExpiry s = .next told))

/-- A line capture of a source reads the first line of R from the scan position, takes it out of R, and sends it as a LINE;
memory stays. While the peer holds, the frame waits as the captured one and is not sent. The capture of the last line of R in
catch-up, or in PASS in HELD, sends CLOSE behind the LINE, with the cycle and the target of the catch-up or the committed
cycle and S, and the source awaits the verdict. A LINE counts as sent when it is handed to the link, so a captured one that
waits does not yet count: the model's reading (log entry 28). A receive-write stores the 256 words of the oldest frame, folds
every change into S while it is valid, counts the line and takes the frame off the buffer; where HOLD was sent and at most one
frame is left, GO goes out. In CLOSING, frames that came after the CLOSE are then dropped (log entry 21). So far all words
read CLEAN. With CORRECTED words among them, each is corrected, and the capture or the receive-write then does what it does
with every word CLEAN. A word of the line to capture that reads UNCORRECTABLE stops the frame: no LINE is sent, the ordinal
is out of R, and the channel withdraws, the source role ended with SOURCE-FAULT. An old value that reads UNCORRECTABLE at a
receive-write makes S invalid: all 256 words are written, nothing is folded, the line is counted and the frame taken off,
then the joiner's role ends with JOINER-FAULT, its ABORT sent to the source, and the channel is back in OUT; that the line and
its GO come before these consequences is the model's choice (log entry 33), and so is the order of the records of the return
(log entry 43) (09 sections 9.6 to 9.9, 08 section 8.7, 02 sections 2.1.3 and 2.1.4, 06 section 6.6). -/
def Obligations.LinesAreCapturedAndWritten : Prop :=
  (∀ (s : State) (r : SourceRole) (o l : Nat) (vs : List Word) (me : Identity), runs .lineCapture s →
    s.repair.role = .source r → nextCapture s.repair.r r.scan = some o → lineOf s.regions.committed o = some l →
    vs.length = 256 → cleanAt s (l * 256) vs → s.mgmt.params.channelId = some me → (getLink s r.link).status = .up →
    (getLink s r.link).peerHolding = false → (∃ x ∈ s.repair.r, x ≠ o) ∨ (r.phase = .pass ∧ s.csr.state ≠ .held) →
    exec .lineCapture s = .next (settle { sentUp r.link (ownFrame me (.line (BitVec.ofNat 32 o) vs)) s with
      arb.grant := none
      repair.r := s.repair.r.filter (fun x => decide (x ≠ o))
      repair.role := .source { r with scan := o + 1, captured := none, linesSent := satSucc r.linesSent } })) ∧
  (∀ (s : State) (r : SourceRole) (o l : Nat) (vs : List Word) (me : Identity), runs .lineCapture s →
    s.repair.role = .source r → nextCapture s.repair.r r.scan = some o → (∀ x ∈ s.repair.r, x = o) →
    lineOf s.regions.committed o = some l → vs.length = 256 → cleanAt s (l * 256) vs → s.mgmt.params.channelId = some me →
    (getLink s r.link).status = .up → (getLink s r.link).peerHolding = false →
    r.phase = .catchup ∨ (r.phase = .pass ∧ s.csr.state = .held) →
    let sent := satSucc r.linesSent
    let cycle := if r.phase = .catchup then r.closeCycle else s.csr.committed
    let target := if r.phase = .catchup then r.target else s.sig.s
    exec .lineCapture s = .next (settle { setRelation r.joiner (some .joining)
        (sentUp r.link (ownFrame me (.close cycle (BitVec.ofNat 32 sent) (wordOf target)))
          (sentUp r.link (ownFrame me (.line (BitVec.ofNat 32 o) vs)) s)) with
      arb.grant := none
      repair := { s.repair with
        r := []
        role := .source { r with
          scan := o + 1, captured := none, linesSent := sent, phase := .awaitVerdict, catchupTimer := none
          verdictTimer := some s.mgmt.params.holdLimit, closeCycle := cycle, target := target } } })) ∧
  (∀ (s : State) (r : SourceRole) (o l : Nat) (vs : List Word), runs .lineCapture s →
    s.repair.role = .source r → nextCapture s.repair.r r.scan = some o → lineOf s.regions.committed o = some l →
    vs.length = 256 → cleanAt s (l * 256) vs → (getLink s r.link).peerHolding = true →
    exec .lineCapture s = .next (settle { s with
      arb.grant := none
      repair.r := s.repair.r.filter (fun x => decide (x ≠ o))
      repair.role := .source { r with scan := o + 1, captured := some { ordinal := o, words := vs } } })) ∧
  (∀ (s : State) (j : JoinerRole) (k : LinkId) (f : LineFrame) (rest left : List LineFrame) (l : Nat) (vs : List Word),
    runs .receiveWrite s → s.repair.role = .joiner j → j.phase = .receiving ∨ j.phase = .closing → j.link = some k →
    (getLink s k).buffer = f :: rest →
    (left = rest ∧ ∀ x ∈ rest, x.ordinal < numVital s ∧ x.late = false) ∨
      (left = [] ∧ ∀ x ∈ rest, numVital s ≤ x.ordinal ∨ x.late = true) →
    lineOf s.regions.committed f.ordinal = some l → f.words.length = 256 → vs.length = 256 → cleanAt s (l * 256) vs →
    let written : State := updLink k (fun x => { x with buffer := left }) { s with
      arb.grant := none
      mem := (writeWords ((lineWords l).zip f.words) s).mem
      sig.s := if s.sig.valid then
          (List.range 256).foldl (fun sum i =>
            foldChange s.sig.committedKeys sum (l * 256 + i) (vs.getD i 0) (f.words.getD i 0)) s.sig.s
        else s.sig.s
      repair.role := .joiner { j with linesWritten := satSucc j.linesWritten } }
    ((getLink s k).holdSent = false ∨ 2 ≤ left.length → exec .receiveWrite s = .next written) ∧
    (∀ me, (getLink s k).holdSent = true → left.length ≤ 1 → s.mgmt.params.channelId = some me → (getLink s k).status = .up →
      exec .receiveWrite s = .next (updLink k (fun x => { x with holdSent := false }) (sentUp k (ownFrame me .go) written)))) ∧
  (∀ (s : State) (r : SourceRole) (o l : Nat), runs .lineCapture s → s.repair.role = .source r →
    nextCapture s.repair.r r.scan = some o → lineOf s.regions.committed o = some l →
    let seen := outcomesAt s (lineWords l)
    (badWords seen = [] → s.mem.wf = true →
      exec .lineCapture s = exec .lineCapture { met .capture seen s with arb.grant := some .lineCapture }) ∧
    (badWords seen ≠ [] → classOf s l = some .vital → s.csr.state = .voting ∨ s.csr.state = .held → s.jnl.rb.rolling = false →
      ∃ t, exec .lineCapture s = .next (settle t) ∧ Withdrew { met .capture seen { s with arb.grant := none } with
        repair := { s.repair with
          r := s.repair.r.filter (fun x => decide (x ≠ o)), role := .source { r with scan := o + 1 } } } t)) ∧
  (∀ (s : State) (j : JoinerRole) (k : LinkId) (f : LineFrame) (rest : List LineFrame) (l : Nat),
    runs .receiveWrite s → s.repair.role = .joiner j → j.phase = .receiving ∨ j.phase = .closing → j.link = some k →
    (getLink s k).buffer = f :: rest → lineOf s.regions.committed f.ordinal = some l → f.words.length = 256 →
    let seen := outcomesAt s (lineWords l)
    (badWords seen = [] → s.mem.wf = true →
      exec .receiveWrite s = exec .receiveWrite { met .receive seen s with arb.grant := some .receiveWrite }) ∧
    (∀ left me x, badWords seen ≠ [] → classOf s l = some .vital → s.csr.state = .receiving → j.source = some x →
      s.mgmt.params.channelId = some me → (getLink s k).status = .up →
      (left = rest ∧ ∀ x ∈ rest, x.ordinal < numVital s ∧ x.late = false) ∨
        (left = [] ∧ ∀ x ∈ rest, numVital s ≤ x.ordinal ∨ x.late = true) →
      let j1 := { j with linesWritten := satSucc j.linesWritten }
      let read := met .receive seen { s with arb.grant := none }
      let written : State := updLink k (fun x => { x with buffer := left }) { read with
        mem := (writeWords ((lineWords l).zip f.words) read).mem, repair.role := .joiner j1 }
      let drained := if (getLink s k).holdSent = true ∧ left.length ≤ 1 then
          updLink k (fun x => { x with holdSent := false }) (sentUp k (ownFrame me .go) written) else written
      ∃ t, exec .receiveWrite s = .next t ∧ ReturnedToOut drained t j1 x k 5 15 [ownFrame me (.abort .joinerFault)]))

/-- In CLOSING with the buffer empty the joiner answers. S valid and equal to the target, with as many lines written as sent:
MATCH, with REPAIR and STATE-CHANGE, and it is VOTING at the CLOSE cycle with C = S, journal and maps empty and no role.
Otherwise MISMATCH, with REPAIR and STATE-CHANGE, and it is back in OUT with the base lost: with S valid no walk is run and a
fresh sequence begins at once, with S not valid the preparation walk starts. Memory stays (09 sections 9.8 and 9.9). At
MISMATCH the REPAIR record comes first and carries RECEIVING (log entry 43). -/
def Obligations.JoinerGivesItsVerdict : Prop :=
  ∀ (s : State) (j : JoinerRole) (l : LinkId) (x me : Identity), s.repair.role = .joiner j → j.phase = .closing →
    j.link = some l → j.source = some x → (getLink s l).buffer = [] → s.mgmt.params.channelId = some me →
    (getLink s l).status = .up →
    let sent (v : Verdict) (t : State) : Prop := (match l with
      | .link1 => s.out.tx1 ++ [ownFrame me (.verdict v)] <+: t.out.tx1
      | .link2 => s.out.tx2 ++ [ownFrame me (.verdict v)] <+: t.out.tx2)
    (s.sig.valid = true → s.sig.s = j.closeTarget → j.linesWritten = j.closeLines →
      ∃ t, exec .joinerVerdict s = .next t ∧ sent .matched t ∧
        t.csr.state = .voting ∧ t.csr.counter = j.closeCycle ∧ t.csr.committed = j.closeCycle ∧ t.csr.c = s.sig.s ∧
        copiesAgree t ∧ t.sig = s.sig ∧ t.mem = s.mem ∧ t.jnl = { JournalUnit.reset with rb := s.jnl.rb } ∧
        t.repair = { dc := [], dv := [], dO := [], r := s.repair.r, dcValid := false, role := .none } ∧
        t.vote.peer0.slot = none ∧ t.vote.peer1.slot = none ∧ t.ev.health = s.ev.health ∧
        let matched : State := { s with csr := t.csr }
        t.ev = evAfter .stateChange 13 (.channelState s.csr.state) (wordOf j.closeCycle.toNat)
          { matched with ev := evAfter .repair 2 (.peer x) (wordOf j.linesWritten) matched }) ∧
    (¬ (s.sig.valid = true ∧ s.sig.s = j.closeTarget ∧ j.linesWritten = j.closeLines) → s.csr.state = .receiving →
      ∃ t, exec .joinerVerdict s = .next t ∧ ReturnedToOut s t j x l 3 14 [ownFrame me (.verdict .mismatch)])

/-! ### Encodings and invariants -/

/-- A link frame's bytes pass the checks of its receiver and give the frame back, for every frame that a part can send: every
field at every value (11 section 11.2, 08 section 8.3.2). -/
def Obligations.FramesReadBackAsTheyWereSent : Prop :=
  ∀ f : Frame, f.wellFormed = true → checkFrame f.bytes = some f

/-- Memory keeps its canonical form in every step: addresses strictly rising, no entry equal to what an unlisted address
reads as. The form is the model's own (log entries 1 and 2). -/
def Obligations.EveryStepKeepsTheMemoryForm : Prop :=
  ∀ s t : State, s.mem.wf = true → step s = .next t → t.mem.wf = true

/-- Every change of an item of the channel state record writes both copies: where the copies agree they agree after every
step. And these keep their bounds: the processor-port queue, the command area, its issued copy and the result words, the two
receive buffers, the poisoned-lines list and the need list, the suspect table and its counts, the remap table, the two region
tables, the corrected counters and the entries of the journal; and the 22 error counters, the loop count of the proof test
and the lines sent and written of a role hold 32 bits (06 section 6.2, 01 section 1.2, 05 section 5.1.2, 08 section 8.7, 02
section 2.6). Not named: the waiting queue of records, which the manual lets a SUMMARY enter at the front whatever it holds.
-/
def Obligations.EveryStepKeepsCopiesAndBounds : Prop :=
  ∀ s t : State, step s = .next t →
    (copiesAgree s → copiesAgree t) ∧ (InBounds s → InBounds t) ∧ (InBounds s → CountersFit s → CountersFit t)

/-- The state after reset meets the invariants that every step keeps. -/
def Obligations.ResetStateIsWellKept : Prop :=
  State.reset.mem.wf = true ∧ copiesAgree State.reset ∧ InBounds State.reset ∧ CountersFit State.reset

/-- HEALTH changes only at a vote outcome with the FAULT latch clear (07 section 7.6.2): in a step taken with the latch set,
from a state whose held head, if one is held, is held for conditions that still apply, and only transactions of 1 to 8 words
queued, HEALTH stays where it is, whatever the command but power-on and the RESET input. Each command of the second clause
decides a held head again within its own event when a condition that applied to it has ended (01 section 1.5.1), so it leaves
a state that meets that condition, whatever the state before it. -/
def Obligations.HealthStandsStillWhileTheLatchIsSet : Prop :=
  (∀ (c : Instr) (s t : State), c ≠ .powerOn → c ≠ .resetInput → s.ev.faultLatch = true → holdsStand s →
    (∀ x ∈ s.port.queue, x.wellFormed = true) → exec c s = .next t → t.ev.health = s.ev.health) ∧
  (∀ (c : Instr) (s t : State),
    c ∈ [Instr.voteWindowExpiry, .rollbackStep, .scrubStep, .copyStep, .lineCapture, .holdTimerExpiry, .catchupTimerExpiry,
        .release, .deferredCommandEffect, .issueDiscard, .transactionDecide] ∨
      (∃ l, c = .silenceTimerExpiry l) ∨ (∃ p v, c = .setParameter p v) ∨ (∃ w, c = .unknownCommand w) ∨
      (∃ l raw, c = .hailReceive l raw ∨ c = .beatReceive l raw ∨ c = .signReceive l raw ∨ c = .goReceive l raw ∨
        c = .abortReceive l raw) →
    exec c s = .next t → holdsStand t)
end

