-- ==== Sys2Proof/Laws/Ops.lean ====
section
/-! SUPPORT. What the operations of Machine/Ops.lean leave as it was: for each operation one lemma that names every
part of the state it keeps. -/

namespace Sys2Proof.Machine

set_option linter.unnecessarySeqFocus false
set_option linter.unusedTactic false
set_option linter.unreachableTactic false
set_option linter.unusedSimpArgs false
@[simp] theorem poke_keeps (a : Nat) (w : Stored) (s : State) :
    (poke a w s).csr = s.csr ∧ (poke a w s).port = s.port ∧ (poke a w s).arb = s.arb ∧ (poke a w s).regions = s.regions ∧
    (poke a w s).counters = s.counters ∧ (poke a w s).scrub = s.scrub ∧ (poke a w s).spare = s.spare ∧
    (poke a w s).sig = s.sig ∧ (poke a w s).jnl = s.jnl ∧ (poke a w s).vote = s.vote ∧ (poke a w s).link1 = s.link1 ∧
    (poke a w s).link2 = s.link2 ∧ (poke a w s).repair = s.repair ∧ (poke a w s).mgmt = s.mgmt ∧ (poke a w s).ev = s.ev ∧
    (poke a w s).out = s.out ∧ (poke a w s).pending = s.pending := by
  simp only [poke] <;> (repeat' split) <;> simp

@[simp] theorem writeWord_keeps (a : Nat) (v : Word) (s : State) :
    (writeWord a v s).csr = s.csr ∧ (writeWord a v s).port = s.port ∧ (writeWord a v s).arb = s.arb ∧
    (writeWord a v s).regions = s.regions ∧ (writeWord a v s).counters = s.counters ∧ (writeWord a v s).scrub = s.scrub ∧
    (writeWord a v s).spare = s.spare ∧ (writeWord a v s).sig = s.sig ∧ (writeWord a v s).jnl = s.jnl ∧
    (writeWord a v s).vote = s.vote ∧ (writeWord a v s).link1 = s.link1 ∧ (writeWord a v s).link2 = s.link2 ∧
    (writeWord a v s).repair = s.repair ∧ (writeWord a v s).mgmt = s.mgmt ∧ (writeWord a v s).ev = s.ev ∧
    (writeWord a v s).out = s.out ∧ (writeWord a v s).pending = s.pending := by
  simp only [writeWord] <;> (repeat' split) <;> simp

@[simp] theorem writeWords_keeps (xs : List (Nat × Word)) (s : State) :
    (writeWords xs s).csr = s.csr ∧ (writeWords xs s).port = s.port ∧ (writeWords xs s).arb = s.arb ∧
    (writeWords xs s).regions = s.regions ∧ (writeWords xs s).counters = s.counters ∧ (writeWords xs s).scrub = s.scrub ∧
    (writeWords xs s).spare = s.spare ∧ (writeWords xs s).sig = s.sig ∧ (writeWords xs s).jnl = s.jnl ∧
    (writeWords xs s).vote = s.vote ∧ (writeWords xs s).link1 = s.link1 ∧ (writeWords xs s).link2 = s.link2 ∧
    (writeWords xs s).repair = s.repair ∧ (writeWords xs s).mgmt = s.mgmt ∧ (writeWords xs s).ev = s.ev ∧
    (writeWords xs s).out = s.out ∧ (writeWords xs s).pending = s.pending := by
  induction xs generalizing s with
  | nil => simp [writeWords]
  | cons x xs ih =>
    obtain ⟨_, _⟩ := x
    simp [writeWords, ih]

@[simp] theorem handRecord_keeps (e : EventRecord) (s : State) :
    (handRecord e s).mem = s.mem ∧ (handRecord e s).csr = s.csr ∧ (handRecord e s).port = s.port ∧
    (handRecord e s).arb = s.arb ∧ (handRecord e s).regions = s.regions ∧ (handRecord e s).counters = s.counters ∧
    (handRecord e s).scrub = s.scrub ∧ (handRecord e s).spare = s.spare ∧ (handRecord e s).sig = s.sig ∧
    (handRecord e s).jnl = s.jnl ∧ (handRecord e s).vote = s.vote ∧ (handRecord e s).link1 = s.link1 ∧
    (handRecord e s).link2 = s.link2 ∧ (handRecord e s).repair = s.repair ∧ (handRecord e s).mgmt = s.mgmt ∧
    (handRecord e s).ev.health = s.ev.health ∧ (handRecord e s).ev.faultLatch = s.ev.faultLatch ∧
    (handRecord e s).ev.producer = s.ev.producer ∧ (handRecord e s).ev.consumer = s.ev.consumer ∧
    (handRecord e s).ev.kinds = s.ev.kinds ∧ (handRecord e s).ev.intBusy = s.ev.intBusy ∧
    (handRecord e s).ev.intLevel = s.ev.intLevel ∧ (handRecord e s).out = s.out ∧ (handRecord e s).pending = s.pending := by
  simp only [handRecord] <;> (repeat' split) <;> simp

@[simp] theorem handAt_keeps (k : EventKind) (detail : Nat) (subj : Subject) (v : Word) (cyc : Cycle) (s : State) :
    (handAt k detail subj v cyc s).mem = s.mem ∧ (handAt k detail subj v cyc s).csr = s.csr ∧
    (handAt k detail subj v cyc s).port = s.port ∧ (handAt k detail subj v cyc s).arb = s.arb ∧
    (handAt k detail subj v cyc s).regions = s.regions ∧ (handAt k detail subj v cyc s).counters = s.counters ∧
    (handAt k detail subj v cyc s).scrub = s.scrub ∧ (handAt k detail subj v cyc s).spare = s.spare ∧
    (handAt k detail subj v cyc s).sig = s.sig ∧ (handAt k detail subj v cyc s).jnl = s.jnl ∧
    (handAt k detail subj v cyc s).vote = s.vote ∧ (handAt k detail subj v cyc s).link1 = s.link1 ∧
    (handAt k detail subj v cyc s).link2 = s.link2 ∧ (handAt k detail subj v cyc s).repair = s.repair ∧
    (handAt k detail subj v cyc s).mgmt = s.mgmt ∧ (handAt k detail subj v cyc s).ev.health = s.ev.health ∧
    (handAt k detail subj v cyc s).ev.faultLatch = s.ev.faultLatch ∧
    (handAt k detail subj v cyc s).ev.producer = s.ev.producer ∧
    (handAt k detail subj v cyc s).ev.consumer = s.ev.consumer ∧ (handAt k detail subj v cyc s).ev.kinds = s.ev.kinds ∧
    (handAt k detail subj v cyc s).ev.intBusy = s.ev.intBusy ∧ (handAt k detail subj v cyc s).ev.intLevel = s.ev.intLevel ∧
    (handAt k detail subj v cyc s).out = s.out ∧ (handAt k detail subj v cyc s).pending = s.pending := by
  simp only [handAt] <;> (repeat' split) <;> simp

@[simp] theorem hand_keeps (k : EventKind) (detail : Nat) (subj : Subject) (v : Word) (s : State) :
    (hand k detail subj v s).mem = s.mem ∧ (hand k detail subj v s).csr = s.csr ∧ (hand k detail subj v s).port = s.port ∧
    (hand k detail subj v s).arb = s.arb ∧ (hand k detail subj v s).regions = s.regions ∧
    (hand k detail subj v s).counters = s.counters ∧ (hand k detail subj v s).scrub = s.scrub ∧
    (hand k detail subj v s).spare = s.spare ∧ (hand k detail subj v s).sig = s.sig ∧ (hand k detail subj v s).jnl = s.jnl ∧
    (hand k detail subj v s).vote = s.vote ∧ (hand k detail subj v s).link1 = s.link1 ∧
    (hand k detail subj v s).link2 = s.link2 ∧ (hand k detail subj v s).repair = s.repair ∧
    (hand k detail subj v s).mgmt = s.mgmt ∧ (hand k detail subj v s).ev.health = s.ev.health ∧
    (hand k detail subj v s).ev.faultLatch = s.ev.faultLatch ∧ (hand k detail subj v s).ev.producer = s.ev.producer ∧
    (hand k detail subj v s).ev.consumer = s.ev.consumer ∧ (hand k detail subj v s).ev.kinds = s.ev.kinds ∧
    (hand k detail subj v s).ev.intBusy = s.ev.intBusy ∧ (hand k detail subj v s).ev.intLevel = s.ev.intLevel ∧
    (hand k detail subj v s).out = s.out ∧ (hand k detail subj v s).pending = s.pending := by
  simp only [hand] <;> (repeat' split) <;> simp

@[simp] theorem setState_keeps (st : ChannelState) (s : State) :
    (setState st s).mem = s.mem ∧ (setState st s).csr.counter = s.csr.counter ∧
    (setState st s).csr.committed = s.csr.committed ∧ (setState st s).csr.c = s.csr.c ∧ (setState st s).port = s.port ∧
    (setState st s).arb = s.arb ∧ (setState st s).regions = s.regions ∧ (setState st s).counters = s.counters ∧
    (setState st s).scrub = s.scrub ∧ (setState st s).spare = s.spare ∧ (setState st s).sig = s.sig ∧
    (setState st s).jnl = s.jnl ∧ (setState st s).vote = s.vote ∧ (setState st s).link1 = s.link1 ∧
    (setState st s).link2 = s.link2 ∧ (setState st s).repair = s.repair ∧ (setState st s).mgmt = s.mgmt ∧
    (setState st s).ev = s.ev ∧ (setState st s).out = s.out ∧ (setState st s).pending = s.pending := by
  simp only [setState] <;> (repeat' split) <;> simp

@[simp] theorem setCommitted_keeps (n : Cycle) (s : State) :
    (setCommitted n s).mem = s.mem ∧ (setCommitted n s).csr.state = s.csr.state ∧
    (setCommitted n s).csr.counter = s.csr.counter ∧ (setCommitted n s).csr.c = s.csr.c ∧ (setCommitted n s).port = s.port ∧
    (setCommitted n s).arb = s.arb ∧ (setCommitted n s).regions = s.regions ∧ (setCommitted n s).counters = s.counters ∧
    (setCommitted n s).scrub = s.scrub ∧ (setCommitted n s).spare = s.spare ∧ (setCommitted n s).sig = s.sig ∧
    (setCommitted n s).jnl = s.jnl ∧ (setCommitted n s).vote = s.vote ∧ (setCommitted n s).link1 = s.link1 ∧
    (setCommitted n s).link2 = s.link2 ∧ (setCommitted n s).repair = s.repair ∧ (setCommitted n s).mgmt = s.mgmt ∧
    (setCommitted n s).ev = s.ev ∧ (setCommitted n s).out = s.out ∧ (setCommitted n s).pending = s.pending := by
  simp only [setCommitted] <;> (repeat' split) <;> simp

@[simp] theorem setC_keeps (c : Nat) (s : State) :
    (setC c s).mem = s.mem ∧ (setC c s).csr.state = s.csr.state ∧ (setC c s).csr.counter = s.csr.counter ∧
    (setC c s).csr.committed = s.csr.committed ∧ (setC c s).port = s.port ∧ (setC c s).arb = s.arb ∧
    (setC c s).regions = s.regions ∧ (setC c s).counters = s.counters ∧ (setC c s).scrub = s.scrub ∧
    (setC c s).spare = s.spare ∧ (setC c s).sig = s.sig ∧ (setC c s).jnl = s.jnl ∧ (setC c s).vote = s.vote ∧
    (setC c s).link1 = s.link1 ∧ (setC c s).link2 = s.link2 ∧ (setC c s).repair = s.repair ∧ (setC c s).mgmt = s.mgmt ∧
    (setC c s).ev = s.ev ∧ (setC c s).out = s.out ∧ (setC c s).pending = s.pending := by
  simp only [setC] <;> (repeat' split) <;> simp

@[simp] theorem emptySlots_keeps (s : State) :
    (emptySlots s).mem = s.mem ∧ (emptySlots s).csr = s.csr ∧ (emptySlots s).port = s.port ∧ (emptySlots s).arb = s.arb ∧
    (emptySlots s).regions = s.regions ∧ (emptySlots s).counters = s.counters ∧ (emptySlots s).scrub = s.scrub ∧
    (emptySlots s).spare = s.spare ∧ (emptySlots s).sig = s.sig ∧ (emptySlots s).jnl = s.jnl ∧
    (emptySlots s).vote.record = s.vote.record ∧ (emptySlots s).vote.skewReported = s.vote.skewReported ∧
    (emptySlots s).link1 = s.link1 ∧ (emptySlots s).link2 = s.link2 ∧ (emptySlots s).repair = s.repair ∧
    (emptySlots s).mgmt = s.mgmt ∧ (emptySlots s).ev = s.ev ∧ (emptySlots s).out = s.out ∧
    (emptySlots s).pending = s.pending := by
  simp only [emptySlots] <;> (repeat' split) <;> simp

@[simp] theorem setCounter_keeps (n : Cycle) (s : State) :
    (setCounter n s).mem = s.mem ∧ (setCounter n s).csr.state = s.csr.state ∧
    (setCounter n s).csr.committed = s.csr.committed ∧ (setCounter n s).csr.c = s.csr.c ∧ (setCounter n s).port = s.port ∧
    (setCounter n s).arb = s.arb ∧ (setCounter n s).regions = s.regions ∧ (setCounter n s).counters = s.counters ∧
    (setCounter n s).scrub = s.scrub ∧ (setCounter n s).spare = s.spare ∧ (setCounter n s).sig = s.sig ∧
    (setCounter n s).jnl = s.jnl ∧ (setCounter n s).vote.record = s.vote.record ∧ (setCounter n s).link1 = s.link1 ∧
    (setCounter n s).link2 = s.link2 ∧ (setCounter n s).repair = s.repair ∧ (setCounter n s).mgmt = s.mgmt ∧
    (setCounter n s).ev = s.ev ∧ (setCounter n s).out = s.out ∧ (setCounter n s).pending = s.pending := by
  simp only [setCounter] <;> (repeat' split) <;> simp

@[simp] theorem handStateChange_keeps (prev : ChannelState) (c : Cause) (s : State) :
    (handStateChange prev c s).mem = s.mem ∧ (handStateChange prev c s).csr = s.csr ∧
    (handStateChange prev c s).port = s.port ∧ (handStateChange prev c s).arb = s.arb ∧
    (handStateChange prev c s).regions = s.regions ∧ (handStateChange prev c s).counters = s.counters ∧
    (handStateChange prev c s).scrub = s.scrub ∧ (handStateChange prev c s).spare = s.spare ∧
    (handStateChange prev c s).sig = s.sig ∧ (handStateChange prev c s).jnl = s.jnl ∧
    (handStateChange prev c s).vote = s.vote ∧ (handStateChange prev c s).link1 = s.link1 ∧
    (handStateChange prev c s).link2 = s.link2 ∧ (handStateChange prev c s).repair = s.repair ∧
    (handStateChange prev c s).mgmt = s.mgmt ∧ (handStateChange prev c s).ev.health = s.ev.health ∧
    (handStateChange prev c s).ev.faultLatch = s.ev.faultLatch ∧ (handStateChange prev c s).ev.producer = s.ev.producer ∧
    (handStateChange prev c s).ev.consumer = s.ev.consumer ∧ (handStateChange prev c s).ev.kinds = s.ev.kinds ∧
    (handStateChange prev c s).ev.intBusy = s.ev.intBusy ∧ (handStateChange prev c s).ev.intLevel = s.ev.intLevel ∧
    (handStateChange prev c s).out = s.out ∧ (handStateChange prev c s).pending = s.pending := by
  simp only [handStateChange] <;> (repeat' split) <;> simp

@[simp] theorem changeState_keeps (st : ChannelState) (c : Cause) (s : State) :
    (changeState st c s).mem = s.mem ∧ (changeState st c s).csr.counter = s.csr.counter ∧
    (changeState st c s).csr.committed = s.csr.committed ∧ (changeState st c s).csr.c = s.csr.c ∧
    (changeState st c s).port = s.port ∧ (changeState st c s).arb = s.arb ∧ (changeState st c s).regions = s.regions ∧
    (changeState st c s).counters = s.counters ∧ (changeState st c s).scrub = s.scrub ∧
    (changeState st c s).spare = s.spare ∧ (changeState st c s).sig = s.sig ∧ (changeState st c s).jnl = s.jnl ∧
    (changeState st c s).vote = s.vote ∧ (changeState st c s).link1 = s.link1 ∧ (changeState st c s).link2 = s.link2 ∧
    (changeState st c s).repair = s.repair ∧ (changeState st c s).mgmt = s.mgmt ∧
    (changeState st c s).ev.health = s.ev.health ∧ (changeState st c s).ev.faultLatch = s.ev.faultLatch ∧
    (changeState st c s).ev.producer = s.ev.producer ∧ (changeState st c s).ev.consumer = s.ev.consumer ∧
    (changeState st c s).ev.kinds = s.ev.kinds ∧ (changeState st c s).ev.intBusy = s.ev.intBusy ∧
    (changeState st c s).ev.intLevel = s.ev.intLevel ∧ (changeState st c s).out = s.out ∧
    (changeState st c s).pending = s.pending := by
  simp only [changeState] <;> (repeat' split) <;> simp

@[simp] theorem invalidateS_keeps (s : State) :
    (invalidateS s).mem = s.mem ∧ (invalidateS s).csr = s.csr ∧ (invalidateS s).port = s.port ∧
    (invalidateS s).arb = s.arb ∧ (invalidateS s).regions = s.regions ∧ (invalidateS s).counters = s.counters ∧
    (invalidateS s).scrub = s.scrub ∧ (invalidateS s).spare = s.spare ∧
    (invalidateS s).sig.committedKeys = s.sig.committedKeys ∧ (invalidateS s).sig.loadedKeys = s.sig.loadedKeys ∧
    (invalidateS s).sig.keysSet = s.sig.keysSet ∧ (invalidateS s).sig.s = s.sig.s ∧ (invalidateS s).sig.walk = s.sig.walk ∧
    (invalidateS s).sig.cursor = s.sig.cursor ∧ (invalidateS s).sig.acc = s.sig.acc ∧
    (invalidateS s).sig.poisoned = s.sig.poisoned ∧ (invalidateS s).sig.overflow = s.sig.overflow ∧
    (invalidateS s).jnl = s.jnl ∧ (invalidateS s).vote = s.vote ∧ (invalidateS s).link1 = s.link1 ∧
    (invalidateS s).link2 = s.link2 ∧ (invalidateS s).repair = s.repair ∧ (invalidateS s).mgmt = s.mgmt ∧
    (invalidateS s).ev = s.ev ∧ (invalidateS s).out = s.out ∧ (invalidateS s).pending = s.pending := by
  simp only [invalidateS] <;> (repeat' split) <;> simp

@[simp] theorem setLatch_keeps (s : State) :
    (setLatch s).mem = s.mem ∧ (setLatch s).csr = s.csr ∧ (setLatch s).port = s.port ∧ (setLatch s).arb = s.arb ∧
    (setLatch s).regions = s.regions ∧ (setLatch s).counters = s.counters ∧ (setLatch s).scrub = s.scrub ∧
    (setLatch s).spare = s.spare ∧ (setLatch s).sig = s.sig ∧ (setLatch s).jnl = s.jnl ∧ (setLatch s).vote = s.vote ∧
    (setLatch s).link1 = s.link1 ∧ (setLatch s).link2 = s.link2 ∧ (setLatch s).repair = s.repair ∧
    (setLatch s).mgmt = s.mgmt ∧ (setLatch s).ev.health = s.ev.health ∧ (setLatch s).ev.producer = s.ev.producer ∧
    (setLatch s).ev.consumer = s.ev.consumer ∧ (setLatch s).ev.kinds = s.ev.kinds ∧ (setLatch s).ev.waiting = s.ev.waiting ∧
    (setLatch s).ev.withheld = s.ev.withheld ∧ (setLatch s).ev.intBusy = s.ev.intBusy ∧
    (setLatch s).ev.intLevel = s.ev.intLevel ∧ (setLatch s).out = s.out ∧ (setLatch s).pending = s.pending := by
  simp only [setLatch] <;> (repeat' split) <;> simp

@[simp] theorem respond_keeps (r : Response) (s : State) :
    (respond r s).mem = s.mem ∧ (respond r s).csr = s.csr ∧ (respond r s).port = s.port ∧ (respond r s).arb = s.arb ∧
    (respond r s).regions = s.regions ∧ (respond r s).counters = s.counters ∧ (respond r s).scrub = s.scrub ∧
    (respond r s).spare = s.spare ∧ (respond r s).sig = s.sig ∧ (respond r s).jnl = s.jnl ∧ (respond r s).vote = s.vote ∧
    (respond r s).link1 = s.link1 ∧ (respond r s).link2 = s.link2 ∧ (respond r s).repair = s.repair ∧
    (respond r s).mgmt = s.mgmt ∧ (respond r s).ev = s.ev ∧ (respond r s).out.tx1 = s.out.tx1 ∧
    (respond r s).out.tx2 = s.out.tx2 ∧ (respond r s).pending = s.pending := by
  simp only [respond] <;> (repeat' split) <;> simp

@[simp] theorem updLink_keeps (l : LinkId) (f : Link → Link) (s : State) :
    (updLink l f s).mem = s.mem ∧ (updLink l f s).csr = s.csr ∧ (updLink l f s).port = s.port ∧
    (updLink l f s).arb = s.arb ∧ (updLink l f s).regions = s.regions ∧ (updLink l f s).counters = s.counters ∧
    (updLink l f s).scrub = s.scrub ∧ (updLink l f s).spare = s.spare ∧ (updLink l f s).sig = s.sig ∧
    (updLink l f s).jnl = s.jnl ∧ (updLink l f s).vote = s.vote ∧ (updLink l f s).repair = s.repair ∧
    (updLink l f s).mgmt = s.mgmt ∧ (updLink l f s).ev = s.ev ∧ (updLink l f s).out = s.out ∧
    (updLink l f s).pending = s.pending := by
  simp only [updLink] <;> (repeat' split) <;> simp

@[simp] theorem updPeer_keeps (i : Identity) (f : Peer → Peer) (s : State) :
    (updPeer i f s).mem = s.mem ∧ (updPeer i f s).csr = s.csr ∧ (updPeer i f s).port = s.port ∧
    (updPeer i f s).arb = s.arb ∧ (updPeer i f s).regions = s.regions ∧ (updPeer i f s).counters = s.counters ∧
    (updPeer i f s).scrub = s.scrub ∧ (updPeer i f s).spare = s.spare ∧ (updPeer i f s).sig = s.sig ∧
    (updPeer i f s).jnl = s.jnl ∧ (updPeer i f s).vote.record = s.vote.record ∧
    (updPeer i f s).vote.skewReported = s.vote.skewReported ∧ (updPeer i f s).link1 = s.link1 ∧
    (updPeer i f s).link2 = s.link2 ∧ (updPeer i f s).repair = s.repair ∧ (updPeer i f s).mgmt = s.mgmt ∧
    (updPeer i f s).ev = s.ev ∧ (updPeer i f s).out = s.out ∧ (updPeer i f s).pending = s.pending := by
  simp only [updPeer] <;> (repeat' split) <;> simp

@[simp] theorem setRelation_keeps (i : Identity) (r : Option Relation) (s : State) :
    (setRelation i r s).mem = s.mem ∧ (setRelation i r s).csr = s.csr ∧ (setRelation i r s).port = s.port ∧
    (setRelation i r s).arb = s.arb ∧ (setRelation i r s).regions = s.regions ∧ (setRelation i r s).counters = s.counters ∧
    (setRelation i r s).scrub = s.scrub ∧ (setRelation i r s).spare = s.spare ∧ (setRelation i r s).sig = s.sig ∧
    (setRelation i r s).jnl = s.jnl ∧ (setRelation i r s).vote.record = s.vote.record ∧
    (setRelation i r s).vote.skewReported = s.vote.skewReported ∧ (setRelation i r s).link1 = s.link1 ∧
    (setRelation i r s).link2 = s.link2 ∧ (setRelation i r s).repair = s.repair ∧ (setRelation i r s).mgmt = s.mgmt ∧
    (setRelation i r s).ev = s.ev ∧ (setRelation i r s).out = s.out ∧ (setRelation i r s).pending = s.pending := by
  simp only [setRelation] <;> (repeat' split) <;> simp

@[simp] theorem transmit_keeps (l : LinkId) (f : Frame) (s : State) :
    (transmit l f s).mem = s.mem ∧ (transmit l f s).csr = s.csr ∧ (transmit l f s).port = s.port ∧
    (transmit l f s).arb = s.arb ∧ (transmit l f s).regions = s.regions ∧ (transmit l f s).counters = s.counters ∧
    (transmit l f s).scrub = s.scrub ∧ (transmit l f s).spare = s.spare ∧ (transmit l f s).sig = s.sig ∧
    (transmit l f s).jnl = s.jnl ∧ (transmit l f s).vote = s.vote ∧ (transmit l f s).link1 = s.link1 ∧
    (transmit l f s).link2 = s.link2 ∧ (transmit l f s).repair = s.repair ∧ (transmit l f s).mgmt = s.mgmt ∧
    (transmit l f s).ev = s.ev ∧ (transmit l f s).out.responses = s.out.responses ∧
    (transmit l f s).pending = s.pending := by
  simp only [transmit] <;> (repeat' split) <;> simp

@[simp] theorem sendFrame_keeps (l : LinkId) (f : Frame) (s : State) :
    (sendFrame l f s).mem = s.mem ∧ (sendFrame l f s).csr = s.csr ∧ (sendFrame l f s).port = s.port ∧
    (sendFrame l f s).arb = s.arb ∧ (sendFrame l f s).regions = s.regions ∧ (sendFrame l f s).counters = s.counters ∧
    (sendFrame l f s).scrub = s.scrub ∧ (sendFrame l f s).spare = s.spare ∧ (sendFrame l f s).sig = s.sig ∧
    (sendFrame l f s).jnl = s.jnl ∧ (sendFrame l f s).vote = s.vote ∧ (sendFrame l f s).repair = s.repair ∧
    (sendFrame l f s).mgmt = s.mgmt ∧ (sendFrame l f s).ev = s.ev ∧ (sendFrame l f s).out.responses = s.out.responses ∧
    (sendFrame l f s).pending = s.pending := by
  simp only [sendFrame] <;> (repeat' split) <;> simp

@[simp] theorem send_keeps (l : LinkId) (pl : Payload) (s : State) :
    (send l pl s).mem = s.mem ∧ (send l pl s).csr = s.csr ∧ (send l pl s).port = s.port ∧ (send l pl s).arb = s.arb ∧
    (send l pl s).regions = s.regions ∧ (send l pl s).counters = s.counters ∧ (send l pl s).scrub = s.scrub ∧
    (send l pl s).spare = s.spare ∧ (send l pl s).sig = s.sig ∧ (send l pl s).jnl = s.jnl ∧ (send l pl s).vote = s.vote ∧
    (send l pl s).repair = s.repair ∧ (send l pl s).mgmt = s.mgmt ∧ (send l pl s).ev = s.ev ∧
    (send l pl s).out.responses = s.out.responses ∧ (send l pl s).pending = s.pending := by
  simp only [send] <;> (repeat' split) <;> simp

@[simp] theorem sendHail_keeps (l : LinkId) (s : State) :
    (sendHail l s).mem = s.mem ∧ (sendHail l s).csr = s.csr ∧ (sendHail l s).port = s.port ∧ (sendHail l s).arb = s.arb ∧
    (sendHail l s).regions = s.regions ∧ (sendHail l s).counters = s.counters ∧ (sendHail l s).scrub = s.scrub ∧
    (sendHail l s).spare = s.spare ∧ (sendHail l s).sig = s.sig ∧ (sendHail l s).jnl = s.jnl ∧
    (sendHail l s).vote = s.vote ∧ (sendHail l s).repair = s.repair ∧ (sendHail l s).mgmt = s.mgmt ∧
    (sendHail l s).ev = s.ev ∧ (sendHail l s).out.responses = s.out.responses ∧ (sendHail l s).pending = s.pending := by
  simp only [sendHail] <;> (repeat' split) <;> simp

@[simp] theorem suspectError_keeps (l : Nat) (s : State) :
    (suspectError l s).mem = s.mem ∧ (suspectError l s).csr = s.csr ∧ (suspectError l s).port = s.port ∧
    (suspectError l s).arb = s.arb ∧ (suspectError l s).regions = s.regions ∧ (suspectError l s).counters = s.counters ∧
    (suspectError l s).scrub = s.scrub ∧ (suspectError l s).spare.op = s.spare.op ∧
    (suspectError l s).spare.remap = s.spare.remap ∧ (suspectError l s).sig = s.sig ∧ (suspectError l s).jnl = s.jnl ∧
    (suspectError l s).vote = s.vote ∧ (suspectError l s).link1 = s.link1 ∧ (suspectError l s).link2 = s.link2 ∧
    (suspectError l s).repair = s.repair ∧ (suspectError l s).mgmt = s.mgmt ∧ (suspectError l s).ev.health = s.ev.health ∧
    (suspectError l s).ev.faultLatch = s.ev.faultLatch ∧ (suspectError l s).ev.producer = s.ev.producer ∧
    (suspectError l s).ev.consumer = s.ev.consumer ∧ (suspectError l s).ev.kinds = s.ev.kinds ∧
    (suspectError l s).ev.intBusy = s.ev.intBusy ∧ (suspectError l s).ev.intLevel = s.ev.intLevel ∧
    (suspectError l s).out = s.out ∧ (suspectError l s).pending = s.pending := by
  simp only [suspectError] <;> (repeat' split) <;> simp

@[simp] theorem correct_keeps (a : Nat) (v : Word) (s : State) :
    (correct a v s).csr = s.csr ∧ (correct a v s).port = s.port ∧ (correct a v s).arb = s.arb ∧
    (correct a v s).regions = s.regions ∧ (correct a v s).counters.uncorrectable = s.counters.uncorrectable ∧
    (correct a v s).scrub = s.scrub ∧ (correct a v s).spare.op = s.spare.op ∧ (correct a v s).spare.remap = s.spare.remap ∧
    (correct a v s).sig = s.sig ∧ (correct a v s).jnl = s.jnl ∧ (correct a v s).vote = s.vote ∧
    (correct a v s).link1 = s.link1 ∧ (correct a v s).link2 = s.link2 ∧ (correct a v s).repair = s.repair ∧
    (correct a v s).mgmt = s.mgmt ∧ (correct a v s).ev.health = s.ev.health ∧
    (correct a v s).ev.faultLatch = s.ev.faultLatch ∧ (correct a v s).ev.producer = s.ev.producer ∧
    (correct a v s).ev.consumer = s.ev.consumer ∧ (correct a v s).ev.kinds = s.ev.kinds ∧
    (correct a v s).ev.intBusy = s.ev.intBusy ∧ (correct a v s).ev.intLevel = s.ev.intLevel ∧ (correct a v s).out = s.out ∧
    (correct a v s).pending = s.pending := by
  simp only [correct] <;> (repeat' split) <;> simp

@[simp] theorem reportUncorrectable_keeps (by_ : ReadBy) (a : Nat) (raw : Word) (s : State) :
    (reportUncorrectable by_ a raw s).mem = s.mem ∧ (reportUncorrectable by_ a raw s).csr = s.csr ∧
    (reportUncorrectable by_ a raw s).port = s.port ∧ (reportUncorrectable by_ a raw s).arb = s.arb ∧
    (reportUncorrectable by_ a raw s).regions = s.regions ∧
    (reportUncorrectable by_ a raw s).counters.corrected = s.counters.corrected ∧
    (reportUncorrectable by_ a raw s).scrub = s.scrub ∧ (reportUncorrectable by_ a raw s).spare = s.spare ∧
    (reportUncorrectable by_ a raw s).sig.committedKeys = s.sig.committedKeys ∧
    (reportUncorrectable by_ a raw s).sig.loadedKeys = s.sig.loadedKeys ∧
    (reportUncorrectable by_ a raw s).sig.keysSet = s.sig.keysSet ∧ (reportUncorrectable by_ a raw s).sig.s = s.sig.s ∧
    (reportUncorrectable by_ a raw s).sig.walk = s.sig.walk ∧ (reportUncorrectable by_ a raw s).sig.cursor = s.sig.cursor ∧
    (reportUncorrectable by_ a raw s).sig.acc = s.sig.acc ∧
    (reportUncorrectable by_ a raw s).sig.poisoned = s.sig.poisoned ∧
    (reportUncorrectable by_ a raw s).sig.overflow = s.sig.overflow ∧ (reportUncorrectable by_ a raw s).jnl = s.jnl ∧
    (reportUncorrectable by_ a raw s).vote = s.vote ∧ (reportUncorrectable by_ a raw s).link1 = s.link1 ∧
    (reportUncorrectable by_ a raw s).link2 = s.link2 ∧ (reportUncorrectable by_ a raw s).repair = s.repair ∧
    (reportUncorrectable by_ a raw s).mgmt = s.mgmt ∧ (reportUncorrectable by_ a raw s).ev.health = s.ev.health ∧
    (reportUncorrectable by_ a raw s).ev.faultLatch = s.ev.faultLatch ∧
    (reportUncorrectable by_ a raw s).ev.producer = s.ev.producer ∧
    (reportUncorrectable by_ a raw s).ev.consumer = s.ev.consumer ∧
    (reportUncorrectable by_ a raw s).ev.kinds = s.ev.kinds ∧ (reportUncorrectable by_ a raw s).ev.intBusy = s.ev.intBusy ∧
    (reportUncorrectable by_ a raw s).ev.intLevel = s.ev.intLevel ∧ (reportUncorrectable by_ a raw s).out = s.out ∧
    (reportUncorrectable by_ a raw s).pending = s.pending := by
  simp only [reportUncorrectable] <;> (repeat' split) <;> simp

@[simp] theorem readWord_keeps (by_ : ReadBy) (a : Nat) (s : State) :
    (readWord by_ a s).2.csr = s.csr ∧
    (readWord by_ a s).2.port = s.port ∧
    (readWord by_ a s).2.arb = s.arb ∧
    (readWord by_ a s).2.regions = s.regions ∧
    (readWord by_ a s).2.scrub = s.scrub ∧
    (readWord by_ a s).2.spare.op = s.spare.op ∧
    (readWord by_ a s).2.spare.remap = s.spare.remap ∧
    (readWord by_ a s).2.sig.committedKeys = s.sig.committedKeys ∧
    (readWord by_ a s).2.sig.loadedKeys = s.sig.loadedKeys ∧
    (readWord by_ a s).2.sig.keysSet = s.sig.keysSet ∧
    (readWord by_ a s).2.sig.s = s.sig.s ∧
    (readWord by_ a s).2.sig.walk = s.sig.walk ∧
    (readWord by_ a s).2.sig.cursor = s.sig.cursor ∧
    (readWord by_ a s).2.sig.acc = s.sig.acc ∧
    (readWord by_ a s).2.sig.poisoned = s.sig.poisoned ∧
    (readWord by_ a s).2.sig.overflow = s.sig.overflow ∧
    (readWord by_ a s).2.jnl = s.jnl ∧
    (readWord by_ a s).2.vote = s.vote ∧
    (readWord by_ a s).2.link1 = s.link1 ∧
    (readWord by_ a s).2.link2 = s.link2 ∧
    (readWord by_ a s).2.repair = s.repair ∧
    (readWord by_ a s).2.mgmt = s.mgmt ∧
    (readWord by_ a s).2.ev.health = s.ev.health ∧
    (readWord by_ a s).2.ev.faultLatch = s.ev.faultLatch ∧
    (readWord by_ a s).2.ev.producer = s.ev.producer ∧
    (readWord by_ a s).2.ev.consumer = s.ev.consumer ∧
    (readWord by_ a s).2.ev.kinds = s.ev.kinds ∧
    (readWord by_ a s).2.ev.intBusy = s.ev.intBusy ∧
    (readWord by_ a s).2.ev.intLevel = s.ev.intLevel ∧
    (readWord by_ a s).2.out = s.out ∧
    (readWord by_ a s).2.pending = s.pending := by
  simp only [readWord]
  (repeat' split) <;> simp

@[simp] theorem readWords_keeps (by_ : ReadBy) (xs : List Nat) (s : State) :
    (readWords by_ xs s).2.csr = s.csr ∧
    (readWords by_ xs s).2.port = s.port ∧
    (readWords by_ xs s).2.arb = s.arb ∧
    (readWords by_ xs s).2.regions = s.regions ∧
    (readWords by_ xs s).2.scrub = s.scrub ∧
    (readWords by_ xs s).2.spare.op = s.spare.op ∧
    (readWords by_ xs s).2.spare.remap = s.spare.remap ∧
    (readWords by_ xs s).2.sig.committedKeys = s.sig.committedKeys ∧
    (readWords by_ xs s).2.sig.loadedKeys = s.sig.loadedKeys ∧
    (readWords by_ xs s).2.sig.keysSet = s.sig.keysSet ∧
    (readWords by_ xs s).2.sig.s = s.sig.s ∧
    (readWords by_ xs s).2.sig.walk = s.sig.walk ∧
    (readWords by_ xs s).2.sig.cursor = s.sig.cursor ∧
    (readWords by_ xs s).2.sig.acc = s.sig.acc ∧
    (readWords by_ xs s).2.sig.poisoned = s.sig.poisoned ∧
    (readWords by_ xs s).2.sig.overflow = s.sig.overflow ∧
    (readWords by_ xs s).2.jnl = s.jnl ∧
    (readWords by_ xs s).2.vote = s.vote ∧
    (readWords by_ xs s).2.link1 = s.link1 ∧
    (readWords by_ xs s).2.link2 = s.link2 ∧
    (readWords by_ xs s).2.repair = s.repair ∧
    (readWords by_ xs s).2.mgmt = s.mgmt ∧
    (readWords by_ xs s).2.ev.health = s.ev.health ∧
    (readWords by_ xs s).2.ev.faultLatch = s.ev.faultLatch ∧
    (readWords by_ xs s).2.ev.producer = s.ev.producer ∧
    (readWords by_ xs s).2.ev.consumer = s.ev.consumer ∧
    (readWords by_ xs s).2.ev.kinds = s.ev.kinds ∧
    (readWords by_ xs s).2.ev.intBusy = s.ev.intBusy ∧
    (readWords by_ xs s).2.ev.intLevel = s.ev.intLevel ∧
    (readWords by_ xs s).2.out = s.out ∧
    (readWords by_ xs s).2.pending = s.pending := by
  induction xs generalizing s with
  | nil => simp [readWords]
  | cons x xs ih => simp [readWords, ih]

@[simp] theorem listPoisoned_keeps (o : Nat) (s : State) :
    (listPoisoned o s).mem = s.mem ∧ (listPoisoned o s).csr = s.csr ∧ (listPoisoned o s).port = s.port ∧
    (listPoisoned o s).arb = s.arb ∧ (listPoisoned o s).regions = s.regions ∧ (listPoisoned o s).counters = s.counters ∧
    (listPoisoned o s).scrub = s.scrub ∧ (listPoisoned o s).spare = s.spare ∧
    (listPoisoned o s).sig.committedKeys = s.sig.committedKeys ∧ (listPoisoned o s).sig.loadedKeys = s.sig.loadedKeys ∧
    (listPoisoned o s).sig.keysSet = s.sig.keysSet ∧ (listPoisoned o s).sig.s = s.sig.s ∧
    (listPoisoned o s).sig.valid = s.sig.valid ∧ (listPoisoned o s).sig.walk = s.sig.walk ∧
    (listPoisoned o s).sig.cursor = s.sig.cursor ∧ (listPoisoned o s).sig.acc = s.sig.acc ∧ (listPoisoned o s).jnl = s.jnl ∧
    (listPoisoned o s).vote = s.vote ∧ (listPoisoned o s).link1 = s.link1 ∧ (listPoisoned o s).link2 = s.link2 ∧
    (listPoisoned o s).repair = s.repair ∧ (listPoisoned o s).mgmt = s.mgmt ∧ (listPoisoned o s).ev = s.ev ∧
    (listPoisoned o s).out = s.out ∧ (listPoisoned o s).pending = s.pending := by
  simp only [listPoisoned] <;> (repeat' split) <;> simp

end Sys2Proof.Machine
end

