-- ==== Sys2Proof/Laws/Signature.lean ====
section
/-! SUPPORT. What the signature operations leave as it was: for each operation one lemma that names every
part of the state it keeps. -/

namespace Sys2Proof.Machine

set_option linter.unnecessarySeqFocus false
set_option linter.unusedTactic false
set_option linter.unreachableTactic false
set_option linter.unusedSimpArgs false
@[simp] theorem updateS_keeps (a : Nat) (old new : Word) (s : State) :
    (updateS a old new s).mem = s.mem ∧ (updateS a old new s).csr = s.csr ∧ (updateS a old new s).port = s.port ∧
    (updateS a old new s).arb = s.arb ∧ (updateS a old new s).regions = s.regions ∧
    (updateS a old new s).counters = s.counters ∧ (updateS a old new s).scrub = s.scrub ∧
    (updateS a old new s).spare = s.spare ∧ (updateS a old new s).sig.committedKeys = s.sig.committedKeys ∧
    (updateS a old new s).sig.loadedKeys = s.sig.loadedKeys ∧ (updateS a old new s).sig.keysSet = s.sig.keysSet ∧
    (updateS a old new s).sig.valid = s.sig.valid ∧ (updateS a old new s).sig.walk = s.sig.walk ∧
    (updateS a old new s).sig.cursor = s.sig.cursor ∧ (updateS a old new s).sig.acc = s.sig.acc ∧
    (updateS a old new s).sig.poisoned = s.sig.poisoned ∧ (updateS a old new s).sig.overflow = s.sig.overflow ∧
    (updateS a old new s).jnl = s.jnl ∧ (updateS a old new s).vote = s.vote ∧ (updateS a old new s).link1 = s.link1 ∧
    (updateS a old new s).link2 = s.link2 ∧ (updateS a old new s).repair = s.repair ∧ (updateS a old new s).mgmt = s.mgmt ∧
    (updateS a old new s).ev = s.ev ∧ (updateS a old new s).out = s.out ∧ (updateS a old new s).pending = s.pending := by
  simp only [updateS] <;> (repeat' split) <;> simp

@[simp] theorem updateWordsS_keeps (xs : List (Nat × Word × Word)) (s : State) :
    (updateWordsS xs s).mem = s.mem ∧ (updateWordsS xs s).csr = s.csr ∧ (updateWordsS xs s).port = s.port ∧
    (updateWordsS xs s).arb = s.arb ∧ (updateWordsS xs s).regions = s.regions ∧ (updateWordsS xs s).counters = s.counters ∧
    (updateWordsS xs s).scrub = s.scrub ∧ (updateWordsS xs s).spare = s.spare ∧
    (updateWordsS xs s).sig.committedKeys = s.sig.committedKeys ∧ (updateWordsS xs s).sig.loadedKeys = s.sig.loadedKeys ∧
    (updateWordsS xs s).sig.keysSet = s.sig.keysSet ∧ (updateWordsS xs s).sig.valid = s.sig.valid ∧
    (updateWordsS xs s).sig.walk = s.sig.walk ∧ (updateWordsS xs s).sig.cursor = s.sig.cursor ∧
    (updateWordsS xs s).sig.acc = s.sig.acc ∧ (updateWordsS xs s).sig.poisoned = s.sig.poisoned ∧
    (updateWordsS xs s).sig.overflow = s.sig.overflow ∧ (updateWordsS xs s).jnl = s.jnl ∧
    (updateWordsS xs s).vote = s.vote ∧ (updateWordsS xs s).link1 = s.link1 ∧ (updateWordsS xs s).link2 = s.link2 ∧
    (updateWordsS xs s).repair = s.repair ∧ (updateWordsS xs s).mgmt = s.mgmt ∧ (updateWordsS xs s).ev = s.ev ∧
    (updateWordsS xs s).out = s.out ∧ (updateWordsS xs s).pending = s.pending := by
  induction xs generalizing s with
  | nil => simp [updateWordsS]
  | cons x xs ih =>
    obtain ⟨_, _, _⟩ := x
    simp [updateWordsS, ih]

@[simp] theorem updateWordsAcc_keeps (xs : List (Nat × Word × Word)) (s : State) :
    (updateWordsAcc xs s).mem = s.mem ∧ (updateWordsAcc xs s).csr = s.csr ∧ (updateWordsAcc xs s).port = s.port ∧
    (updateWordsAcc xs s).arb = s.arb ∧ (updateWordsAcc xs s).regions = s.regions ∧
    (updateWordsAcc xs s).counters = s.counters ∧ (updateWordsAcc xs s).scrub = s.scrub ∧
    (updateWordsAcc xs s).spare = s.spare ∧ (updateWordsAcc xs s).sig.committedKeys = s.sig.committedKeys ∧
    (updateWordsAcc xs s).sig.loadedKeys = s.sig.loadedKeys ∧ (updateWordsAcc xs s).sig.keysSet = s.sig.keysSet ∧
    (updateWordsAcc xs s).sig.s = s.sig.s ∧ (updateWordsAcc xs s).sig.valid = s.sig.valid ∧
    (updateWordsAcc xs s).sig.walk = s.sig.walk ∧ (updateWordsAcc xs s).sig.cursor = s.sig.cursor ∧
    (updateWordsAcc xs s).sig.poisoned = s.sig.poisoned ∧ (updateWordsAcc xs s).sig.overflow = s.sig.overflow ∧
    (updateWordsAcc xs s).jnl = s.jnl ∧ (updateWordsAcc xs s).vote = s.vote ∧ (updateWordsAcc xs s).link1 = s.link1 ∧
    (updateWordsAcc xs s).link2 = s.link2 ∧ (updateWordsAcc xs s).repair = s.repair ∧ (updateWordsAcc xs s).mgmt = s.mgmt ∧
    (updateWordsAcc xs s).ev = s.ev ∧ (updateWordsAcc xs s).out = s.out ∧ (updateWordsAcc xs s).pending = s.pending := by
  induction xs generalizing s with
  | nil => simp [updateWordsAcc]
  | cons x xs ih =>
    obtain ⟨_, _, _⟩ := x
    simp [updateWordsAcc, ih]

@[simp] theorem addHash_keeps (a : Nat) (v : Word) (s : State) :
    (addHash a v s).mem = s.mem ∧ (addHash a v s).csr = s.csr ∧ (addHash a v s).port = s.port ∧
    (addHash a v s).arb = s.arb ∧ (addHash a v s).regions = s.regions ∧ (addHash a v s).counters = s.counters ∧
    (addHash a v s).scrub = s.scrub ∧ (addHash a v s).spare = s.spare ∧
    (addHash a v s).sig.committedKeys = s.sig.committedKeys ∧ (addHash a v s).sig.loadedKeys = s.sig.loadedKeys ∧
    (addHash a v s).sig.keysSet = s.sig.keysSet ∧ (addHash a v s).sig.s = s.sig.s ∧
    (addHash a v s).sig.valid = s.sig.valid ∧ (addHash a v s).sig.walk = s.sig.walk ∧
    (addHash a v s).sig.cursor = s.sig.cursor ∧ (addHash a v s).sig.poisoned = s.sig.poisoned ∧
    (addHash a v s).sig.overflow = s.sig.overflow ∧ (addHash a v s).jnl = s.jnl ∧ (addHash a v s).vote = s.vote ∧
    (addHash a v s).link1 = s.link1 ∧ (addHash a v s).link2 = s.link2 ∧ (addHash a v s).repair = s.repair ∧
    (addHash a v s).mgmt = s.mgmt ∧ (addHash a v s).ev = s.ev ∧ (addHash a v s).out = s.out ∧
    (addHash a v s).pending = s.pending := by
  simp only [addHash] <;> (repeat' split) <;> simp

@[simp] theorem startWalk_keeps (w : Walk) (s : State) :
    (startWalk w s).mem = s.mem ∧ (startWalk w s).csr = s.csr ∧ (startWalk w s).port = s.port ∧
    (startWalk w s).arb = s.arb ∧ (startWalk w s).regions = s.regions ∧ (startWalk w s).counters = s.counters ∧
    (startWalk w s).scrub = s.scrub ∧ (startWalk w s).spare = s.spare ∧
    (startWalk w s).sig.committedKeys = s.sig.committedKeys ∧ (startWalk w s).sig.loadedKeys = s.sig.loadedKeys ∧
    (startWalk w s).sig.keysSet = s.sig.keysSet ∧ (startWalk w s).sig.s = s.sig.s ∧
    (startWalk w s).sig.valid = s.sig.valid ∧ (startWalk w s).jnl = s.jnl ∧ (startWalk w s).vote = s.vote ∧
    (startWalk w s).link1 = s.link1 ∧ (startWalk w s).link2 = s.link2 ∧ (startWalk w s).repair = s.repair ∧
    (startWalk w s).mgmt = s.mgmt ∧ (startWalk w s).ev = s.ev ∧ (startWalk w s).out = s.out ∧
    (startWalk w s).pending = s.pending := by
  simp only [startWalk] <;> (repeat' split) <;> simp

@[simp] theorem stopWalk_keeps (s : State) :
    (stopWalk s).mem = s.mem ∧ (stopWalk s).csr = s.csr ∧ (stopWalk s).port = s.port ∧ (stopWalk s).arb = s.arb ∧
    (stopWalk s).regions = s.regions ∧ (stopWalk s).counters = s.counters ∧ (stopWalk s).scrub = s.scrub ∧
    (stopWalk s).spare = s.spare ∧ (stopWalk s).sig.committedKeys = s.sig.committedKeys ∧
    (stopWalk s).sig.loadedKeys = s.sig.loadedKeys ∧ (stopWalk s).sig.keysSet = s.sig.keysSet ∧
    (stopWalk s).sig.s = s.sig.s ∧ (stopWalk s).sig.valid = s.sig.valid ∧ (stopWalk s).sig.poisoned = s.sig.poisoned ∧
    (stopWalk s).sig.overflow = s.sig.overflow ∧ (stopWalk s).jnl = s.jnl ∧ (stopWalk s).vote = s.vote ∧
    (stopWalk s).link1 = s.link1 ∧ (stopWalk s).link2 = s.link2 ∧ (stopWalk s).repair = s.repair ∧
    (stopWalk s).mgmt = s.mgmt ∧ (stopWalk s).ev = s.ev ∧ (stopWalk s).out = s.out ∧ (stopWalk s).pending = s.pending := by
  simp only [stopWalk] <;> (repeat' split) <;> simp

end Sys2Proof.Machine
end

