-- ==== Sys2Proof/Laws/Journal.lean ====
section
/-! SUPPORT. What the journal operations leave as it was: for each operation one lemma that names every
part of the state it keeps. -/

namespace Sys2Proof.Machine

set_option linter.unnecessarySeqFocus false
set_option linter.unusedTactic false
set_option linter.unreachableTactic false
set_option linter.unusedSimpArgs false
@[simp] theorem emptyJournal_keeps (s : State) :
    (emptyJournal s).mem = s.mem ∧ (emptyJournal s).csr = s.csr ∧ (emptyJournal s).port = s.port ∧
    (emptyJournal s).arb = s.arb ∧ (emptyJournal s).regions = s.regions ∧ (emptyJournal s).counters = s.counters ∧
    (emptyJournal s).scrub = s.scrub ∧ (emptyJournal s).spare = s.spare ∧ (emptyJournal s).sig = s.sig ∧
    (emptyJournal s).jnl.rb = s.jnl.rb ∧ (emptyJournal s).vote = s.vote ∧ (emptyJournal s).link1 = s.link1 ∧
    (emptyJournal s).link2 = s.link2 ∧ (emptyJournal s).repair = s.repair ∧ (emptyJournal s).mgmt = s.mgmt ∧
    (emptyJournal s).ev = s.ev ∧ (emptyJournal s).out = s.out ∧ (emptyJournal s).pending = s.pending := by
  simp only [emptyJournal] <;> (repeat' split) <;> simp

@[simp] theorem rearmPressure_keeps (s : State) :
    (rearmPressure s).mem = s.mem ∧ (rearmPressure s).csr = s.csr ∧ (rearmPressure s).port = s.port ∧
    (rearmPressure s).arb = s.arb ∧ (rearmPressure s).regions = s.regions ∧ (rearmPressure s).counters = s.counters ∧
    (rearmPressure s).scrub = s.scrub ∧ (rearmPressure s).spare = s.spare ∧ (rearmPressure s).sig = s.sig ∧
    (rearmPressure s).jnl.head = s.jnl.head ∧ (rearmPressure s).jnl.boundary = s.jnl.boundary ∧
    (rearmPressure s).jnl.tail = s.jnl.tail ∧ (rearmPressure s).jnl.votingCount = s.jnl.votingCount ∧
    (rearmPressure s).jnl.openCount = s.jnl.openCount ∧ (rearmPressure s).jnl.votingPresent = s.jnl.votingPresent ∧
    (rearmPressure s).jnl.votingOver = s.jnl.votingOver ∧ (rearmPressure s).jnl.openOver = s.jnl.openOver ∧
    (rearmPressure s).jnl.rb = s.jnl.rb ∧ (rearmPressure s).vote = s.vote ∧ (rearmPressure s).link1 = s.link1 ∧
    (rearmPressure s).link2 = s.link2 ∧ (rearmPressure s).repair = s.repair ∧ (rearmPressure s).mgmt = s.mgmt ∧
    (rearmPressure s).ev = s.ev ∧ (rearmPressure s).out = s.out ∧ (rearmPressure s).pending = s.pending := by
  simp only [rearmPressure] <;> (repeat' split) <;> simp

@[simp] theorem appendEntry_keeps (tag : BitVec 16) (opn : Cycle) (a : Nat) (old : Word) (s : State) :
    (appendEntry tag opn a old s).csr = s.csr ∧ (appendEntry tag opn a old s).port = s.port ∧
    (appendEntry tag opn a old s).arb = s.arb ∧ (appendEntry tag opn a old s).regions = s.regions ∧
    (appendEntry tag opn a old s).counters = s.counters ∧ (appendEntry tag opn a old s).scrub = s.scrub ∧
    (appendEntry tag opn a old s).spare = s.spare ∧ (appendEntry tag opn a old s).sig = s.sig ∧
    (appendEntry tag opn a old s).jnl.head = s.jnl.head ∧ (appendEntry tag opn a old s).jnl.boundary = s.jnl.boundary ∧
    (appendEntry tag opn a old s).jnl.votingCount = s.jnl.votingCount ∧
    (appendEntry tag opn a old s).jnl.votingPresent = s.jnl.votingPresent ∧
    (appendEntry tag opn a old s).jnl.votingOver = s.jnl.votingOver ∧ (appendEntry tag opn a old s).jnl.rb = s.jnl.rb ∧
    (appendEntry tag opn a old s).vote = s.vote ∧ (appendEntry tag opn a old s).link1 = s.link1 ∧
    (appendEntry tag opn a old s).link2 = s.link2 ∧ (appendEntry tag opn a old s).repair = s.repair ∧
    (appendEntry tag opn a old s).mgmt = s.mgmt ∧ (appendEntry tag opn a old s).ev.health = s.ev.health ∧
    (appendEntry tag opn a old s).ev.faultLatch = s.ev.faultLatch ∧
    (appendEntry tag opn a old s).ev.producer = s.ev.producer ∧ (appendEntry tag opn a old s).ev.consumer = s.ev.consumer ∧
    (appendEntry tag opn a old s).ev.kinds = s.ev.kinds ∧ (appendEntry tag opn a old s).ev.intBusy = s.ev.intBusy ∧
    (appendEntry tag opn a old s).ev.intLevel = s.ev.intLevel ∧ (appendEntry tag opn a old s).out = s.out ∧
    (appendEntry tag opn a old s).pending = s.pending := by
  simp only [appendEntry] <;> (repeat' split) <;> simp

@[simp] theorem appendEntries_keeps (tag : BitVec 16) (opn : Cycle) (xs : List (Nat × Word)) (s : State) :
    (appendEntries tag opn xs s).csr = s.csr ∧ (appendEntries tag opn xs s).port = s.port ∧
    (appendEntries tag opn xs s).arb = s.arb ∧ (appendEntries tag opn xs s).regions = s.regions ∧
    (appendEntries tag opn xs s).counters = s.counters ∧ (appendEntries tag opn xs s).scrub = s.scrub ∧
    (appendEntries tag opn xs s).spare = s.spare ∧ (appendEntries tag opn xs s).sig = s.sig ∧
    (appendEntries tag opn xs s).jnl.head = s.jnl.head ∧ (appendEntries tag opn xs s).jnl.boundary = s.jnl.boundary ∧
    (appendEntries tag opn xs s).jnl.votingCount = s.jnl.votingCount ∧
    (appendEntries tag opn xs s).jnl.votingPresent = s.jnl.votingPresent ∧
    (appendEntries tag opn xs s).jnl.votingOver = s.jnl.votingOver ∧ (appendEntries tag opn xs s).jnl.rb = s.jnl.rb ∧
    (appendEntries tag opn xs s).vote = s.vote ∧ (appendEntries tag opn xs s).link1 = s.link1 ∧
    (appendEntries tag opn xs s).link2 = s.link2 ∧ (appendEntries tag opn xs s).repair = s.repair ∧
    (appendEntries tag opn xs s).mgmt = s.mgmt ∧ (appendEntries tag opn xs s).ev.health = s.ev.health ∧
    (appendEntries tag opn xs s).ev.faultLatch = s.ev.faultLatch ∧
    (appendEntries tag opn xs s).ev.producer = s.ev.producer ∧ (appendEntries tag opn xs s).ev.consumer = s.ev.consumer ∧
    (appendEntries tag opn xs s).ev.kinds = s.ev.kinds ∧ (appendEntries tag opn xs s).ev.intBusy = s.ev.intBusy ∧
    (appendEntries tag opn xs s).ev.intLevel = s.ev.intLevel ∧ (appendEntries tag opn xs s).out = s.out ∧
    (appendEntries tag opn xs s).pending = s.pending := by
  induction xs generalizing s with
  | nil => simp [appendEntries]
  | cons x xs ih =>
    obtain ⟨_, _⟩ := x
    simp [appendEntries, ih]

@[simp] theorem moveBoundary_keeps (s : State) :
    (moveBoundary s).mem = s.mem ∧ (moveBoundary s).csr = s.csr ∧ (moveBoundary s).port = s.port ∧
    (moveBoundary s).arb = s.arb ∧ (moveBoundary s).regions = s.regions ∧ (moveBoundary s).counters = s.counters ∧
    (moveBoundary s).scrub = s.scrub ∧ (moveBoundary s).spare = s.spare ∧ (moveBoundary s).sig = s.sig ∧
    (moveBoundary s).jnl.head = s.jnl.head ∧ (moveBoundary s).jnl.tail = s.jnl.tail ∧
    (moveBoundary s).jnl.pressure = s.jnl.pressure ∧ (moveBoundary s).jnl.rb = s.jnl.rb ∧ (moveBoundary s).vote = s.vote ∧
    (moveBoundary s).link1 = s.link1 ∧ (moveBoundary s).link2 = s.link2 ∧ (moveBoundary s).repair = s.repair ∧
    (moveBoundary s).mgmt = s.mgmt ∧ (moveBoundary s).ev = s.ev ∧ (moveBoundary s).out = s.out ∧
    (moveBoundary s).pending = s.pending := by
  simp only [moveBoundary] <;> (repeat' split) <;> simp

@[simp] theorem discardVoting_keeps (s : State) :
    (discardVoting s).mem = s.mem ∧ (discardVoting s).csr = s.csr ∧ (discardVoting s).port = s.port ∧
    (discardVoting s).arb = s.arb ∧ (discardVoting s).regions = s.regions ∧ (discardVoting s).counters = s.counters ∧
    (discardVoting s).scrub = s.scrub ∧ (discardVoting s).spare = s.spare ∧ (discardVoting s).sig = s.sig ∧
    (discardVoting s).jnl.boundary = s.jnl.boundary ∧ (discardVoting s).jnl.tail = s.jnl.tail ∧
    (discardVoting s).jnl.openCount = s.jnl.openCount ∧ (discardVoting s).jnl.openOver = s.jnl.openOver ∧
    (discardVoting s).jnl.rb = s.jnl.rb ∧ (discardVoting s).vote = s.vote ∧ (discardVoting s).link1 = s.link1 ∧
    (discardVoting s).link2 = s.link2 ∧ (discardVoting s).repair = s.repair ∧ (discardVoting s).mgmt = s.mgmt ∧
    (discardVoting s).ev = s.ev ∧ (discardVoting s).out = s.out ∧ (discardVoting s).pending = s.pending := by
  simp only [discardVoting] <;> (repeat' split) <;> simp

@[simp] theorem markSegment_keeps (a : Nat) (s : State) :
    (markSegment a s).mem = s.mem ∧ (markSegment a s).csr = s.csr ∧ (markSegment a s).port = s.port ∧
    (markSegment a s).arb = s.arb ∧ (markSegment a s).regions = s.regions ∧ (markSegment a s).counters = s.counters ∧
    (markSegment a s).scrub = s.scrub ∧ (markSegment a s).spare = s.spare ∧ (markSegment a s).sig = s.sig ∧
    (markSegment a s).jnl.head = s.jnl.head ∧ (markSegment a s).jnl.boundary = s.jnl.boundary ∧
    (markSegment a s).jnl.tail = s.jnl.tail ∧ (markSegment a s).jnl.votingCount = s.jnl.votingCount ∧
    (markSegment a s).jnl.openCount = s.jnl.openCount ∧ (markSegment a s).jnl.votingPresent = s.jnl.votingPresent ∧
    (markSegment a s).jnl.pressure = s.jnl.pressure ∧ (markSegment a s).jnl.rb = s.jnl.rb ∧
    (markSegment a s).vote = s.vote ∧ (markSegment a s).link1 = s.link1 ∧ (markSegment a s).link2 = s.link2 ∧
    (markSegment a s).repair = s.repair ∧ (markSegment a s).mgmt = s.mgmt ∧ (markSegment a s).ev = s.ev ∧
    (markSegment a s).out = s.out ∧ (markSegment a s).pending = s.pending := by
  simp only [markSegment] <;> (repeat' split) <;> simp

@[simp] theorem markNewest_keeps (s : State) :
    (markNewest s).mem = s.mem ∧ (markNewest s).csr = s.csr ∧ (markNewest s).port = s.port ∧ (markNewest s).arb = s.arb ∧
    (markNewest s).regions = s.regions ∧ (markNewest s).counters = s.counters ∧ (markNewest s).scrub = s.scrub ∧
    (markNewest s).spare = s.spare ∧ (markNewest s).sig = s.sig ∧ (markNewest s).jnl.head = s.jnl.head ∧
    (markNewest s).jnl.boundary = s.jnl.boundary ∧ (markNewest s).jnl.tail = s.jnl.tail ∧
    (markNewest s).jnl.votingCount = s.jnl.votingCount ∧ (markNewest s).jnl.openCount = s.jnl.openCount ∧
    (markNewest s).jnl.votingPresent = s.jnl.votingPresent ∧ (markNewest s).jnl.pressure = s.jnl.pressure ∧
    (markNewest s).jnl.rb = s.jnl.rb ∧ (markNewest s).vote = s.vote ∧ (markNewest s).link1 = s.link1 ∧
    (markNewest s).link2 = s.link2 ∧ (markNewest s).repair = s.repair ∧ (markNewest s).mgmt = s.mgmt ∧
    (markNewest s).ev = s.ev ∧ (markNewest s).out = s.out ∧ (markNewest s).pending = s.pending := by
  simp only [markNewest] <;> (repeat' split) <;> simp

@[simp] theorem endRollback_keeps (stop : Option Nat) (s : State) :
    (endRollback stop s).1.mem = s.mem ∧ (endRollback stop s).1.csr.state = s.csr.state ∧
    (endRollback stop s).1.csr.committed = s.csr.committed ∧ (endRollback stop s).1.csr.c = s.csr.c ∧
    (endRollback stop s).1.port = s.port ∧ (endRollback stop s).1.arb = s.arb ∧ (endRollback stop s).1.regions = s.regions ∧
    (endRollback stop s).1.counters = s.counters ∧ (endRollback stop s).1.scrub = s.scrub ∧
    (endRollback stop s).1.spare = s.spare ∧ (endRollback stop s).1.sig.committedKeys = s.sig.committedKeys ∧
    (endRollback stop s).1.sig.loadedKeys = s.sig.loadedKeys ∧ (endRollback stop s).1.sig.keysSet = s.sig.keysSet ∧
    (endRollback stop s).1.sig.s = s.sig.s ∧ (endRollback stop s).1.sig.walk = s.sig.walk ∧
    (endRollback stop s).1.sig.cursor = s.sig.cursor ∧ (endRollback stop s).1.sig.acc = s.sig.acc ∧
    (endRollback stop s).1.sig.poisoned = s.sig.poisoned ∧ (endRollback stop s).1.sig.overflow = s.sig.overflow ∧
    (endRollback stop s).1.vote.record = s.vote.record ∧ (endRollback stop s).1.link1 = s.link1 ∧
    (endRollback stop s).1.link2 = s.link2 ∧ (endRollback stop s).1.repair = s.repair ∧
    (endRollback stop s).1.mgmt = s.mgmt ∧ (endRollback stop s).1.ev.health = s.ev.health ∧
    (endRollback stop s).1.ev.faultLatch = s.ev.faultLatch ∧ (endRollback stop s).1.ev.producer = s.ev.producer ∧
    (endRollback stop s).1.ev.consumer = s.ev.consumer ∧ (endRollback stop s).1.ev.kinds = s.ev.kinds ∧
    (endRollback stop s).1.ev.intBusy = s.ev.intBusy ∧ (endRollback stop s).1.ev.intLevel = s.ev.intLevel ∧
    (endRollback stop s).1.out = s.out ∧ (endRollback stop s).1.pending = s.pending := by
  simp only [endRollback] <;> (repeat' split) <;> simp

@[simp] theorem requestRollback_keeps (why : RollbackReason) (s : State) :
    (requestRollback why s).1.mem = s.mem ∧ (requestRollback why s).1.csr.state = s.csr.state ∧
    (requestRollback why s).1.csr.committed = s.csr.committed ∧ (requestRollback why s).1.csr.c = s.csr.c ∧
    (requestRollback why s).1.port = s.port ∧ (requestRollback why s).1.arb = s.arb ∧
    (requestRollback why s).1.regions = s.regions ∧ (requestRollback why s).1.counters = s.counters ∧
    (requestRollback why s).1.scrub = s.scrub ∧ (requestRollback why s).1.spare = s.spare ∧
    (requestRollback why s).1.sig.committedKeys = s.sig.committedKeys ∧
    (requestRollback why s).1.sig.loadedKeys = s.sig.loadedKeys ∧ (requestRollback why s).1.sig.keysSet = s.sig.keysSet ∧
    (requestRollback why s).1.sig.s = s.sig.s ∧ (requestRollback why s).1.sig.walk = s.sig.walk ∧
    (requestRollback why s).1.sig.cursor = s.sig.cursor ∧ (requestRollback why s).1.sig.acc = s.sig.acc ∧
    (requestRollback why s).1.sig.poisoned = s.sig.poisoned ∧ (requestRollback why s).1.sig.overflow = s.sig.overflow ∧
    (requestRollback why s).1.vote.record = s.vote.record ∧ (requestRollback why s).1.link1 = s.link1 ∧
    (requestRollback why s).1.link2 = s.link2 ∧ (requestRollback why s).1.repair = s.repair ∧
    (requestRollback why s).1.mgmt = s.mgmt ∧ (requestRollback why s).1.ev.health = s.ev.health ∧
    (requestRollback why s).1.ev.faultLatch = s.ev.faultLatch ∧ (requestRollback why s).1.ev.producer = s.ev.producer ∧
    (requestRollback why s).1.ev.consumer = s.ev.consumer ∧ (requestRollback why s).1.ev.kinds = s.ev.kinds ∧
    (requestRollback why s).1.ev.intBusy = s.ev.intBusy ∧ (requestRollback why s).1.ev.intLevel = s.ev.intLevel ∧
    (requestRollback why s).1.out = s.out ∧ (requestRollback why s).1.pending = s.pending := by
  simp only [requestRollback] <;> (repeat' split) <;> simp

@[simp] theorem abandonRollback_keeps (s : State) :
    (abandonRollback s).mem = s.mem ∧ (abandonRollback s).csr = s.csr ∧ (abandonRollback s).port = s.port ∧
    (abandonRollback s).arb = s.arb ∧ (abandonRollback s).regions = s.regions ∧ (abandonRollback s).counters = s.counters ∧
    (abandonRollback s).scrub = s.scrub ∧ (abandonRollback s).spare = s.spare ∧ (abandonRollback s).sig = s.sig ∧
    (abandonRollback s).jnl.head = s.jnl.head ∧ (abandonRollback s).jnl.boundary = s.jnl.boundary ∧
    (abandonRollback s).jnl.tail = s.jnl.tail ∧ (abandonRollback s).jnl.votingCount = s.jnl.votingCount ∧
    (abandonRollback s).jnl.openCount = s.jnl.openCount ∧ (abandonRollback s).jnl.votingPresent = s.jnl.votingPresent ∧
    (abandonRollback s).jnl.votingOver = s.jnl.votingOver ∧ (abandonRollback s).jnl.openOver = s.jnl.openOver ∧
    (abandonRollback s).jnl.pressure = s.jnl.pressure ∧ (abandonRollback s).vote = s.vote ∧
    (abandonRollback s).link1 = s.link1 ∧ (abandonRollback s).link2 = s.link2 ∧ (abandonRollback s).repair = s.repair ∧
    (abandonRollback s).mgmt = s.mgmt ∧ (abandonRollback s).ev = s.ev ∧ (abandonRollback s).out = s.out ∧
    (abandonRollback s).pending = s.pending := by
  simp only [abandonRollback] <;> (repeat' split) <;> simp

end Sys2Proof.Machine
end

