-- ==== Sys2Proof/Laws/Repair.lean ====
section
/-! SUPPORT. What the repair operations leave as it was: for each operation one lemma that names every
part of the state it keeps. -/

namespace Sys2Proof.Machine

set_option linter.unnecessarySeqFocus false
set_option linter.unusedTactic false
set_option linter.unreachableTactic false
set_option linter.unusedSimpArgs false
@[simp] theorem goIfDrained_keeps (l : LinkId) (s : State) :
    (goIfDrained l s).mem = s.mem ∧ (goIfDrained l s).csr = s.csr ∧ (goIfDrained l s).port = s.port ∧
    (goIfDrained l s).arb = s.arb ∧ (goIfDrained l s).regions = s.regions ∧ (goIfDrained l s).counters = s.counters ∧
    (goIfDrained l s).scrub = s.scrub ∧ (goIfDrained l s).spare = s.spare ∧ (goIfDrained l s).sig = s.sig ∧
    (goIfDrained l s).jnl = s.jnl ∧ (goIfDrained l s).vote = s.vote ∧ (goIfDrained l s).repair = s.repair ∧
    (goIfDrained l s).mgmt = s.mgmt ∧ (goIfDrained l s).ev = s.ev ∧ (goIfDrained l s).out.responses = s.out.responses ∧
    (goIfDrained l s).pending = s.pending := by
  simp only [goIfDrained] <;> (repeat' split) <;> simp

@[simp] theorem leaveBuffer_keeps (l : LinkId) (rest : List LineFrame) (s : State) :
    (leaveBuffer l rest s).mem = s.mem ∧ (leaveBuffer l rest s).csr = s.csr ∧ (leaveBuffer l rest s).port = s.port ∧
    (leaveBuffer l rest s).arb = s.arb ∧ (leaveBuffer l rest s).regions = s.regions ∧
    (leaveBuffer l rest s).counters = s.counters ∧ (leaveBuffer l rest s).scrub = s.scrub ∧
    (leaveBuffer l rest s).spare = s.spare ∧ (leaveBuffer l rest s).sig = s.sig ∧ (leaveBuffer l rest s).jnl = s.jnl ∧
    (leaveBuffer l rest s).vote = s.vote ∧ (leaveBuffer l rest s).repair = s.repair ∧ (leaveBuffer l rest s).mgmt = s.mgmt ∧
    (leaveBuffer l rest s).ev = s.ev ∧ (leaveBuffer l rest s).out.responses = s.out.responses ∧
    (leaveBuffer l rest s).pending = s.pending := by
  simp only [leaveBuffer] <;> (repeat' split) <;> simp

@[simp] theorem dropLines_keeps (l : LinkId) (s : State) :
    (dropLines l s).mem = s.mem ∧ (dropLines l s).csr = s.csr ∧ (dropLines l s).port = s.port ∧
    (dropLines l s).arb = s.arb ∧ (dropLines l s).regions = s.regions ∧ (dropLines l s).counters = s.counters ∧
    (dropLines l s).scrub = s.scrub ∧ (dropLines l s).spare = s.spare ∧ (dropLines l s).sig = s.sig ∧
    (dropLines l s).jnl = s.jnl ∧ (dropLines l s).vote = s.vote ∧ (dropLines l s).repair = s.repair ∧
    (dropLines l s).mgmt = s.mgmt ∧ (dropLines l s).ev = s.ev ∧ (dropLines l s).out.responses = s.out.responses ∧
    (dropLines l s).pending = s.pending := by
  simp only [dropLines] <;> (repeat' split) <;> simp

@[simp] theorem settleBuffers_keeps (s : State) :
    (settleBuffers s).mem = s.mem ∧ (settleBuffers s).csr = s.csr ∧ (settleBuffers s).port = s.port ∧
    (settleBuffers s).arb = s.arb ∧ (settleBuffers s).regions = s.regions ∧ (settleBuffers s).counters = s.counters ∧
    (settleBuffers s).scrub = s.scrub ∧ (settleBuffers s).spare = s.spare ∧ (settleBuffers s).sig = s.sig ∧
    (settleBuffers s).jnl = s.jnl ∧ (settleBuffers s).vote = s.vote ∧ (settleBuffers s).repair = s.repair ∧
    (settleBuffers s).mgmt = s.mgmt ∧ (settleBuffers s).ev = s.ev ∧ (settleBuffers s).out.responses = s.out.responses ∧
    (settleBuffers s).pending = s.pending := by
  simp only [settleBuffers] <;> (repeat' split) <;> simp

@[simp] theorem sendRequest_keeps (i : Identity) (s : State) :
    (sendRequest i s).mem = s.mem ∧ (sendRequest i s).csr = s.csr ∧ (sendRequest i s).port = s.port ∧
    (sendRequest i s).arb = s.arb ∧ (sendRequest i s).regions = s.regions ∧ (sendRequest i s).counters = s.counters ∧
    (sendRequest i s).scrub = s.scrub ∧ (sendRequest i s).spare = s.spare ∧ (sendRequest i s).sig = s.sig ∧
    (sendRequest i s).jnl = s.jnl ∧ (sendRequest i s).vote.record = s.vote.record ∧
    (sendRequest i s).vote.skewReported = s.vote.skewReported ∧ (sendRequest i s).repair.dc = s.repair.dc ∧
    (sendRequest i s).repair.dv = s.repair.dv ∧ (sendRequest i s).repair.dO = s.repair.dO ∧
    (sendRequest i s).repair.r = s.repair.r ∧ (sendRequest i s).repair.dcValid = s.repair.dcValid ∧
    (sendRequest i s).mgmt = s.mgmt ∧ (sendRequest i s).ev = s.ev ∧ (sendRequest i s).out.responses = s.out.responses ∧
    (sendRequest i s).pending = s.pending := by
  simp only [sendRequest] <;> (repeat' split) <;> simp

@[simp] theorem endSequence_keeps (s : State) :
    (endSequence s).mem = s.mem ∧ (endSequence s).csr = s.csr ∧ (endSequence s).port = s.port ∧
    (endSequence s).arb = s.arb ∧ (endSequence s).regions = s.regions ∧ (endSequence s).counters = s.counters ∧
    (endSequence s).scrub = s.scrub ∧ (endSequence s).spare = s.spare ∧ (endSequence s).sig = s.sig ∧
    (endSequence s).jnl = s.jnl ∧ (endSequence s).vote = s.vote ∧ (endSequence s).link1 = s.link1 ∧
    (endSequence s).link2 = s.link2 ∧ (endSequence s).repair.dc = s.repair.dc ∧ (endSequence s).repair.dv = s.repair.dv ∧
    (endSequence s).repair.dO = s.repair.dO ∧ (endSequence s).repair.r = s.repair.r ∧
    (endSequence s).repair.dcValid = s.repair.dcValid ∧ (endSequence s).mgmt = s.mgmt ∧
    (endSequence s).ev.health = s.ev.health ∧ (endSequence s).ev.faultLatch = s.ev.faultLatch ∧
    (endSequence s).ev.producer = s.ev.producer ∧ (endSequence s).ev.consumer = s.ev.consumer ∧
    (endSequence s).ev.kinds = s.ev.kinds ∧ (endSequence s).ev.intBusy = s.ev.intBusy ∧
    (endSequence s).ev.intLevel = s.ev.intLevel ∧ (endSequence s).out = s.out ∧ (endSequence s).pending = s.pending := by
  simp only [endSequence] <;> (repeat' split) <;> simp

@[simp] theorem tryNext_keeps (s : State) :
    (tryNext s).mem = s.mem ∧ (tryNext s).csr = s.csr ∧ (tryNext s).port = s.port ∧ (tryNext s).arb = s.arb ∧
    (tryNext s).regions = s.regions ∧ (tryNext s).counters = s.counters ∧ (tryNext s).scrub = s.scrub ∧
    (tryNext s).spare = s.spare ∧ (tryNext s).sig = s.sig ∧ (tryNext s).jnl = s.jnl ∧
    (tryNext s).vote.record = s.vote.record ∧ (tryNext s).vote.skewReported = s.vote.skewReported ∧
    (tryNext s).repair.dc = s.repair.dc ∧ (tryNext s).repair.dv = s.repair.dv ∧ (tryNext s).repair.dO = s.repair.dO ∧
    (tryNext s).repair.r = s.repair.r ∧ (tryNext s).repair.dcValid = s.repair.dcValid ∧ (tryNext s).mgmt = s.mgmt ∧
    (tryNext s).ev.health = s.ev.health ∧ (tryNext s).ev.faultLatch = s.ev.faultLatch ∧
    (tryNext s).ev.producer = s.ev.producer ∧ (tryNext s).ev.consumer = s.ev.consumer ∧ (tryNext s).ev.kinds = s.ev.kinds ∧
    (tryNext s).ev.intBusy = s.ev.intBusy ∧ (tryNext s).ev.intLevel = s.ev.intLevel ∧
    (tryNext s).out.responses = s.out.responses ∧ (tryNext s).pending = s.pending := by
  simp only [tryNext] <;> (repeat' split) <;> simp

@[simp] theorem beginSequence_keeps (s : State) :
    (beginSequence s).mem = s.mem ∧ (beginSequence s).csr = s.csr ∧ (beginSequence s).port = s.port ∧
    (beginSequence s).arb = s.arb ∧ (beginSequence s).regions = s.regions ∧ (beginSequence s).counters = s.counters ∧
    (beginSequence s).scrub = s.scrub ∧ (beginSequence s).spare = s.spare ∧ (beginSequence s).sig = s.sig ∧
    (beginSequence s).jnl = s.jnl ∧ (beginSequence s).vote.record = s.vote.record ∧
    (beginSequence s).vote.skewReported = s.vote.skewReported ∧ (beginSequence s).repair.dc = s.repair.dc ∧
    (beginSequence s).repair.dv = s.repair.dv ∧ (beginSequence s).repair.dO = s.repair.dO ∧
    (beginSequence s).repair.r = s.repair.r ∧ (beginSequence s).repair.dcValid = s.repair.dcValid ∧
    (beginSequence s).mgmt = s.mgmt ∧ (beginSequence s).ev.health = s.ev.health ∧
    (beginSequence s).ev.faultLatch = s.ev.faultLatch ∧ (beginSequence s).ev.producer = s.ev.producer ∧
    (beginSequence s).ev.consumer = s.ev.consumer ∧ (beginSequence s).ev.kinds = s.ev.kinds ∧
    (beginSequence s).ev.intBusy = s.ev.intBusy ∧ (beginSequence s).ev.intLevel = s.ev.intLevel ∧
    (beginSequence s).out.responses = s.out.responses ∧ (beginSequence s).pending = s.pending := by
  simp only [beginSequence] <;> (repeat' split) <;> simp

@[simp] theorem failTry_keeps (s : State) :
    (failTry s).mem = s.mem ∧ (failTry s).csr = s.csr ∧ (failTry s).port = s.port ∧ (failTry s).arb = s.arb ∧
    (failTry s).regions = s.regions ∧ (failTry s).counters = s.counters ∧ (failTry s).scrub = s.scrub ∧
    (failTry s).spare = s.spare ∧ (failTry s).sig = s.sig ∧ (failTry s).jnl = s.jnl ∧
    (failTry s).vote.record = s.vote.record ∧ (failTry s).vote.skewReported = s.vote.skewReported ∧
    (failTry s).repair.dc = s.repair.dc ∧ (failTry s).repair.dv = s.repair.dv ∧ (failTry s).repair.dO = s.repair.dO ∧
    (failTry s).repair.r = s.repair.r ∧ (failTry s).repair.dcValid = s.repair.dcValid ∧ (failTry s).mgmt = s.mgmt ∧
    (failTry s).ev.health = s.ev.health ∧ (failTry s).ev.faultLatch = s.ev.faultLatch ∧
    (failTry s).ev.producer = s.ev.producer ∧ (failTry s).ev.consumer = s.ev.consumer ∧ (failTry s).ev.kinds = s.ev.kinds ∧
    (failTry s).ev.intBusy = s.ev.intBusy ∧ (failTry s).ev.intLevel = s.ev.intLevel ∧
    (failTry s).out.responses = s.out.responses ∧ (failTry s).pending = s.pending := by
  simp only [failTry] <;> (repeat' split) <;> simp

@[simp] theorem finishPreparation_keeps (s : State) :
    (finishPreparation s).mem = s.mem ∧ (finishPreparation s).csr = s.csr ∧ (finishPreparation s).port = s.port ∧
    (finishPreparation s).arb = s.arb ∧ (finishPreparation s).regions = s.regions ∧
    (finishPreparation s).counters = s.counters ∧ (finishPreparation s).scrub = s.scrub ∧
    (finishPreparation s).spare = s.spare ∧ (finishPreparation s).sig = s.sig ∧ (finishPreparation s).jnl = s.jnl ∧
    (finishPreparation s).vote.record = s.vote.record ∧ (finishPreparation s).vote.skewReported = s.vote.skewReported ∧
    (finishPreparation s).repair.dc = s.repair.dc ∧ (finishPreparation s).repair.dv = s.repair.dv ∧
    (finishPreparation s).repair.dO = s.repair.dO ∧ (finishPreparation s).repair.r = s.repair.r ∧
    (finishPreparation s).repair.dcValid = s.repair.dcValid ∧ (finishPreparation s).mgmt = s.mgmt ∧
    (finishPreparation s).ev.health = s.ev.health ∧ (finishPreparation s).ev.faultLatch = s.ev.faultLatch ∧
    (finishPreparation s).ev.producer = s.ev.producer ∧ (finishPreparation s).ev.consumer = s.ev.consumer ∧
    (finishPreparation s).ev.kinds = s.ev.kinds ∧ (finishPreparation s).ev.intBusy = s.ev.intBusy ∧
    (finishPreparation s).ev.intLevel = s.ev.intLevel ∧ (finishPreparation s).out.responses = s.out.responses ∧
    (finishPreparation s).pending = s.pending := by
  simp only [finishPreparation] <;> (repeat' split) <;> simp

@[simp] theorem prepareSignature_keeps (s : State) :
    (prepareSignature s).mem = s.mem ∧ (prepareSignature s).csr = s.csr ∧ (prepareSignature s).port = s.port ∧
    (prepareSignature s).arb = s.arb ∧ (prepareSignature s).regions = s.regions ∧
    (prepareSignature s).counters = s.counters ∧ (prepareSignature s).scrub = s.scrub ∧
    (prepareSignature s).spare = s.spare ∧ (prepareSignature s).sig.committedKeys = s.sig.committedKeys ∧
    (prepareSignature s).sig.loadedKeys = s.sig.loadedKeys ∧ (prepareSignature s).sig.keysSet = s.sig.keysSet ∧
    (prepareSignature s).sig.s = s.sig.s ∧ (prepareSignature s).sig.valid = s.sig.valid ∧ (prepareSignature s).jnl = s.jnl ∧
    (prepareSignature s).vote.record = s.vote.record ∧ (prepareSignature s).vote.skewReported = s.vote.skewReported ∧
    (prepareSignature s).repair.dc = s.repair.dc ∧ (prepareSignature s).repair.dv = s.repair.dv ∧
    (prepareSignature s).repair.dO = s.repair.dO ∧ (prepareSignature s).repair.r = s.repair.r ∧
    (prepareSignature s).repair.dcValid = s.repair.dcValid ∧ (prepareSignature s).mgmt = s.mgmt ∧
    (prepareSignature s).ev.health = s.ev.health ∧ (prepareSignature s).ev.faultLatch = s.ev.faultLatch ∧
    (prepareSignature s).ev.producer = s.ev.producer ∧ (prepareSignature s).ev.consumer = s.ev.consumer ∧
    (prepareSignature s).ev.kinds = s.ev.kinds ∧ (prepareSignature s).ev.intBusy = s.ev.intBusy ∧
    (prepareSignature s).ev.intLevel = s.ev.intLevel ∧ (prepareSignature s).out.responses = s.out.responses ∧
    (prepareSignature s).pending = s.pending := by
  simp only [prepareSignature] <;> (repeat' split) <;> simp

@[simp] theorem prepareResult_keeps (r : RollbackResult) (s : State) :
    (prepareResult r s).mem = s.mem ∧ (prepareResult r s).csr = s.csr ∧ (prepareResult r s).port = s.port ∧
    (prepareResult r s).arb = s.arb ∧ (prepareResult r s).regions = s.regions ∧ (prepareResult r s).counters = s.counters ∧
    (prepareResult r s).scrub = s.scrub ∧ (prepareResult r s).spare = s.spare ∧
    (prepareResult r s).sig.committedKeys = s.sig.committedKeys ∧ (prepareResult r s).sig.loadedKeys = s.sig.loadedKeys ∧
    (prepareResult r s).sig.keysSet = s.sig.keysSet ∧ (prepareResult r s).sig.s = s.sig.s ∧
    (prepareResult r s).sig.valid = s.sig.valid ∧ (prepareResult r s).jnl = s.jnl ∧
    (prepareResult r s).vote.record = s.vote.record ∧ (prepareResult r s).vote.skewReported = s.vote.skewReported ∧
    (prepareResult r s).repair.dc = s.repair.dc ∧ (prepareResult r s).repair.dv = s.repair.dv ∧
    (prepareResult r s).repair.dO = s.repair.dO ∧ (prepareResult r s).repair.r = s.repair.r ∧
    (prepareResult r s).repair.dcValid = s.repair.dcValid ∧ (prepareResult r s).mgmt = s.mgmt ∧
    (prepareResult r s).ev.health = s.ev.health ∧ (prepareResult r s).ev.faultLatch = s.ev.faultLatch ∧
    (prepareResult r s).ev.producer = s.ev.producer ∧ (prepareResult r s).ev.consumer = s.ev.consumer ∧
    (prepareResult r s).ev.kinds = s.ev.kinds ∧ (prepareResult r s).ev.intBusy = s.ev.intBusy ∧
    (prepareResult r s).ev.intLevel = s.ev.intLevel ∧ (prepareResult r s).out.responses = s.out.responses ∧
    (prepareResult r s).pending = s.pending := by
  simp only [prepareResult] <;> (repeat' split) <;> simp

@[simp] theorem beginPreparation_keeps (r : Option RollbackResult) (s : State) :
    (beginPreparation r s).mem = s.mem ∧ (beginPreparation r s).csr = s.csr ∧ (beginPreparation r s).port = s.port ∧
    (beginPreparation r s).arb = s.arb ∧ (beginPreparation r s).regions = s.regions ∧
    (beginPreparation r s).counters = s.counters ∧ (beginPreparation r s).scrub = s.scrub ∧
    (beginPreparation r s).spare = s.spare ∧ (beginPreparation r s).sig.committedKeys = s.sig.committedKeys ∧
    (beginPreparation r s).sig.loadedKeys = s.sig.loadedKeys ∧ (beginPreparation r s).sig.keysSet = s.sig.keysSet ∧
    (beginPreparation r s).sig.s = s.sig.s ∧ (beginPreparation r s).sig.valid = s.sig.valid ∧
    (beginPreparation r s).jnl = s.jnl ∧ (beginPreparation r s).vote.record = s.vote.record ∧
    (beginPreparation r s).vote.skewReported = s.vote.skewReported ∧ (beginPreparation r s).repair.dc = s.repair.dc ∧
    (beginPreparation r s).repair.dv = s.repair.dv ∧ (beginPreparation r s).repair.dO = s.repair.dO ∧
    (beginPreparation r s).repair.r = s.repair.r ∧ (beginPreparation r s).repair.dcValid = s.repair.dcValid ∧
    (beginPreparation r s).mgmt = s.mgmt ∧ (beginPreparation r s).ev.health = s.ev.health ∧
    (beginPreparation r s).ev.faultLatch = s.ev.faultLatch ∧ (beginPreparation r s).ev.producer = s.ev.producer ∧
    (beginPreparation r s).ev.consumer = s.ev.consumer ∧ (beginPreparation r s).ev.kinds = s.ev.kinds ∧
    (beginPreparation r s).ev.intBusy = s.ev.intBusy ∧ (beginPreparation r s).ev.intLevel = s.ev.intLevel ∧
    (beginPreparation r s).out.responses = s.out.responses ∧ (beginPreparation r s).pending = s.pending := by
  simp only [beginPreparation] <;> (repeat' split) <;> simp

@[simp] theorem restartPreparation_keeps (s : State) :
    (restartPreparation s).mem = s.mem ∧ (restartPreparation s).csr = s.csr ∧ (restartPreparation s).port = s.port ∧
    (restartPreparation s).arb = s.arb ∧ (restartPreparation s).regions = s.regions ∧
    (restartPreparation s).counters = s.counters ∧ (restartPreparation s).scrub = s.scrub ∧
    (restartPreparation s).spare = s.spare ∧ (restartPreparation s).sig.committedKeys = s.sig.committedKeys ∧
    (restartPreparation s).sig.loadedKeys = s.sig.loadedKeys ∧ (restartPreparation s).sig.keysSet = s.sig.keysSet ∧
    (restartPreparation s).sig.s = s.sig.s ∧ (restartPreparation s).sig.valid = s.sig.valid ∧
    (restartPreparation s).jnl = s.jnl ∧ (restartPreparation s).vote.record = s.vote.record ∧
    (restartPreparation s).vote.skewReported = s.vote.skewReported ∧ (restartPreparation s).repair.dc = s.repair.dc ∧
    (restartPreparation s).repair.dv = s.repair.dv ∧ (restartPreparation s).repair.dO = s.repair.dO ∧
    (restartPreparation s).repair.r = s.repair.r ∧ (restartPreparation s).repair.dcValid = s.repair.dcValid ∧
    (restartPreparation s).mgmt = s.mgmt ∧ (restartPreparation s).ev.health = s.ev.health ∧
    (restartPreparation s).ev.faultLatch = s.ev.faultLatch ∧ (restartPreparation s).ev.producer = s.ev.producer ∧
    (restartPreparation s).ev.consumer = s.ev.consumer ∧ (restartPreparation s).ev.kinds = s.ev.kinds ∧
    (restartPreparation s).ev.intBusy = s.ev.intBusy ∧ (restartPreparation s).ev.intLevel = s.ev.intLevel ∧
    (restartPreparation s).out.responses = s.out.responses ∧ (restartPreparation s).pending = s.pending := by
  simp only [restartPreparation] <;> (repeat' split) <;> simp

@[simp] theorem joinerReturn_keeps (c : Cause) (s : State) :
    (joinerReturn c s).mem = s.mem ∧ (joinerReturn c s).csr.counter = s.csr.counter ∧
    (joinerReturn c s).csr.committed = s.csr.committed ∧ (joinerReturn c s).csr.c = s.csr.c ∧
    (joinerReturn c s).port = s.port ∧ (joinerReturn c s).arb = s.arb ∧ (joinerReturn c s).regions = s.regions ∧
    (joinerReturn c s).counters = s.counters ∧ (joinerReturn c s).scrub = s.scrub ∧ (joinerReturn c s).spare = s.spare ∧
    (joinerReturn c s).sig.committedKeys = s.sig.committedKeys ∧ (joinerReturn c s).sig.loadedKeys = s.sig.loadedKeys ∧
    (joinerReturn c s).sig.keysSet = s.sig.keysSet ∧ (joinerReturn c s).sig.s = s.sig.s ∧
    (joinerReturn c s).sig.valid = s.sig.valid ∧ (joinerReturn c s).jnl = s.jnl ∧
    (joinerReturn c s).vote.record = s.vote.record ∧ (joinerReturn c s).vote.skewReported = s.vote.skewReported ∧
    (joinerReturn c s).repair.dc = s.repair.dc ∧ (joinerReturn c s).repair.dv = s.repair.dv ∧
    (joinerReturn c s).repair.dO = s.repair.dO ∧ (joinerReturn c s).repair.r = s.repair.r ∧
    (joinerReturn c s).repair.dcValid = s.repair.dcValid ∧ (joinerReturn c s).mgmt = s.mgmt ∧
    (joinerReturn c s).ev.health = s.ev.health ∧ (joinerReturn c s).ev.faultLatch = s.ev.faultLatch ∧
    (joinerReturn c s).ev.producer = s.ev.producer ∧ (joinerReturn c s).ev.consumer = s.ev.consumer ∧
    (joinerReturn c s).ev.kinds = s.ev.kinds ∧ (joinerReturn c s).ev.intBusy = s.ev.intBusy ∧
    (joinerReturn c s).ev.intLevel = s.ev.intLevel ∧ (joinerReturn c s).out.responses = s.out.responses ∧
    (joinerReturn c s).pending = s.pending := by
  simp only [joinerReturn] <;> (repeat' split) <;> simp

@[simp] theorem handJoinerAbort_keeps (why : AbortReason) (partner : Option Identity) (lines : Nat) (s : State) :
    (handJoinerAbort why partner lines s).mem = s.mem ∧ (handJoinerAbort why partner lines s).csr = s.csr ∧
    (handJoinerAbort why partner lines s).port = s.port ∧ (handJoinerAbort why partner lines s).arb = s.arb ∧
    (handJoinerAbort why partner lines s).regions = s.regions ∧
    (handJoinerAbort why partner lines s).counters = s.counters ∧ (handJoinerAbort why partner lines s).scrub = s.scrub ∧
    (handJoinerAbort why partner lines s).spare = s.spare ∧ (handJoinerAbort why partner lines s).sig = s.sig ∧
    (handJoinerAbort why partner lines s).jnl = s.jnl ∧ (handJoinerAbort why partner lines s).vote = s.vote ∧
    (handJoinerAbort why partner lines s).link1 = s.link1 ∧ (handJoinerAbort why partner lines s).link2 = s.link2 ∧
    (handJoinerAbort why partner lines s).repair = s.repair ∧ (handJoinerAbort why partner lines s).mgmt = s.mgmt ∧
    (handJoinerAbort why partner lines s).ev.health = s.ev.health ∧
    (handJoinerAbort why partner lines s).ev.faultLatch = s.ev.faultLatch ∧
    (handJoinerAbort why partner lines s).ev.producer = s.ev.producer ∧
    (handJoinerAbort why partner lines s).ev.consumer = s.ev.consumer ∧
    (handJoinerAbort why partner lines s).ev.kinds = s.ev.kinds ∧
    (handJoinerAbort why partner lines s).ev.intBusy = s.ev.intBusy ∧
    (handJoinerAbort why partner lines s).ev.intLevel = s.ev.intLevel ∧ (handJoinerAbort why partner lines s).out = s.out ∧
    (handJoinerAbort why partner lines s).pending = s.pending := by
  simp only [handJoinerAbort] <;> (repeat' split) <;> simp

@[simp] theorem sendAbort_keeps (l : Option LinkId) (why : AbortReason) (s : State) :
    (sendAbort l why s).mem = s.mem ∧ (sendAbort l why s).csr = s.csr ∧ (sendAbort l why s).port = s.port ∧
    (sendAbort l why s).arb = s.arb ∧ (sendAbort l why s).regions = s.regions ∧ (sendAbort l why s).counters = s.counters ∧
    (sendAbort l why s).scrub = s.scrub ∧ (sendAbort l why s).spare = s.spare ∧ (sendAbort l why s).sig = s.sig ∧
    (sendAbort l why s).jnl = s.jnl ∧ (sendAbort l why s).vote = s.vote ∧ (sendAbort l why s).repair = s.repair ∧
    (sendAbort l why s).mgmt = s.mgmt ∧ (sendAbort l why s).ev = s.ev ∧
    (sendAbort l why s).out.responses = s.out.responses ∧ (sendAbort l why s).pending = s.pending := by
  simp only [sendAbort] <;> (repeat' split) <;> simp

@[simp] theorem abortReceiving_keeps (why : AbortReason) (tell : Bool) (s : State) :
    (abortReceiving why tell s).mem = s.mem ∧ (abortReceiving why tell s).csr.counter = s.csr.counter ∧
    (abortReceiving why tell s).csr.committed = s.csr.committed ∧ (abortReceiving why tell s).csr.c = s.csr.c ∧
    (abortReceiving why tell s).port = s.port ∧ (abortReceiving why tell s).arb = s.arb ∧
    (abortReceiving why tell s).regions = s.regions ∧ (abortReceiving why tell s).counters = s.counters ∧
    (abortReceiving why tell s).scrub = s.scrub ∧ (abortReceiving why tell s).spare = s.spare ∧
    (abortReceiving why tell s).sig.committedKeys = s.sig.committedKeys ∧
    (abortReceiving why tell s).sig.loadedKeys = s.sig.loadedKeys ∧
    (abortReceiving why tell s).sig.keysSet = s.sig.keysSet ∧ (abortReceiving why tell s).sig.s = s.sig.s ∧
    (abortReceiving why tell s).sig.valid = s.sig.valid ∧ (abortReceiving why tell s).jnl = s.jnl ∧
    (abortReceiving why tell s).vote.record = s.vote.record ∧
    (abortReceiving why tell s).vote.skewReported = s.vote.skewReported ∧
    (abortReceiving why tell s).repair.dc = s.repair.dc ∧ (abortReceiving why tell s).repair.dv = s.repair.dv ∧
    (abortReceiving why tell s).repair.dO = s.repair.dO ∧ (abortReceiving why tell s).repair.r = s.repair.r ∧
    (abortReceiving why tell s).repair.dcValid = s.repair.dcValid ∧ (abortReceiving why tell s).mgmt = s.mgmt ∧
    (abortReceiving why tell s).ev.health = s.ev.health ∧ (abortReceiving why tell s).ev.faultLatch = s.ev.faultLatch ∧
    (abortReceiving why tell s).ev.producer = s.ev.producer ∧ (abortReceiving why tell s).ev.consumer = s.ev.consumer ∧
    (abortReceiving why tell s).ev.kinds = s.ev.kinds ∧ (abortReceiving why tell s).ev.intBusy = s.ev.intBusy ∧
    (abortReceiving why tell s).ev.intLevel = s.ev.intLevel ∧ (abortReceiving why tell s).out.responses = s.out.responses ∧
    (abortReceiving why tell s).pending = s.pending := by
  simp only [abortReceiving] <;> (repeat' split) <;> simp

@[simp] theorem endJoiner_keeps (why : AbortReason) (s : State) :
    (endJoiner why s).mem = s.mem ∧ (endJoiner why s).csr = s.csr ∧ (endJoiner why s).port = s.port ∧
    (endJoiner why s).arb = s.arb ∧ (endJoiner why s).regions = s.regions ∧ (endJoiner why s).counters = s.counters ∧
    (endJoiner why s).scrub = s.scrub ∧ (endJoiner why s).spare = s.spare ∧ (endJoiner why s).sig = s.sig ∧
    (endJoiner why s).jnl = s.jnl ∧ (endJoiner why s).vote.record = s.vote.record ∧
    (endJoiner why s).vote.skewReported = s.vote.skewReported ∧ (endJoiner why s).repair.dc = s.repair.dc ∧
    (endJoiner why s).repair.dv = s.repair.dv ∧ (endJoiner why s).repair.dO = s.repair.dO ∧
    (endJoiner why s).repair.r = s.repair.r ∧ (endJoiner why s).repair.dcValid = s.repair.dcValid ∧
    (endJoiner why s).mgmt = s.mgmt ∧ (endJoiner why s).ev.health = s.ev.health ∧
    (endJoiner why s).ev.faultLatch = s.ev.faultLatch ∧ (endJoiner why s).ev.producer = s.ev.producer ∧
    (endJoiner why s).ev.consumer = s.ev.consumer ∧ (endJoiner why s).ev.kinds = s.ev.kinds ∧
    (endJoiner why s).ev.intBusy = s.ev.intBusy ∧ (endJoiner why s).ev.intLevel = s.ev.intLevel ∧
    (endJoiner why s).out.responses = s.out.responses ∧ (endJoiner why s).pending = s.pending := by
  simp only [endJoiner] <;> (repeat' split) <;> simp

@[simp] theorem endSource_keeps (r : SourceRole) (s : State) :
    (endSource r s).mem = s.mem ∧ (endSource r s).csr = s.csr ∧ (endSource r s).port = s.port ∧
    (endSource r s).arb = s.arb ∧ (endSource r s).regions = s.regions ∧ (endSource r s).counters = s.counters ∧
    (endSource r s).scrub = s.scrub ∧ (endSource r s).spare = s.spare ∧ (endSource r s).sig = s.sig ∧
    (endSource r s).jnl = s.jnl ∧ (endSource r s).vote.record = s.vote.record ∧
    (endSource r s).vote.skewReported = s.vote.skewReported ∧ (endSource r s).link1 = s.link1 ∧
    (endSource r s).link2 = s.link2 ∧ (endSource r s).repair.dc = s.repair.dc ∧ (endSource r s).repair.dv = s.repair.dv ∧
    (endSource r s).repair.dO = s.repair.dO ∧ (endSource r s).repair.dcValid = s.repair.dcValid ∧
    (endSource r s).mgmt = s.mgmt ∧ (endSource r s).ev = s.ev ∧ (endSource r s).out = s.out ∧
    (endSource r s).pending = s.pending := by
  simp only [endSource] <;> (repeat' split) <;> simp

@[simp] theorem abortSource_keeps (why : AbortReason) (tell : Bool) (s : State) :
    (abortSource why tell s).mem = s.mem ∧ (abortSource why tell s).csr = s.csr ∧ (abortSource why tell s).port = s.port ∧
    (abortSource why tell s).arb = s.arb ∧ (abortSource why tell s).regions = s.regions ∧
    (abortSource why tell s).counters = s.counters ∧ (abortSource why tell s).scrub = s.scrub ∧
    (abortSource why tell s).spare = s.spare ∧ (abortSource why tell s).sig = s.sig ∧ (abortSource why tell s).jnl = s.jnl ∧
    (abortSource why tell s).vote.record = s.vote.record ∧
    (abortSource why tell s).vote.skewReported = s.vote.skewReported ∧ (abortSource why tell s).repair.dc = s.repair.dc ∧
    (abortSource why tell s).repair.dv = s.repair.dv ∧ (abortSource why tell s).repair.dO = s.repair.dO ∧
    (abortSource why tell s).repair.dcValid = s.repair.dcValid ∧ (abortSource why tell s).mgmt = s.mgmt ∧
    (abortSource why tell s).ev.health = s.ev.health ∧ (abortSource why tell s).ev.faultLatch = s.ev.faultLatch ∧
    (abortSource why tell s).ev.producer = s.ev.producer ∧ (abortSource why tell s).ev.consumer = s.ev.consumer ∧
    (abortSource why tell s).ev.kinds = s.ev.kinds ∧ (abortSource why tell s).ev.intBusy = s.ev.intBusy ∧
    (abortSource why tell s).ev.intLevel = s.ev.intLevel ∧ (abortSource why tell s).out.responses = s.out.responses ∧
    (abortSource why tell s).pending = s.pending := by
  simp only [abortSource] <;> (repeat' split) <;> simp

@[simp] theorem sendClose_keeps (r : SourceRole) (cyc : Cycle) (target : Nat) (s : State) :
    (sendClose r cyc target s).mem = s.mem ∧ (sendClose r cyc target s).csr = s.csr ∧
    (sendClose r cyc target s).port = s.port ∧ (sendClose r cyc target s).arb = s.arb ∧
    (sendClose r cyc target s).regions = s.regions ∧ (sendClose r cyc target s).counters = s.counters ∧
    (sendClose r cyc target s).scrub = s.scrub ∧ (sendClose r cyc target s).spare = s.spare ∧
    (sendClose r cyc target s).sig = s.sig ∧ (sendClose r cyc target s).jnl = s.jnl ∧
    (sendClose r cyc target s).vote.record = s.vote.record ∧
    (sendClose r cyc target s).vote.skewReported = s.vote.skewReported ∧
    (sendClose r cyc target s).repair.dc = s.repair.dc ∧ (sendClose r cyc target s).repair.dv = s.repair.dv ∧
    (sendClose r cyc target s).repair.dO = s.repair.dO ∧ (sendClose r cyc target s).repair.r = s.repair.r ∧
    (sendClose r cyc target s).repair.dcValid = s.repair.dcValid ∧ (sendClose r cyc target s).mgmt = s.mgmt ∧
    (sendClose r cyc target s).ev = s.ev ∧ (sendClose r cyc target s).out.responses = s.out.responses ∧
    (sendClose r cyc target s).pending = s.pending := by
  simp only [sendClose] <;> (repeat' split) <;> simp

@[simp] theorem closeIfDone_keeps (s : State) :
    (closeIfDone s).mem = s.mem ∧ (closeIfDone s).csr = s.csr ∧ (closeIfDone s).port = s.port ∧
    (closeIfDone s).arb = s.arb ∧ (closeIfDone s).regions = s.regions ∧ (closeIfDone s).counters = s.counters ∧
    (closeIfDone s).scrub = s.scrub ∧ (closeIfDone s).spare = s.spare ∧ (closeIfDone s).sig = s.sig ∧
    (closeIfDone s).jnl = s.jnl ∧ (closeIfDone s).vote.record = s.vote.record ∧
    (closeIfDone s).vote.skewReported = s.vote.skewReported ∧ (closeIfDone s).repair.dc = s.repair.dc ∧
    (closeIfDone s).repair.dv = s.repair.dv ∧ (closeIfDone s).repair.dO = s.repair.dO ∧
    (closeIfDone s).repair.r = s.repair.r ∧ (closeIfDone s).repair.dcValid = s.repair.dcValid ∧
    (closeIfDone s).mgmt = s.mgmt ∧ (closeIfDone s).ev = s.ev ∧ (closeIfDone s).out.responses = s.out.responses ∧
    (closeIfDone s).pending = s.pending := by
  simp only [closeIfDone] <;> (repeat' split) <;> simp

@[simp] theorem sendLine_keeps (r : SourceRole) (f : LineFrame) (s : State) :
    (sendLine r f s).mem = s.mem ∧ (sendLine r f s).csr = s.csr ∧ (sendLine r f s).port = s.port ∧
    (sendLine r f s).arb = s.arb ∧ (sendLine r f s).regions = s.regions ∧ (sendLine r f s).counters = s.counters ∧
    (sendLine r f s).scrub = s.scrub ∧ (sendLine r f s).spare = s.spare ∧ (sendLine r f s).sig = s.sig ∧
    (sendLine r f s).jnl = s.jnl ∧ (sendLine r f s).vote = s.vote ∧ (sendLine r f s).repair.dc = s.repair.dc ∧
    (sendLine r f s).repair.dv = s.repair.dv ∧ (sendLine r f s).repair.dO = s.repair.dO ∧
    (sendLine r f s).repair.r = s.repair.r ∧ (sendLine r f s).repair.dcValid = s.repair.dcValid ∧
    (sendLine r f s).mgmt = s.mgmt ∧ (sendLine r f s).ev = s.ev ∧ (sendLine r f s).out.responses = s.out.responses ∧
    (sendLine r f s).pending = s.pending := by
  simp only [sendLine] <;> (repeat' split) <;> simp

@[simp] theorem clearDirty_keeps (s : State) :
    (clearDirty s).mem = s.mem ∧ (clearDirty s).csr = s.csr ∧ (clearDirty s).port = s.port ∧ (clearDirty s).arb = s.arb ∧
    (clearDirty s).regions = s.regions ∧ (clearDirty s).counters = s.counters ∧ (clearDirty s).scrub = s.scrub ∧
    (clearDirty s).spare = s.spare ∧ (clearDirty s).sig = s.sig ∧ (clearDirty s).jnl = s.jnl ∧
    (clearDirty s).vote = s.vote ∧ (clearDirty s).link1 = s.link1 ∧ (clearDirty s).link2 = s.link2 ∧
    (clearDirty s).repair.role = s.repair.role ∧ (clearDirty s).repair.r = s.repair.r ∧ (clearDirty s).mgmt = s.mgmt ∧
    (clearDirty s).ev = s.ev ∧ (clearDirty s).out = s.out ∧ (clearDirty s).pending = s.pending := by
  simp only [clearDirty] <;> (repeat' split) <;> simp

@[simp] theorem markLine_keeps (o : Nat) (s : State) :
    (markLine o s).mem = s.mem ∧ (markLine o s).csr = s.csr ∧ (markLine o s).port = s.port ∧ (markLine o s).arb = s.arb ∧
    (markLine o s).regions = s.regions ∧ (markLine o s).counters = s.counters ∧ (markLine o s).scrub = s.scrub ∧
    (markLine o s).spare = s.spare ∧ (markLine o s).sig = s.sig ∧ (markLine o s).jnl = s.jnl ∧
    (markLine o s).vote = s.vote ∧ (markLine o s).link1 = s.link1 ∧ (markLine o s).link2 = s.link2 ∧
    (markLine o s).repair.role = s.repair.role ∧ (markLine o s).repair.dc = s.repair.dc ∧
    (markLine o s).repair.dv = s.repair.dv ∧ (markLine o s).repair.dcValid = s.repair.dcValid ∧
    (markLine o s).mgmt = s.mgmt ∧ (markLine o s).ev = s.ev ∧ (markLine o s).out = s.out ∧
    (markLine o s).pending = s.pending := by
  simp only [markLine] <;> (repeat' split) <;> simp

end Sys2Proof.Machine
end

