-- ==== Sys2Proof/Laws/Channel.lean ====
section
/-! SUPPORT. What the channel state operations leave as it was: for each operation one lemma that names every
part of the state it keeps. -/

namespace Sys2Proof.Machine

set_option linter.unnecessarySeqFocus false
set_option linter.unusedTactic false
set_option linter.unreachableTactic false
set_option linter.unusedSimpArgs false
@[simp] theorem cancelVote_keeps (s : State) :
    (cancelVote s).mem = s.mem ∧ (cancelVote s).csr = s.csr ∧ (cancelVote s).port = s.port ∧ (cancelVote s).arb = s.arb ∧
    (cancelVote s).regions = s.regions ∧ (cancelVote s).counters = s.counters ∧ (cancelVote s).scrub = s.scrub ∧
    (cancelVote s).spare = s.spare ∧ (cancelVote s).sig = s.sig ∧ (cancelVote s).jnl = s.jnl ∧
    (cancelVote s).vote.skewReported = s.vote.skewReported ∧ (cancelVote s).link1 = s.link1 ∧
    (cancelVote s).link2 = s.link2 ∧ (cancelVote s).repair = s.repair ∧ (cancelVote s).mgmt = s.mgmt ∧
    (cancelVote s).ev = s.ev ∧ (cancelVote s).out = s.out ∧ (cancelVote s).pending = s.pending := by
  simp only [cancelVote] <;> (repeat' split) <;> simp

@[simp] theorem endWalk_keeps (s : State) :
    (endWalk s).mem = s.mem ∧ (endWalk s).csr = s.csr ∧ (endWalk s).port = s.port ∧ (endWalk s).arb = s.arb ∧
    (endWalk s).regions = s.regions ∧ (endWalk s).counters = s.counters ∧ (endWalk s).scrub = s.scrub ∧
    (endWalk s).spare = s.spare ∧ (endWalk s).sig.committedKeys = s.sig.committedKeys ∧
    (endWalk s).sig.loadedKeys = s.sig.loadedKeys ∧ (endWalk s).sig.keysSet = s.sig.keysSet ∧ (endWalk s).sig.s = s.sig.s ∧
    (endWalk s).sig.valid = s.sig.valid ∧ (endWalk s).sig.poisoned = s.sig.poisoned ∧
    (endWalk s).sig.overflow = s.sig.overflow ∧ (endWalk s).jnl = s.jnl ∧ (endWalk s).vote = s.vote ∧
    (endWalk s).link1 = s.link1 ∧ (endWalk s).link2 = s.link2 ∧ (endWalk s).repair = s.repair ∧ (endWalk s).mgmt = s.mgmt ∧
    (endWalk s).ev.health = s.ev.health ∧ (endWalk s).ev.faultLatch = s.ev.faultLatch ∧
    (endWalk s).ev.producer = s.ev.producer ∧ (endWalk s).ev.consumer = s.ev.consumer ∧ (endWalk s).ev.kinds = s.ev.kinds ∧
    (endWalk s).ev.intBusy = s.ev.intBusy ∧ (endWalk s).ev.intLevel = s.ev.intLevel ∧ (endWalk s).out = s.out ∧
    (endWalk s).pending = s.pending := by
  simp only [endWalk] <;> (repeat' split) <;> simp

@[simp] theorem enterHalted_keeps (c : Cause) (s : State) :
    (enterHalted c s).mem = s.mem ∧ (enterHalted c s).port = s.port ∧ (enterHalted c s).arb = s.arb ∧
    (enterHalted c s).regions = s.regions ∧ (enterHalted c s).counters = s.counters ∧ (enterHalted c s).scrub = s.scrub ∧
    (enterHalted c s).spare = s.spare ∧ (enterHalted c s).sig.committedKeys = s.sig.committedKeys ∧
    (enterHalted c s).sig.loadedKeys = s.sig.loadedKeys ∧ (enterHalted c s).sig.keysSet = s.sig.keysSet ∧
    (enterHalted c s).sig.s = s.sig.s ∧ (enterHalted c s).sig.poisoned = s.sig.poisoned ∧
    (enterHalted c s).sig.overflow = s.sig.overflow ∧ (enterHalted c s).mgmt = s.mgmt ∧
    (enterHalted c s).ev.health = s.ev.health ∧ (enterHalted c s).ev.producer = s.ev.producer ∧
    (enterHalted c s).ev.consumer = s.ev.consumer ∧ (enterHalted c s).ev.kinds = s.ev.kinds ∧
    (enterHalted c s).ev.intBusy = s.ev.intBusy ∧ (enterHalted c s).ev.intLevel = s.ev.intLevel ∧
    (enterHalted c s).out.responses = s.out.responses ∧ (enterHalted c s).pending = s.pending := by
  simp only [enterHalted] <;> (repeat' split) <;> simp

@[simp] theorem recordFault_keeps (u : Nat × Word) (s : State) :
    (recordFault u s).mem = s.mem ∧ (recordFault u s).port = s.port ∧ (recordFault u s).arb = s.arb ∧
    (recordFault u s).regions = s.regions ∧ (recordFault u s).counters = s.counters ∧ (recordFault u s).scrub = s.scrub ∧
    (recordFault u s).spare = s.spare ∧ (recordFault u s).sig.committedKeys = s.sig.committedKeys ∧
    (recordFault u s).sig.loadedKeys = s.sig.loadedKeys ∧ (recordFault u s).sig.keysSet = s.sig.keysSet ∧
    (recordFault u s).sig.s = s.sig.s ∧ (recordFault u s).sig.poisoned = s.sig.poisoned ∧
    (recordFault u s).sig.overflow = s.sig.overflow ∧ (recordFault u s).mgmt = s.mgmt ∧
    (recordFault u s).ev.health = s.ev.health ∧ (recordFault u s).ev.producer = s.ev.producer ∧
    (recordFault u s).ev.consumer = s.ev.consumer ∧ (recordFault u s).ev.kinds = s.ev.kinds ∧
    (recordFault u s).ev.intBusy = s.ev.intBusy ∧ (recordFault u s).ev.intLevel = s.ev.intLevel ∧
    (recordFault u s).out.responses = s.out.responses ∧ (recordFault u s).pending = s.pending := by
  simp only [recordFault] <;> (repeat' split) <;> simp

@[simp] theorem withdraw_keeps (s : State) :
    (withdraw s).mem = s.mem ∧ (withdraw s).csr.committed = s.csr.committed ∧ (withdraw s).csr.c = s.csr.c ∧
    (withdraw s).port = s.port ∧ (withdraw s).arb = s.arb ∧ (withdraw s).regions = s.regions ∧
    (withdraw s).counters = s.counters ∧ (withdraw s).scrub = s.scrub ∧ (withdraw s).spare = s.spare ∧
    (withdraw s).sig.committedKeys = s.sig.committedKeys ∧ (withdraw s).sig.loadedKeys = s.sig.loadedKeys ∧
    (withdraw s).sig.keysSet = s.sig.keysSet ∧ (withdraw s).sig.s = s.sig.s ∧ (withdraw s).repair.dc = s.repair.dc ∧
    (withdraw s).repair.dv = s.repair.dv ∧ (withdraw s).repair.dO = s.repair.dO ∧
    (withdraw s).repair.dcValid = s.repair.dcValid ∧ (withdraw s).mgmt = s.mgmt ∧ (withdraw s).ev.health = s.ev.health ∧
    (withdraw s).ev.producer = s.ev.producer ∧ (withdraw s).ev.consumer = s.ev.consumer ∧
    (withdraw s).ev.kinds = s.ev.kinds ∧ (withdraw s).ev.intBusy = s.ev.intBusy ∧ (withdraw s).ev.intLevel = s.ev.intLevel ∧
    (withdraw s).out.responses = s.out.responses ∧ (withdraw s).pending = s.pending := by
  simp only [withdraw] <;> (repeat' split) <;> simp

@[simp] theorem abortSeal_keeps (first : Nat) (s : State) :
    (abortSeal first s).mem = s.mem ∧ (abortSeal first s).csr.counter = s.csr.counter ∧
    (abortSeal first s).csr.committed = s.csr.committed ∧ (abortSeal first s).csr.c = s.csr.c ∧
    (abortSeal first s).port = s.port ∧ (abortSeal first s).arb = s.arb ∧ (abortSeal first s).regions = s.regions ∧
    (abortSeal first s).counters = s.counters ∧ (abortSeal first s).scrub = s.scrub ∧ (abortSeal first s).spare = s.spare ∧
    (abortSeal first s).sig.committedKeys = s.sig.committedKeys ∧ (abortSeal first s).sig.loadedKeys = s.sig.loadedKeys ∧
    (abortSeal first s).sig.keysSet = s.sig.keysSet ∧ (abortSeal first s).sig.s = s.sig.s ∧
    (abortSeal first s).sig.valid = s.sig.valid ∧ (abortSeal first s).sig.poisoned = s.sig.poisoned ∧
    (abortSeal first s).sig.overflow = s.sig.overflow ∧ (abortSeal first s).jnl = s.jnl ∧
    (abortSeal first s).vote = s.vote ∧ (abortSeal first s).link1 = s.link1 ∧ (abortSeal first s).link2 = s.link2 ∧
    (abortSeal first s).repair = s.repair ∧ (abortSeal first s).mgmt = s.mgmt ∧
    (abortSeal first s).ev.health = s.ev.health ∧ (abortSeal first s).ev.faultLatch = s.ev.faultLatch ∧
    (abortSeal first s).ev.producer = s.ev.producer ∧ (abortSeal first s).ev.consumer = s.ev.consumer ∧
    (abortSeal first s).ev.kinds = s.ev.kinds ∧ (abortSeal first s).ev.intBusy = s.ev.intBusy ∧
    (abortSeal first s).ev.intLevel = s.ev.intLevel ∧ (abortSeal first s).out = s.out ∧
    (abortSeal first s).pending = s.pending := by
  simp only [abortSeal] <;> (repeat' split) <;> simp

@[simp] theorem listBelow_keeps (cursor : Nat) (xs : List Nat) (s : State) :
    (listBelow cursor xs s).mem = s.mem ∧ (listBelow cursor xs s).csr = s.csr ∧ (listBelow cursor xs s).port = s.port ∧
    (listBelow cursor xs s).arb = s.arb ∧ (listBelow cursor xs s).regions = s.regions ∧
    (listBelow cursor xs s).counters = s.counters ∧ (listBelow cursor xs s).scrub = s.scrub ∧
    (listBelow cursor xs s).spare = s.spare ∧ (listBelow cursor xs s).sig.committedKeys = s.sig.committedKeys ∧
    (listBelow cursor xs s).sig.loadedKeys = s.sig.loadedKeys ∧ (listBelow cursor xs s).sig.keysSet = s.sig.keysSet ∧
    (listBelow cursor xs s).sig.s = s.sig.s ∧ (listBelow cursor xs s).sig.valid = s.sig.valid ∧
    (listBelow cursor xs s).sig.walk = s.sig.walk ∧ (listBelow cursor xs s).sig.cursor = s.sig.cursor ∧
    (listBelow cursor xs s).sig.acc = s.sig.acc ∧ (listBelow cursor xs s).jnl = s.jnl ∧
    (listBelow cursor xs s).vote = s.vote ∧ (listBelow cursor xs s).link1 = s.link1 ∧
    (listBelow cursor xs s).link2 = s.link2 ∧ (listBelow cursor xs s).repair = s.repair ∧
    (listBelow cursor xs s).mgmt = s.mgmt ∧ (listBelow cursor xs s).ev = s.ev ∧ (listBelow cursor xs s).out = s.out ∧
    (listBelow cursor xs s).pending = s.pending := by
  induction xs generalizing s with
  | nil => simp [listBelow]
  | cons x xs ih =>
    simp only [listBelow, ih]
    split <;> (try split) <;> simp

@[simp] theorem vitalInOut_keeps (by_ : ReadBy) (bad : List Nat) (s : State) :
    (vitalInOut by_ bad s).mem = s.mem ∧ (vitalInOut by_ bad s).csr = s.csr ∧ (vitalInOut by_ bad s).port = s.port ∧
    (vitalInOut by_ bad s).arb = s.arb ∧ (vitalInOut by_ bad s).regions = s.regions ∧
    (vitalInOut by_ bad s).counters = s.counters ∧ (vitalInOut by_ bad s).scrub = s.scrub ∧
    (vitalInOut by_ bad s).spare = s.spare ∧ (vitalInOut by_ bad s).sig.committedKeys = s.sig.committedKeys ∧
    (vitalInOut by_ bad s).sig.loadedKeys = s.sig.loadedKeys ∧ (vitalInOut by_ bad s).sig.keysSet = s.sig.keysSet ∧
    (vitalInOut by_ bad s).sig.s = s.sig.s ∧ (vitalInOut by_ bad s).sig.valid = s.sig.valid ∧
    (vitalInOut by_ bad s).jnl = s.jnl ∧ (vitalInOut by_ bad s).vote.record = s.vote.record ∧
    (vitalInOut by_ bad s).vote.skewReported = s.vote.skewReported ∧ (vitalInOut by_ bad s).repair.dc = s.repair.dc ∧
    (vitalInOut by_ bad s).repair.dv = s.repair.dv ∧ (vitalInOut by_ bad s).repair.dO = s.repair.dO ∧
    (vitalInOut by_ bad s).repair.r = s.repair.r ∧ (vitalInOut by_ bad s).repair.dcValid = s.repair.dcValid ∧
    (vitalInOut by_ bad s).mgmt = s.mgmt ∧ (vitalInOut by_ bad s).ev.health = s.ev.health ∧
    (vitalInOut by_ bad s).ev.faultLatch = s.ev.faultLatch ∧ (vitalInOut by_ bad s).ev.producer = s.ev.producer ∧
    (vitalInOut by_ bad s).ev.consumer = s.ev.consumer ∧ (vitalInOut by_ bad s).ev.kinds = s.ev.kinds ∧
    (vitalInOut by_ bad s).ev.intBusy = s.ev.intBusy ∧ (vitalInOut by_ bad s).ev.intLevel = s.ev.intLevel ∧
    (vitalInOut by_ bad s).out.responses = s.out.responses ∧ (vitalInOut by_ bad s).pending = s.pending := by
  simp only [vitalInOut] <;> (repeat' split) <;> simp

@[simp] theorem markSegments_keeps (xs : List Nat) (s : State) :
    (markSegments xs s).mem = s.mem ∧ (markSegments xs s).csr = s.csr ∧ (markSegments xs s).port = s.port ∧
    (markSegments xs s).arb = s.arb ∧ (markSegments xs s).regions = s.regions ∧ (markSegments xs s).counters = s.counters ∧
    (markSegments xs s).scrub = s.scrub ∧ (markSegments xs s).spare = s.spare ∧ (markSegments xs s).sig = s.sig ∧
    (markSegments xs s).jnl.head = s.jnl.head ∧ (markSegments xs s).jnl.boundary = s.jnl.boundary ∧
    (markSegments xs s).jnl.tail = s.jnl.tail ∧ (markSegments xs s).jnl.votingCount = s.jnl.votingCount ∧
    (markSegments xs s).jnl.openCount = s.jnl.openCount ∧ (markSegments xs s).jnl.votingPresent = s.jnl.votingPresent ∧
    (markSegments xs s).jnl.pressure = s.jnl.pressure ∧ (markSegments xs s).jnl.rb = s.jnl.rb ∧
    (markSegments xs s).vote = s.vote ∧ (markSegments xs s).link1 = s.link1 ∧ (markSegments xs s).link2 = s.link2 ∧
    (markSegments xs s).repair = s.repair ∧ (markSegments xs s).mgmt = s.mgmt ∧ (markSegments xs s).ev = s.ev ∧
    (markSegments xs s).out = s.out ∧ (markSegments xs s).pending = s.pending := by
  induction xs generalizing s with
  | nil => simp [markSegments]
  | cons x xs ih =>
    simp only [markSegments, ih]
    split <;> simp

@[simp] theorem consequences_keeps (by_ : ReadBy) (bad : List Nat) (s : State) :
    (consequences by_ bad s).mem = s.mem ∧ (consequences by_ bad s).csr.committed = s.csr.committed ∧
    (consequences by_ bad s).csr.c = s.csr.c ∧ (consequences by_ bad s).port = s.port ∧
    (consequences by_ bad s).arb = s.arb ∧ (consequences by_ bad s).regions = s.regions ∧
    (consequences by_ bad s).counters = s.counters ∧ (consequences by_ bad s).scrub = s.scrub ∧
    (consequences by_ bad s).spare = s.spare ∧ (consequences by_ bad s).sig.committedKeys = s.sig.committedKeys ∧
    (consequences by_ bad s).sig.loadedKeys = s.sig.loadedKeys ∧ (consequences by_ bad s).sig.keysSet = s.sig.keysSet ∧
    (consequences by_ bad s).sig.s = s.sig.s ∧ (consequences by_ bad s).repair.dc = s.repair.dc ∧
    (consequences by_ bad s).repair.dv = s.repair.dv ∧ (consequences by_ bad s).repair.dO = s.repair.dO ∧
    (consequences by_ bad s).repair.dcValid = s.repair.dcValid ∧ (consequences by_ bad s).mgmt = s.mgmt ∧
    (consequences by_ bad s).ev.health = s.ev.health ∧ (consequences by_ bad s).ev.producer = s.ev.producer ∧
    (consequences by_ bad s).ev.consumer = s.ev.consumer ∧ (consequences by_ bad s).ev.kinds = s.ev.kinds ∧
    (consequences by_ bad s).ev.intBusy = s.ev.intBusy ∧ (consequences by_ bad s).ev.intLevel = s.ev.intLevel ∧
    (consequences by_ bad s).out.responses = s.out.responses ∧ (consequences by_ bad s).pending = s.pending := by
  simp only [consequences] <;> (repeat' split) <;> simp

@[simp] theorem heldWatch_keeps (s : State) :
    (heldWatch s).mem = s.mem ∧ (heldWatch s).port = s.port ∧ (heldWatch s).arb = s.arb ∧
    (heldWatch s).regions = s.regions ∧ (heldWatch s).counters = s.counters ∧ (heldWatch s).scrub = s.scrub ∧
    (heldWatch s).spare = s.spare ∧ (heldWatch s).sig.committedKeys = s.sig.committedKeys ∧
    (heldWatch s).sig.loadedKeys = s.sig.loadedKeys ∧ (heldWatch s).sig.keysSet = s.sig.keysSet ∧
    (heldWatch s).sig.s = s.sig.s ∧ (heldWatch s).mgmt = s.mgmt ∧ (heldWatch s).ev.health = s.ev.health ∧
    (heldWatch s).ev.producer = s.ev.producer ∧ (heldWatch s).ev.consumer = s.ev.consumer ∧
    (heldWatch s).ev.kinds = s.ev.kinds ∧ (heldWatch s).ev.intBusy = s.ev.intBusy ∧
    (heldWatch s).ev.intLevel = s.ev.intLevel ∧ (heldWatch s).out.responses = s.out.responses ∧
    (heldWatch s).pending = s.pending := by
  simp only [heldWatch] <;> (repeat' split) <;> simp

@[simp] theorem enterHeld_keeps (s : State) :
    (enterHeld s).mem = s.mem ∧ (enterHeld s).port = s.port ∧ (enterHeld s).arb = s.arb ∧
    (enterHeld s).regions = s.regions ∧ (enterHeld s).counters = s.counters ∧ (enterHeld s).scrub = s.scrub ∧
    (enterHeld s).spare = s.spare ∧ (enterHeld s).sig.committedKeys = s.sig.committedKeys ∧
    (enterHeld s).sig.loadedKeys = s.sig.loadedKeys ∧ (enterHeld s).sig.keysSet = s.sig.keysSet ∧
    (enterHeld s).sig.s = s.sig.s ∧ (enterHeld s).mgmt = s.mgmt ∧ (enterHeld s).ev.health = s.ev.health ∧
    (enterHeld s).ev.producer = s.ev.producer ∧ (enterHeld s).ev.consumer = s.ev.consumer ∧
    (enterHeld s).ev.kinds = s.ev.kinds ∧ (enterHeld s).ev.intBusy = s.ev.intBusy ∧
    (enterHeld s).ev.intLevel = s.ev.intLevel ∧ (enterHeld s).out.responses = s.out.responses ∧
    (enterHeld s).pending = s.pending := by
  simp only [enterHeld] <;> (repeat' split) <;> simp

@[simp] theorem actOnResult_keeps (why : Option RollbackReason) (r : RollbackResult) (s : State) :
    (actOnResult why r s).mem = s.mem ∧ (actOnResult why r s).port = s.port ∧ (actOnResult why r s).arb = s.arb ∧
    (actOnResult why r s).regions = s.regions ∧ (actOnResult why r s).counters = s.counters ∧
    (actOnResult why r s).scrub = s.scrub ∧ (actOnResult why r s).spare = s.spare ∧
    (actOnResult why r s).sig.committedKeys = s.sig.committedKeys ∧
    (actOnResult why r s).sig.loadedKeys = s.sig.loadedKeys ∧ (actOnResult why r s).sig.keysSet = s.sig.keysSet ∧
    (actOnResult why r s).sig.s = s.sig.s ∧ (actOnResult why r s).mgmt = s.mgmt ∧
    (actOnResult why r s).ev.health = s.ev.health ∧ (actOnResult why r s).ev.producer = s.ev.producer ∧
    (actOnResult why r s).ev.consumer = s.ev.consumer ∧ (actOnResult why r s).ev.kinds = s.ev.kinds ∧
    (actOnResult why r s).ev.intBusy = s.ev.intBusy ∧ (actOnResult why r s).ev.intLevel = s.ev.intLevel ∧
    (actOnResult why r s).out.responses = s.out.responses ∧ (actOnResult why r s).pending = s.pending := by
  simp only [actOnResult] <;> (repeat' split) <;> simp

end Sys2Proof.Machine
end

