-- ==== Sys2Proof/Laws/Vote.lean ====
section
/-! SUPPORT. What the vote operations leave as it was: for each operation one lemma that names every
part of the state it keeps. -/

namespace Sys2Proof.Machine

set_option linter.unnecessarySeqFocus false
set_option linter.unusedTactic false
set_option linter.unreachableTactic false
set_option linter.unusedSimpArgs false
@[simp] theorem markPeers_keeps (majority : Option Nat) (s : State) :
    (markPeers majority s).mem = s.mem ∧ (markPeers majority s).csr = s.csr ∧ (markPeers majority s).port = s.port ∧
    (markPeers majority s).arb = s.arb ∧ (markPeers majority s).regions = s.regions ∧
    (markPeers majority s).counters = s.counters ∧ (markPeers majority s).scrub = s.scrub ∧
    (markPeers majority s).spare = s.spare ∧ (markPeers majority s).sig = s.sig ∧ (markPeers majority s).jnl = s.jnl ∧
    (markPeers majority s).vote.record = s.vote.record ∧ (markPeers majority s).vote.skewReported = s.vote.skewReported ∧
    (markPeers majority s).link1 = s.link1 ∧ (markPeers majority s).link2 = s.link2 ∧
    (markPeers majority s).repair = s.repair ∧ (markPeers majority s).mgmt = s.mgmt ∧ (markPeers majority s).ev = s.ev ∧
    (markPeers majority s).out = s.out ∧ (markPeers majority s).pending = s.pending := by
  simp only [markPeers] <;> (repeat' split) <;> simp

@[simp] theorem toggleHealth_keeps (s : State) :
    (toggleHealth s).mem = s.mem ∧ (toggleHealth s).csr = s.csr ∧ (toggleHealth s).port = s.port ∧
    (toggleHealth s).arb = s.arb ∧ (toggleHealth s).regions = s.regions ∧ (toggleHealth s).counters = s.counters ∧
    (toggleHealth s).scrub = s.scrub ∧ (toggleHealth s).spare = s.spare ∧ (toggleHealth s).sig = s.sig ∧
    (toggleHealth s).jnl = s.jnl ∧ (toggleHealth s).vote = s.vote ∧ (toggleHealth s).link1 = s.link1 ∧
    (toggleHealth s).link2 = s.link2 ∧ (toggleHealth s).repair = s.repair ∧ (toggleHealth s).mgmt = s.mgmt ∧
    (toggleHealth s).ev.faultLatch = s.ev.faultLatch ∧ (toggleHealth s).ev.producer = s.ev.producer ∧
    (toggleHealth s).ev.consumer = s.ev.consumer ∧ (toggleHealth s).ev.kinds = s.ev.kinds ∧
    (toggleHealth s).ev.waiting = s.ev.waiting ∧ (toggleHealth s).ev.withheld = s.ev.withheld ∧
    (toggleHealth s).ev.intBusy = s.ev.intBusy ∧ (toggleHealth s).ev.intLevel = s.ev.intLevel ∧
    (toggleHealth s).out = s.out ∧ (toggleHealth s).pending = s.pending := by
  simp only [toggleHealth] <;> (repeat' split) <;> simp

@[simp] theorem commitMaps_keeps (s : State) :
    (commitMaps s).mem = s.mem ∧ (commitMaps s).csr = s.csr ∧ (commitMaps s).port = s.port ∧ (commitMaps s).arb = s.arb ∧
    (commitMaps s).regions = s.regions ∧ (commitMaps s).counters = s.counters ∧ (commitMaps s).scrub = s.scrub ∧
    (commitMaps s).spare = s.spare ∧ (commitMaps s).sig = s.sig ∧ (commitMaps s).jnl = s.jnl ∧
    (commitMaps s).vote = s.vote ∧ (commitMaps s).link1 = s.link1 ∧ (commitMaps s).link2 = s.link2 ∧
    (commitMaps s).repair.role = s.repair.role ∧ (commitMaps s).repair.dO = s.repair.dO ∧
    (commitMaps s).repair.r = s.repair.r ∧ (commitMaps s).mgmt = s.mgmt ∧ (commitMaps s).ev = s.ev ∧
    (commitMaps s).out = s.out ∧ (commitMaps s).pending = s.pending := by
  simp only [commitMaps] <;> (repeat' split) <;> simp

@[simp] theorem agree_keeps (s : State) :
    (agree s).mem = s.mem ∧ (agree s).csr.counter = s.csr.counter ∧ (agree s).port = s.port ∧ (agree s).arb = s.arb ∧
    (agree s).regions = s.regions ∧ (agree s).counters = s.counters ∧ (agree s).scrub = s.scrub ∧
    (agree s).spare = s.spare ∧ (agree s).sig = s.sig ∧ (agree s).jnl.boundary = s.jnl.boundary ∧
    (agree s).jnl.tail = s.jnl.tail ∧ (agree s).jnl.openCount = s.jnl.openCount ∧ (agree s).jnl.openOver = s.jnl.openOver ∧
    (agree s).jnl.rb = s.jnl.rb ∧ (agree s).vote = s.vote ∧ (agree s).link1 = s.link1 ∧ (agree s).link2 = s.link2 ∧
    (agree s).repair.role = s.repair.role ∧ (agree s).repair.dO = s.repair.dO ∧ (agree s).repair.r = s.repair.r ∧
    (agree s).mgmt = s.mgmt ∧ (agree s).ev.faultLatch = s.ev.faultLatch ∧ (agree s).ev.producer = s.ev.producer ∧
    (agree s).ev.consumer = s.ev.consumer ∧ (agree s).ev.kinds = s.ev.kinds ∧ (agree s).ev.intBusy = s.ev.intBusy ∧
    (agree s).ev.intLevel = s.ev.intLevel ∧ (agree s).out = s.out ∧ (agree s).pending = s.pending := by
  simp only [agree] <;> (repeat' split) <;> simp

@[simp] theorem localDissent_keeps (s : State) :
    (localDissent s).mem = s.mem ∧ (localDissent s).csr.committed = s.csr.committed ∧ (localDissent s).csr.c = s.csr.c ∧
    (localDissent s).port = s.port ∧ (localDissent s).arb = s.arb ∧ (localDissent s).regions = s.regions ∧
    (localDissent s).counters = s.counters ∧ (localDissent s).scrub = s.scrub ∧ (localDissent s).spare = s.spare ∧
    (localDissent s).sig.committedKeys = s.sig.committedKeys ∧ (localDissent s).sig.loadedKeys = s.sig.loadedKeys ∧
    (localDissent s).sig.keysSet = s.sig.keysSet ∧ (localDissent s).sig.s = s.sig.s ∧
    (localDissent s).vote.record = s.vote.record ∧ (localDissent s).repair.dc = s.repair.dc ∧
    (localDissent s).repair.dv = s.repair.dv ∧ (localDissent s).repair.dO = s.repair.dO ∧
    (localDissent s).repair.dcValid = s.repair.dcValid ∧ (localDissent s).mgmt = s.mgmt ∧
    (localDissent s).ev.health = s.ev.health ∧ (localDissent s).ev.faultLatch = s.ev.faultLatch ∧
    (localDissent s).ev.producer = s.ev.producer ∧ (localDissent s).ev.consumer = s.ev.consumer ∧
    (localDissent s).ev.kinds = s.ev.kinds ∧ (localDissent s).ev.intBusy = s.ev.intBusy ∧
    (localDissent s).ev.intLevel = s.ev.intLevel ∧ (localDissent s).out.responses = s.out.responses ∧
    (localDissent s).pending = s.pending := by
  simp only [localDissent] <;> (repeat' split) <;> simp

@[simp] theorem noMajority_keeps (s : State) :
    (noMajority s).mem = s.mem ∧ (noMajority s).port = s.port ∧ (noMajority s).arb = s.arb ∧
    (noMajority s).regions = s.regions ∧ (noMajority s).counters = s.counters ∧ (noMajority s).scrub = s.scrub ∧
    (noMajority s).spare = s.spare ∧ (noMajority s).sig.committedKeys = s.sig.committedKeys ∧
    (noMajority s).sig.loadedKeys = s.sig.loadedKeys ∧ (noMajority s).sig.keysSet = s.sig.keysSet ∧
    (noMajority s).sig.s = s.sig.s ∧ (noMajority s).mgmt = s.mgmt ∧ (noMajority s).ev.health = s.ev.health ∧
    (noMajority s).ev.producer = s.ev.producer ∧ (noMajority s).ev.consumer = s.ev.consumer ∧
    (noMajority s).ev.kinds = s.ev.kinds ∧ (noMajority s).ev.intBusy = s.ev.intBusy ∧
    (noMajority s).ev.intLevel = s.ev.intLevel ∧ (noMajority s).out.responses = s.out.responses ∧
    (noMajority s).pending = s.pending := by
  simp only [noMajority] <;> (repeat' split) <;> simp

@[simp] theorem clearVote_keeps (s : State) :
    (clearVote s).mem = s.mem ∧ (clearVote s).csr = s.csr ∧ (clearVote s).port = s.port ∧ (clearVote s).arb = s.arb ∧
    (clearVote s).regions = s.regions ∧ (clearVote s).counters = s.counters ∧ (clearVote s).scrub = s.scrub ∧
    (clearVote s).spare = s.spare ∧ (clearVote s).sig = s.sig ∧ (clearVote s).jnl = s.jnl ∧
    (clearVote s).vote.peer0 = s.vote.peer0 ∧ (clearVote s).vote.peer1 = s.vote.peer1 ∧
    (clearVote s).vote.skewReported = s.vote.skewReported ∧ (clearVote s).link1 = s.link1 ∧ (clearVote s).link2 = s.link2 ∧
    (clearVote s).repair = s.repair ∧ (clearVote s).mgmt = s.mgmt ∧ (clearVote s).ev = s.ev ∧ (clearVote s).out = s.out ∧
    (clearVote s).pending = s.pending := by
  simp only [clearVote] <;> (repeat' split) <;> simp

@[simp] theorem actOnVote_keeps (s : State) :
    (actOnVote s).mem = s.mem ∧ (actOnVote s).port = s.port ∧ (actOnVote s).arb = s.arb ∧
    (actOnVote s).regions = s.regions ∧ (actOnVote s).counters = s.counters ∧ (actOnVote s).scrub = s.scrub ∧
    (actOnVote s).spare = s.spare ∧ (actOnVote s).sig.committedKeys = s.sig.committedKeys ∧
    (actOnVote s).sig.loadedKeys = s.sig.loadedKeys ∧ (actOnVote s).sig.keysSet = s.sig.keysSet ∧
    (actOnVote s).sig.s = s.sig.s ∧ (actOnVote s).mgmt = s.mgmt ∧ (actOnVote s).ev.producer = s.ev.producer ∧
    (actOnVote s).ev.consumer = s.ev.consumer ∧ (actOnVote s).ev.kinds = s.ev.kinds ∧
    (actOnVote s).ev.intBusy = s.ev.intBusy ∧ (actOnVote s).ev.intLevel = s.ev.intLevel ∧
    (actOnVote s).out.responses = s.out.responses ∧ (actOnVote s).pending = s.pending := by
  simp only [actOnVote] <;> (repeat' split) <;> simp

@[simp] theorem resolveVote_keeps (s : State) :
    (resolveVote s).mem = s.mem ∧ (resolveVote s).port = s.port ∧ (resolveVote s).arb = s.arb ∧
    (resolveVote s).regions = s.regions ∧ (resolveVote s).counters = s.counters ∧ (resolveVote s).scrub = s.scrub ∧
    (resolveVote s).spare = s.spare ∧ (resolveVote s).sig.committedKeys = s.sig.committedKeys ∧
    (resolveVote s).sig.loadedKeys = s.sig.loadedKeys ∧ (resolveVote s).sig.keysSet = s.sig.keysSet ∧
    (resolveVote s).sig.s = s.sig.s ∧ (resolveVote s).mgmt = s.mgmt ∧ (resolveVote s).ev.producer = s.ev.producer ∧
    (resolveVote s).ev.consumer = s.ev.consumer ∧ (resolveVote s).ev.kinds = s.ev.kinds ∧
    (resolveVote s).ev.intBusy = s.ev.intBusy ∧ (resolveVote s).ev.intLevel = s.ev.intLevel ∧
    (resolveVote s).out.responses = s.out.responses ∧ (resolveVote s).pending = s.pending := by
  simp only [resolveVote] <;> (repeat' split) <;> simp

@[simp] theorem resolveIfComplete_keeps (s : State) :
    (resolveIfComplete s).mem = s.mem ∧ (resolveIfComplete s).port = s.port ∧ (resolveIfComplete s).arb = s.arb ∧
    (resolveIfComplete s).regions = s.regions ∧ (resolveIfComplete s).counters = s.counters ∧
    (resolveIfComplete s).scrub = s.scrub ∧ (resolveIfComplete s).spare = s.spare ∧
    (resolveIfComplete s).sig.committedKeys = s.sig.committedKeys ∧
    (resolveIfComplete s).sig.loadedKeys = s.sig.loadedKeys ∧ (resolveIfComplete s).sig.keysSet = s.sig.keysSet ∧
    (resolveIfComplete s).sig.s = s.sig.s ∧ (resolveIfComplete s).mgmt = s.mgmt ∧
    (resolveIfComplete s).ev.producer = s.ev.producer ∧ (resolveIfComplete s).ev.consumer = s.ev.consumer ∧
    (resolveIfComplete s).ev.kinds = s.ev.kinds ∧ (resolveIfComplete s).ev.intBusy = s.ev.intBusy ∧
    (resolveIfComplete s).ev.intLevel = s.ev.intLevel ∧ (resolveIfComplete s).out.responses = s.out.responses ∧
    (resolveIfComplete s).pending = s.pending := by
  simp only [resolveIfComplete] <;> (repeat' split) <;> simp

@[simp] theorem rotateMaps_keeps (s : State) :
    (rotateMaps s).mem = s.mem ∧ (rotateMaps s).csr = s.csr ∧ (rotateMaps s).port = s.port ∧ (rotateMaps s).arb = s.arb ∧
    (rotateMaps s).regions = s.regions ∧ (rotateMaps s).counters = s.counters ∧ (rotateMaps s).scrub = s.scrub ∧
    (rotateMaps s).spare = s.spare ∧ (rotateMaps s).sig = s.sig ∧ (rotateMaps s).jnl = s.jnl ∧
    (rotateMaps s).vote = s.vote ∧ (rotateMaps s).link1 = s.link1 ∧ (rotateMaps s).link2 = s.link2 ∧
    (rotateMaps s).repair.role = s.repair.role ∧ (rotateMaps s).repair.dc = s.repair.dc ∧
    (rotateMaps s).repair.r = s.repair.r ∧ (rotateMaps s).repair.dcValid = s.repair.dcValid ∧ (rotateMaps s).mgmt = s.mgmt ∧
    (rotateMaps s).ev = s.ev ∧ (rotateMaps s).out = s.out ∧ (rotateMaps s).pending = s.pending := by
  simp only [rotateMaps] <;> (repeat' split) <;> simp

@[simp] theorem sendSign_keeps (s : State) :
    (sendSign s).mem = s.mem ∧ (sendSign s).csr = s.csr ∧ (sendSign s).port = s.port ∧ (sendSign s).arb = s.arb ∧
    (sendSign s).regions = s.regions ∧ (sendSign s).counters = s.counters ∧ (sendSign s).scrub = s.scrub ∧
    (sendSign s).spare = s.spare ∧ (sendSign s).sig = s.sig ∧ (sendSign s).jnl = s.jnl ∧ (sendSign s).vote = s.vote ∧
    (sendSign s).repair = s.repair ∧ (sendSign s).mgmt = s.mgmt ∧ (sendSign s).ev = s.ev ∧
    (sendSign s).out.responses = s.out.responses ∧ (sendSign s).pending = s.pending := by
  simp only [sendSign] <;> (repeat' split) <;> simp

@[simp] theorem countMark_keeps (s : State) :
    (countMark s).mem = s.mem ∧ (countMark s).csr = s.csr ∧ (countMark s).port = s.port ∧ (countMark s).arb = s.arb ∧
    (countMark s).regions = s.regions ∧ (countMark s).counters = s.counters ∧ (countMark s).scrub = s.scrub ∧
    (countMark s).spare = s.spare ∧ (countMark s).sig = s.sig ∧ (countMark s).jnl = s.jnl ∧
    (countMark s).vote.record = s.vote.record ∧ (countMark s).vote.skewReported = s.vote.skewReported ∧
    (countMark s).repair.dc = s.repair.dc ∧ (countMark s).repair.dv = s.repair.dv ∧ (countMark s).repair.dO = s.repair.dO ∧
    (countMark s).repair.dcValid = s.repair.dcValid ∧ (countMark s).mgmt = s.mgmt ∧ (countMark s).ev.health = s.ev.health ∧
    (countMark s).ev.faultLatch = s.ev.faultLatch ∧ (countMark s).ev.producer = s.ev.producer ∧
    (countMark s).ev.consumer = s.ev.consumer ∧ (countMark s).ev.kinds = s.ev.kinds ∧
    (countMark s).ev.intBusy = s.ev.intBusy ∧ (countMark s).ev.intLevel = s.ev.intLevel ∧
    (countMark s).out.responses = s.out.responses ∧ (countMark s).pending = s.pending := by
  simp only [countMark] <;> (repeat' split) <;> simp

@[simp] theorem clearReported_keeps (s : State) :
    (clearReported s).mem = s.mem ∧ (clearReported s).csr = s.csr ∧ (clearReported s).port.queue = s.port.queue ∧
    (clearReported s).port.held = s.port.held ∧ (clearReported s).port.lastRefusal = s.port.lastRefusal ∧
    (clearReported s).port.refused = s.port.refused ∧ (clearReported s).arb = s.arb ∧
    (clearReported s).regions = s.regions ∧ (clearReported s).counters = s.counters ∧ (clearReported s).scrub = s.scrub ∧
    (clearReported s).spare = s.spare ∧ (clearReported s).sig = s.sig ∧ (clearReported s).jnl = s.jnl ∧
    (clearReported s).vote = s.vote ∧ (clearReported s).link1 = s.link1 ∧ (clearReported s).link2 = s.link2 ∧
    (clearReported s).repair = s.repair ∧ (clearReported s).mgmt = s.mgmt ∧ (clearReported s).ev = s.ev ∧
    (clearReported s).out = s.out ∧ (clearReported s).pending = s.pending := by
  simp only [clearReported] <;> (repeat' split) <;> simp

@[simp] theorem openMark_keeps (s : State) :
    (openMark s).mem = s.mem ∧ (openMark s).port.queue = s.port.queue ∧ (openMark s).port.held = s.port.held ∧
    (openMark s).port.lastRefusal = s.port.lastRefusal ∧ (openMark s).port.refused = s.port.refused ∧
    (openMark s).arb = s.arb ∧ (openMark s).regions = s.regions ∧ (openMark s).counters = s.counters ∧
    (openMark s).scrub = s.scrub ∧ (openMark s).spare = s.spare ∧ (openMark s).sig.committedKeys = s.sig.committedKeys ∧
    (openMark s).sig.loadedKeys = s.sig.loadedKeys ∧ (openMark s).sig.keysSet = s.sig.keysSet ∧
    (openMark s).sig.s = s.sig.s ∧ (openMark s).mgmt = s.mgmt ∧ (openMark s).ev.producer = s.ev.producer ∧
    (openMark s).ev.consumer = s.ev.consumer ∧ (openMark s).ev.kinds = s.ev.kinds ∧ (openMark s).ev.intBusy = s.ev.intBusy ∧
    (openMark s).ev.intLevel = s.ev.intLevel ∧ (openMark s).out.responses = s.out.responses ∧
    (openMark s).pending = s.pending := by
  simp only [openMark] <;> (repeat' split) <;> simp

@[simp] theorem takeMark_keeps (s : State) :
    (takeMark s).mem = s.mem ∧ (takeMark s).port.queue = s.port.queue ∧ (takeMark s).port.held = s.port.held ∧
    (takeMark s).port.lastRefusal = s.port.lastRefusal ∧ (takeMark s).port.refused = s.port.refused ∧
    (takeMark s).arb = s.arb ∧ (takeMark s).regions = s.regions ∧ (takeMark s).counters = s.counters ∧
    (takeMark s).scrub = s.scrub ∧ (takeMark s).spare = s.spare ∧ (takeMark s).sig.committedKeys = s.sig.committedKeys ∧
    (takeMark s).sig.loadedKeys = s.sig.loadedKeys ∧ (takeMark s).sig.keysSet = s.sig.keysSet ∧
    (takeMark s).sig.s = s.sig.s ∧ (takeMark s).mgmt = s.mgmt ∧ (takeMark s).ev.producer = s.ev.producer ∧
    (takeMark s).ev.consumer = s.ev.consumer ∧ (takeMark s).ev.kinds = s.ev.kinds ∧ (takeMark s).ev.intBusy = s.ev.intBusy ∧
    (takeMark s).ev.intLevel = s.ev.intLevel ∧ (takeMark s).out.responses = s.out.responses ∧
    (takeMark s).pending = s.pending := by
  simp only [takeMark] <;> (repeat' split) <;> simp

@[simp] theorem markWord_keeps (s : State) :
    (markWord s).mem = s.mem ∧ (markWord s).port.queue = s.port.queue ∧ (markWord s).port.held = s.port.held ∧
    (markWord s).port.lastRefusal = s.port.lastRefusal ∧ (markWord s).port.refused = s.port.refused ∧
    (markWord s).arb = s.arb ∧ (markWord s).regions = s.regions ∧ (markWord s).counters = s.counters ∧
    (markWord s).scrub = s.scrub ∧ (markWord s).spare = s.spare ∧ (markWord s).sig.committedKeys = s.sig.committedKeys ∧
    (markWord s).sig.loadedKeys = s.sig.loadedKeys ∧ (markWord s).sig.keysSet = s.sig.keysSet ∧
    (markWord s).sig.s = s.sig.s ∧ (markWord s).mgmt = s.mgmt ∧ (markWord s).ev.producer = s.ev.producer ∧
    (markWord s).ev.consumer = s.ev.consumer ∧ (markWord s).ev.kinds = s.ev.kinds ∧ (markWord s).ev.intBusy = s.ev.intBusy ∧
    (markWord s).ev.intLevel = s.ev.intLevel ∧ (markWord s).out.responses = s.out.responses ∧
    (markWord s).pending = s.pending := by
  simp only [markWord] <;> (repeat' split) <;> simp

@[simp] theorem reportSkew_keeps (x : Identity) (m : Cycle) (how : Arrival) (s : State) :
    (reportSkew x m how s).mem = s.mem ∧ (reportSkew x m how s).csr = s.csr ∧ (reportSkew x m how s).port = s.port ∧
    (reportSkew x m how s).arb = s.arb ∧ (reportSkew x m how s).regions = s.regions ∧
    (reportSkew x m how s).counters = s.counters ∧ (reportSkew x m how s).scrub = s.scrub ∧
    (reportSkew x m how s).spare = s.spare ∧ (reportSkew x m how s).sig = s.sig ∧ (reportSkew x m how s).jnl = s.jnl ∧
    (reportSkew x m how s).vote.record = s.vote.record ∧ (reportSkew x m how s).vote.peer0 = s.vote.peer0 ∧
    (reportSkew x m how s).vote.peer1 = s.vote.peer1 ∧ (reportSkew x m how s).link1 = s.link1 ∧
    (reportSkew x m how s).link2 = s.link2 ∧ (reportSkew x m how s).repair = s.repair ∧
    (reportSkew x m how s).mgmt = s.mgmt ∧ (reportSkew x m how s).ev.health = s.ev.health ∧
    (reportSkew x m how s).ev.faultLatch = s.ev.faultLatch ∧ (reportSkew x m how s).ev.producer = s.ev.producer ∧
    (reportSkew x m how s).ev.consumer = s.ev.consumer ∧ (reportSkew x m how s).ev.kinds = s.ev.kinds ∧
    (reportSkew x m how s).ev.intBusy = s.ev.intBusy ∧ (reportSkew x m how s).ev.intLevel = s.ev.intLevel ∧
    (reportSkew x m how s).out = s.out ∧ (reportSkew x m how s).pending = s.pending := by
  simp only [reportSkew] <;> (repeat' split) <;> simp

@[simp] theorem parkSign_keeps (x : Identity) (p : Parked) (s : State) :
    (parkSign x p s).mem = s.mem ∧ (parkSign x p s).csr = s.csr ∧ (parkSign x p s).port = s.port ∧
    (parkSign x p s).arb = s.arb ∧ (parkSign x p s).regions = s.regions ∧ (parkSign x p s).counters = s.counters ∧
    (parkSign x p s).scrub = s.scrub ∧ (parkSign x p s).spare = s.spare ∧ (parkSign x p s).sig = s.sig ∧
    (parkSign x p s).jnl = s.jnl ∧ (parkSign x p s).vote.record = s.vote.record ∧
    (parkSign x p s).vote.skewReported = s.vote.skewReported ∧ (parkSign x p s).link1 = s.link1 ∧
    (parkSign x p s).link2 = s.link2 ∧ (parkSign x p s).repair = s.repair ∧ (parkSign x p s).mgmt = s.mgmt ∧
    (parkSign x p s).ev = s.ev ∧ (parkSign x p s).out = s.out ∧ (parkSign x p s).pending = s.pending := by
  simp only [parkSign] <;> (repeat' split) <;> simp

@[simp] theorem storeArrival_keeps (x : Identity) (sg : Nat) (how : Arrival) (s : State) :
    (storeArrival x sg how s).mem = s.mem ∧ (storeArrival x sg how s).port = s.port ∧
    (storeArrival x sg how s).arb = s.arb ∧ (storeArrival x sg how s).regions = s.regions ∧
    (storeArrival x sg how s).counters = s.counters ∧ (storeArrival x sg how s).scrub = s.scrub ∧
    (storeArrival x sg how s).spare = s.spare ∧ (storeArrival x sg how s).sig.committedKeys = s.sig.committedKeys ∧
    (storeArrival x sg how s).sig.loadedKeys = s.sig.loadedKeys ∧ (storeArrival x sg how s).sig.keysSet = s.sig.keysSet ∧
    (storeArrival x sg how s).sig.s = s.sig.s ∧ (storeArrival x sg how s).mgmt = s.mgmt ∧
    (storeArrival x sg how s).ev.producer = s.ev.producer ∧ (storeArrival x sg how s).ev.consumer = s.ev.consumer ∧
    (storeArrival x sg how s).ev.kinds = s.ev.kinds ∧ (storeArrival x sg how s).ev.intBusy = s.ev.intBusy ∧
    (storeArrival x sg how s).ev.intLevel = s.ev.intLevel ∧ (storeArrival x sg how s).out.responses = s.out.responses ∧
    (storeArrival x sg how s).pending = s.pending := by
  simp only [storeArrival] <;> (repeat' split) <;> simp

@[simp] theorem useSign_keeps (x : Identity) (m : Cycle) (sg : Nat) (how : Arrival) (s : State) :
    (useSign x m sg how s).mem = s.mem ∧ (useSign x m sg how s).port = s.port ∧ (useSign x m sg how s).arb = s.arb ∧
    (useSign x m sg how s).regions = s.regions ∧ (useSign x m sg how s).counters = s.counters ∧
    (useSign x m sg how s).scrub = s.scrub ∧ (useSign x m sg how s).spare = s.spare ∧
    (useSign x m sg how s).sig.committedKeys = s.sig.committedKeys ∧
    (useSign x m sg how s).sig.loadedKeys = s.sig.loadedKeys ∧ (useSign x m sg how s).sig.keysSet = s.sig.keysSet ∧
    (useSign x m sg how s).sig.s = s.sig.s ∧ (useSign x m sg how s).mgmt = s.mgmt ∧
    (useSign x m sg how s).ev.producer = s.ev.producer ∧ (useSign x m sg how s).ev.consumer = s.ev.consumer ∧
    (useSign x m sg how s).ev.kinds = s.ev.kinds ∧ (useSign x m sg how s).ev.intBusy = s.ev.intBusy ∧
    (useSign x m sg how s).ev.intLevel = s.ev.intLevel ∧ (useSign x m sg how s).out.responses = s.out.responses ∧
    (useSign x m sg how s).pending = s.pending := by
  simp only [useSign] <;> (repeat' split) <;> simp

@[simp] theorem updateReport_keeps (x : Identity) (st : Option ChannelState) (counter committed : Cycle) (s : State) :
    (updateReport x st counter committed s).mem = s.mem ∧ (updateReport x st counter committed s).port = s.port ∧
    (updateReport x st counter committed s).arb = s.arb ∧ (updateReport x st counter committed s).regions = s.regions ∧
    (updateReport x st counter committed s).counters = s.counters ∧
    (updateReport x st counter committed s).scrub = s.scrub ∧ (updateReport x st counter committed s).spare = s.spare ∧
    (updateReport x st counter committed s).sig.committedKeys = s.sig.committedKeys ∧
    (updateReport x st counter committed s).sig.loadedKeys = s.sig.loadedKeys ∧
    (updateReport x st counter committed s).sig.keysSet = s.sig.keysSet ∧
    (updateReport x st counter committed s).sig.s = s.sig.s ∧ (updateReport x st counter committed s).mgmt = s.mgmt ∧
    (updateReport x st counter committed s).ev.health = s.ev.health ∧
    (updateReport x st counter committed s).ev.producer = s.ev.producer ∧
    (updateReport x st counter committed s).ev.consumer = s.ev.consumer ∧
    (updateReport x st counter committed s).ev.kinds = s.ev.kinds ∧
    (updateReport x st counter committed s).ev.intBusy = s.ev.intBusy ∧
    (updateReport x st counter committed s).ev.intLevel = s.ev.intLevel ∧
    (updateReport x st counter committed s).out.responses = s.out.responses ∧
    (updateReport x st counter committed s).pending = s.pending := by
  simp only [updateReport] <;> (repeat' split) <;> simp

@[simp] theorem forwardSign_keeps (l : LinkId) (f : Frame) (s : State) :
    (forwardSign l f s).mem = s.mem ∧ (forwardSign l f s).csr = s.csr ∧ (forwardSign l f s).port = s.port ∧
    (forwardSign l f s).arb = s.arb ∧ (forwardSign l f s).regions = s.regions ∧ (forwardSign l f s).counters = s.counters ∧
    (forwardSign l f s).scrub = s.scrub ∧ (forwardSign l f s).spare = s.spare ∧ (forwardSign l f s).sig = s.sig ∧
    (forwardSign l f s).jnl = s.jnl ∧ (forwardSign l f s).vote = s.vote ∧ (forwardSign l f s).repair = s.repair ∧
    (forwardSign l f s).mgmt = s.mgmt ∧ (forwardSign l f s).ev = s.ev ∧
    (forwardSign l f s).out.responses = s.out.responses ∧ (forwardSign l f s).pending = s.pending := by
  simp only [forwardSign] <;> (repeat' split) <;> simp

end Sys2Proof.Machine
end

