-- ==== Sys2Proof/Laws/Links.lean ====
section
/-! SUPPORT. What the link operations leave as it was: for each operation one lemma that names every
part of the state it keeps. -/

namespace Sys2Proof.Machine

set_option linter.unnecessarySeqFocus false
set_option linter.unusedTactic false
set_option linter.unreachableTactic false
set_option linter.unusedSimpArgs false
@[simp] theorem enterHailing_keeps (l : LinkId) (s : State) :
    (enterHailing l s).mem = s.mem ∧ (enterHailing l s).csr = s.csr ∧ (enterHailing l s).port = s.port ∧
    (enterHailing l s).arb = s.arb ∧ (enterHailing l s).regions = s.regions ∧ (enterHailing l s).counters = s.counters ∧
    (enterHailing l s).scrub = s.scrub ∧ (enterHailing l s).spare = s.spare ∧ (enterHailing l s).sig = s.sig ∧
    (enterHailing l s).jnl = s.jnl ∧ (enterHailing l s).vote = s.vote ∧ (enterHailing l s).repair = s.repair ∧
    (enterHailing l s).mgmt = s.mgmt ∧ (enterHailing l s).ev = s.ev ∧ (enterHailing l s).out.responses = s.out.responses ∧
    (enterHailing l s).pending = s.pending := by
  simp only [enterHailing] <;> (repeat' split) <;> simp

@[simp] theorem repairLinkLost_keeps (l : LinkId) (x : Identity) (s : State) :
    (repairLinkLost l x s).mem = s.mem ∧ (repairLinkLost l x s).csr.counter = s.csr.counter ∧
    (repairLinkLost l x s).csr.committed = s.csr.committed ∧ (repairLinkLost l x s).csr.c = s.csr.c ∧
    (repairLinkLost l x s).port = s.port ∧ (repairLinkLost l x s).arb = s.arb ∧ (repairLinkLost l x s).regions = s.regions ∧
    (repairLinkLost l x s).counters = s.counters ∧ (repairLinkLost l x s).scrub = s.scrub ∧
    (repairLinkLost l x s).spare = s.spare ∧ (repairLinkLost l x s).sig.committedKeys = s.sig.committedKeys ∧
    (repairLinkLost l x s).sig.loadedKeys = s.sig.loadedKeys ∧ (repairLinkLost l x s).sig.keysSet = s.sig.keysSet ∧
    (repairLinkLost l x s).sig.s = s.sig.s ∧ (repairLinkLost l x s).sig.valid = s.sig.valid ∧
    (repairLinkLost l x s).jnl = s.jnl ∧ (repairLinkLost l x s).vote.record = s.vote.record ∧
    (repairLinkLost l x s).vote.skewReported = s.vote.skewReported ∧ (repairLinkLost l x s).repair.dc = s.repair.dc ∧
    (repairLinkLost l x s).repair.dv = s.repair.dv ∧ (repairLinkLost l x s).repair.dO = s.repair.dO ∧
    (repairLinkLost l x s).repair.dcValid = s.repair.dcValid ∧ (repairLinkLost l x s).mgmt = s.mgmt ∧
    (repairLinkLost l x s).ev.health = s.ev.health ∧ (repairLinkLost l x s).ev.faultLatch = s.ev.faultLatch ∧
    (repairLinkLost l x s).ev.producer = s.ev.producer ∧ (repairLinkLost l x s).ev.consumer = s.ev.consumer ∧
    (repairLinkLost l x s).ev.kinds = s.ev.kinds ∧ (repairLinkLost l x s).ev.intBusy = s.ev.intBusy ∧
    (repairLinkLost l x s).ev.intLevel = s.ev.intLevel ∧ (repairLinkLost l x s).out.responses = s.out.responses ∧
    (repairLinkLost l x s).pending = s.pending := by
  simp only [repairLinkLost] <;> (repeat' split) <;> simp

@[simp] theorem leaveUp_keeps (l : LinkId) (c : LinkCause) (next : LinkStatus) (s : State) :
    (leaveUp l c next s).mem = s.mem ∧ (leaveUp l c next s).csr.counter = s.csr.counter ∧
    (leaveUp l c next s).csr.committed = s.csr.committed ∧ (leaveUp l c next s).csr.c = s.csr.c ∧
    (leaveUp l c next s).port = s.port ∧ (leaveUp l c next s).arb = s.arb ∧ (leaveUp l c next s).regions = s.regions ∧
    (leaveUp l c next s).counters = s.counters ∧ (leaveUp l c next s).scrub = s.scrub ∧
    (leaveUp l c next s).spare = s.spare ∧ (leaveUp l c next s).sig.committedKeys = s.sig.committedKeys ∧
    (leaveUp l c next s).sig.loadedKeys = s.sig.loadedKeys ∧ (leaveUp l c next s).sig.keysSet = s.sig.keysSet ∧
    (leaveUp l c next s).sig.s = s.sig.s ∧ (leaveUp l c next s).sig.valid = s.sig.valid ∧ (leaveUp l c next s).jnl = s.jnl ∧
    (leaveUp l c next s).vote.record = s.vote.record ∧ (leaveUp l c next s).vote.skewReported = s.vote.skewReported ∧
    (leaveUp l c next s).repair.dc = s.repair.dc ∧ (leaveUp l c next s).repair.dv = s.repair.dv ∧
    (leaveUp l c next s).repair.dO = s.repair.dO ∧ (leaveUp l c next s).repair.dcValid = s.repair.dcValid ∧
    (leaveUp l c next s).mgmt = s.mgmt ∧ (leaveUp l c next s).ev.health = s.ev.health ∧
    (leaveUp l c next s).ev.faultLatch = s.ev.faultLatch ∧ (leaveUp l c next s).ev.producer = s.ev.producer ∧
    (leaveUp l c next s).ev.consumer = s.ev.consumer ∧ (leaveUp l c next s).ev.kinds = s.ev.kinds ∧
    (leaveUp l c next s).ev.intBusy = s.ev.intBusy ∧ (leaveUp l c next s).ev.intLevel = s.ev.intLevel ∧
    (leaveUp l c next s).out.responses = s.out.responses ∧ (leaveUp l c next s).pending = s.pending := by
  simp only [leaveUp] <;> (repeat' split) <;> simp

@[simp] theorem enterUp_keeps (l : LinkId) (x : Identity) (s : State) :
    (enterUp l x s).mem = s.mem ∧ (enterUp l x s).csr = s.csr ∧ (enterUp l x s).port = s.port ∧
    (enterUp l x s).arb = s.arb ∧ (enterUp l x s).regions = s.regions ∧ (enterUp l x s).counters = s.counters ∧
    (enterUp l x s).scrub = s.scrub ∧ (enterUp l x s).spare = s.spare ∧ (enterUp l x s).sig = s.sig ∧
    (enterUp l x s).jnl = s.jnl ∧ (enterUp l x s).vote.record = s.vote.record ∧
    (enterUp l x s).vote.skewReported = s.vote.skewReported ∧ (enterUp l x s).repair = s.repair ∧
    (enterUp l x s).mgmt = s.mgmt ∧ (enterUp l x s).ev.health = s.ev.health ∧
    (enterUp l x s).ev.faultLatch = s.ev.faultLatch ∧ (enterUp l x s).ev.producer = s.ev.producer ∧
    (enterUp l x s).ev.consumer = s.ev.consumer ∧ (enterUp l x s).ev.kinds = s.ev.kinds ∧
    (enterUp l x s).ev.intBusy = s.ev.intBusy ∧ (enterUp l x s).ev.intLevel = s.ev.intLevel ∧ (enterUp l x s).out = s.out ∧
    (enterUp l x s).pending = s.pending := by
  simp only [enterUp] <;> (repeat' split) <;> simp

@[simp] theorem enterMismatch_keeps (l : LinkId) (u : Nat × Word) (s : State) :
    (enterMismatch l u s).mem = s.mem ∧ (enterMismatch l u s).csr = s.csr ∧ (enterMismatch l u s).port = s.port ∧
    (enterMismatch l u s).arb = s.arb ∧ (enterMismatch l u s).regions = s.regions ∧
    (enterMismatch l u s).counters = s.counters ∧ (enterMismatch l u s).scrub = s.scrub ∧
    (enterMismatch l u s).spare = s.spare ∧ (enterMismatch l u s).sig = s.sig ∧ (enterMismatch l u s).jnl = s.jnl ∧
    (enterMismatch l u s).vote = s.vote ∧ (enterMismatch l u s).repair = s.repair ∧ (enterMismatch l u s).mgmt = s.mgmt ∧
    (enterMismatch l u s).ev.health = s.ev.health ∧ (enterMismatch l u s).ev.faultLatch = s.ev.faultLatch ∧
    (enterMismatch l u s).ev.producer = s.ev.producer ∧ (enterMismatch l u s).ev.consumer = s.ev.consumer ∧
    (enterMismatch l u s).ev.kinds = s.ev.kinds ∧ (enterMismatch l u s).ev.intBusy = s.ev.intBusy ∧
    (enterMismatch l u s).ev.intLevel = s.ev.intLevel ∧ (enterMismatch l u s).out.responses = s.out.responses ∧
    (enterMismatch l u s).pending = s.pending := by
  simp only [enterMismatch] <;> (repeat' split) <;> simp

@[simp] theorem hailInHailing_keeps (l : LinkId) (h : Hail) (s : State) :
    (hailInHailing l h s).mem = s.mem ∧ (hailInHailing l h s).port = s.port ∧ (hailInHailing l h s).arb = s.arb ∧
    (hailInHailing l h s).regions = s.regions ∧ (hailInHailing l h s).counters = s.counters ∧
    (hailInHailing l h s).scrub = s.scrub ∧ (hailInHailing l h s).spare = s.spare ∧
    (hailInHailing l h s).sig.committedKeys = s.sig.committedKeys ∧
    (hailInHailing l h s).sig.loadedKeys = s.sig.loadedKeys ∧ (hailInHailing l h s).sig.keysSet = s.sig.keysSet ∧
    (hailInHailing l h s).sig.s = s.sig.s ∧ (hailInHailing l h s).mgmt = s.mgmt ∧
    (hailInHailing l h s).ev.health = s.ev.health ∧ (hailInHailing l h s).ev.producer = s.ev.producer ∧
    (hailInHailing l h s).ev.consumer = s.ev.consumer ∧ (hailInHailing l h s).ev.kinds = s.ev.kinds ∧
    (hailInHailing l h s).ev.intBusy = s.ev.intBusy ∧ (hailInHailing l h s).ev.intLevel = s.ev.intLevel ∧
    (hailInHailing l h s).out.responses = s.out.responses ∧ (hailInHailing l h s).pending = s.pending := by
  simp only [hailInHailing] <;> (repeat' split) <;> simp

@[simp] theorem hailInMismatch_keeps (l : LinkId) (h : Hail) (s : State) :
    (hailInMismatch l h s).mem = s.mem ∧ (hailInMismatch l h s).port = s.port ∧ (hailInMismatch l h s).arb = s.arb ∧
    (hailInMismatch l h s).regions = s.regions ∧ (hailInMismatch l h s).counters = s.counters ∧
    (hailInMismatch l h s).scrub = s.scrub ∧ (hailInMismatch l h s).spare = s.spare ∧
    (hailInMismatch l h s).sig.committedKeys = s.sig.committedKeys ∧
    (hailInMismatch l h s).sig.loadedKeys = s.sig.loadedKeys ∧ (hailInMismatch l h s).sig.keysSet = s.sig.keysSet ∧
    (hailInMismatch l h s).sig.s = s.sig.s ∧ (hailInMismatch l h s).mgmt = s.mgmt ∧
    (hailInMismatch l h s).ev.health = s.ev.health ∧ (hailInMismatch l h s).ev.producer = s.ev.producer ∧
    (hailInMismatch l h s).ev.consumer = s.ev.consumer ∧ (hailInMismatch l h s).ev.kinds = s.ev.kinds ∧
    (hailInMismatch l h s).ev.intBusy = s.ev.intBusy ∧ (hailInMismatch l h s).ev.intLevel = s.ev.intLevel ∧
    (hailInMismatch l h s).out.responses = s.out.responses ∧ (hailInMismatch l h s).pending = s.pending := by
  simp only [hailInMismatch] <;> (repeat' split) <;> simp

@[simp] theorem restartSilence_keeps (l : LinkId) (s : State) :
    (restartSilence l s).mem = s.mem ∧ (restartSilence l s).csr = s.csr ∧ (restartSilence l s).port = s.port ∧
    (restartSilence l s).arb = s.arb ∧ (restartSilence l s).regions = s.regions ∧
    (restartSilence l s).counters = s.counters ∧ (restartSilence l s).scrub = s.scrub ∧
    (restartSilence l s).spare = s.spare ∧ (restartSilence l s).sig = s.sig ∧ (restartSilence l s).jnl = s.jnl ∧
    (restartSilence l s).vote = s.vote ∧ (restartSilence l s).repair = s.repair ∧ (restartSilence l s).mgmt = s.mgmt ∧
    (restartSilence l s).ev = s.ev ∧ (restartSilence l s).out = s.out ∧ (restartSilence l s).pending = s.pending := by
  simp only [restartSilence] <;> (repeat' split) <;> simp

@[simp] theorem hailInUp_keeps (l : LinkId) (h : Hail) (s : State) :
    (hailInUp l h s).mem = s.mem ∧ (hailInUp l h s).port = s.port ∧ (hailInUp l h s).arb = s.arb ∧
    (hailInUp l h s).regions = s.regions ∧ (hailInUp l h s).counters = s.counters ∧ (hailInUp l h s).scrub = s.scrub ∧
    (hailInUp l h s).spare = s.spare ∧ (hailInUp l h s).sig.committedKeys = s.sig.committedKeys ∧
    (hailInUp l h s).sig.loadedKeys = s.sig.loadedKeys ∧ (hailInUp l h s).sig.keysSet = s.sig.keysSet ∧
    (hailInUp l h s).sig.s = s.sig.s ∧ (hailInUp l h s).mgmt = s.mgmt ∧ (hailInUp l h s).ev.health = s.ev.health ∧
    (hailInUp l h s).ev.producer = s.ev.producer ∧ (hailInUp l h s).ev.consumer = s.ev.consumer ∧
    (hailInUp l h s).ev.kinds = s.ev.kinds ∧ (hailInUp l h s).ev.intBusy = s.ev.intBusy ∧
    (hailInUp l h s).ev.intLevel = s.ev.intLevel ∧ (hailInUp l h s).out.responses = s.out.responses ∧
    (hailInUp l h s).pending = s.pending := by
  simp only [hailInUp] <;> (repeat' split) <;> simp

@[simp] theorem takeHail_keeps (l : LinkId) (h : Hail) (s : State) :
    (takeHail l h s).mem = s.mem ∧ (takeHail l h s).port = s.port ∧ (takeHail l h s).arb = s.arb ∧
    (takeHail l h s).regions = s.regions ∧ (takeHail l h s).counters = s.counters ∧ (takeHail l h s).scrub = s.scrub ∧
    (takeHail l h s).spare = s.spare ∧ (takeHail l h s).sig.committedKeys = s.sig.committedKeys ∧
    (takeHail l h s).sig.loadedKeys = s.sig.loadedKeys ∧ (takeHail l h s).sig.keysSet = s.sig.keysSet ∧
    (takeHail l h s).sig.s = s.sig.s ∧ (takeHail l h s).mgmt = s.mgmt ∧ (takeHail l h s).ev.health = s.ev.health ∧
    (takeHail l h s).ev.producer = s.ev.producer ∧ (takeHail l h s).ev.consumer = s.ev.consumer ∧
    (takeHail l h s).ev.kinds = s.ev.kinds ∧ (takeHail l h s).ev.intBusy = s.ev.intBusy ∧
    (takeHail l h s).ev.intLevel = s.ev.intLevel ∧ (takeHail l h s).out.responses = s.out.responses ∧
    (takeHail l h s).pending = s.pending := by
  simp only [takeHail] <;> (repeat' split) <;> simp

@[simp] theorem countBad_keeps (l : LinkId) (s : State) :
    (countBad l s).mem = s.mem ∧ (countBad l s).csr = s.csr ∧ (countBad l s).port = s.port ∧ (countBad l s).arb = s.arb ∧
    (countBad l s).regions = s.regions ∧ (countBad l s).counters = s.counters ∧ (countBad l s).scrub = s.scrub ∧
    (countBad l s).spare = s.spare ∧ (countBad l s).sig = s.sig ∧ (countBad l s).jnl = s.jnl ∧
    (countBad l s).vote = s.vote ∧ (countBad l s).repair = s.repair ∧ (countBad l s).mgmt = s.mgmt ∧
    (countBad l s).ev = s.ev ∧ (countBad l s).out = s.out ∧ (countBad l s).pending = s.pending := by
  simp only [countBad] <;> (repeat' split) <;> simp

@[simp] theorem enterDown_keeps (l : LinkId) (s : State) :
    (enterDown l s).mem = s.mem ∧ (enterDown l s).csr.counter = s.csr.counter ∧
    (enterDown l s).csr.committed = s.csr.committed ∧ (enterDown l s).csr.c = s.csr.c ∧ (enterDown l s).port = s.port ∧
    (enterDown l s).arb = s.arb ∧ (enterDown l s).regions = s.regions ∧ (enterDown l s).counters = s.counters ∧
    (enterDown l s).scrub = s.scrub ∧ (enterDown l s).spare = s.spare ∧
    (enterDown l s).sig.committedKeys = s.sig.committedKeys ∧ (enterDown l s).sig.loadedKeys = s.sig.loadedKeys ∧
    (enterDown l s).sig.keysSet = s.sig.keysSet ∧ (enterDown l s).sig.s = s.sig.s ∧
    (enterDown l s).sig.valid = s.sig.valid ∧ (enterDown l s).jnl = s.jnl ∧ (enterDown l s).vote.record = s.vote.record ∧
    (enterDown l s).vote.skewReported = s.vote.skewReported ∧ (enterDown l s).repair.dc = s.repair.dc ∧
    (enterDown l s).repair.dv = s.repair.dv ∧ (enterDown l s).repair.dO = s.repair.dO ∧
    (enterDown l s).repair.dcValid = s.repair.dcValid ∧ (enterDown l s).mgmt = s.mgmt ∧
    (enterDown l s).ev.health = s.ev.health ∧ (enterDown l s).ev.faultLatch = s.ev.faultLatch ∧
    (enterDown l s).ev.producer = s.ev.producer ∧ (enterDown l s).ev.consumer = s.ev.consumer ∧
    (enterDown l s).ev.kinds = s.ev.kinds ∧ (enterDown l s).ev.intBusy = s.ev.intBusy ∧
    (enterDown l s).ev.intLevel = s.ev.intLevel ∧ (enterDown l s).out.responses = s.out.responses ∧
    (enterDown l s).pending = s.pending := by
  simp only [enterDown] <;> (repeat' split) <;> simp

@[simp] theorem changeHailing_keeps (l : LinkId) (m : LinkMode) (s : State) :
    (changeHailing l m s).mem = s.mem ∧ (changeHailing l m s).csr = s.csr ∧ (changeHailing l m s).port = s.port ∧
    (changeHailing l m s).arb = s.arb ∧ (changeHailing l m s).regions = s.regions ∧
    (changeHailing l m s).counters = s.counters ∧ (changeHailing l m s).scrub = s.scrub ∧
    (changeHailing l m s).spare = s.spare ∧ (changeHailing l m s).sig = s.sig ∧ (changeHailing l m s).jnl = s.jnl ∧
    (changeHailing l m s).vote = s.vote ∧ (changeHailing l m s).repair = s.repair ∧ (changeHailing l m s).mgmt = s.mgmt ∧
    (changeHailing l m s).ev = s.ev ∧ (changeHailing l m s).out.responses = s.out.responses ∧
    (changeHailing l m s).pending = s.pending := by
  simp only [changeHailing] <;> (repeat' split) <;> simp

@[simp] theorem setMode_keeps (l : LinkId) (m : LinkMode) (s : State) :
    (setMode l m s).mem = s.mem ∧ (setMode l m s).csr.counter = s.csr.counter ∧
    (setMode l m s).csr.committed = s.csr.committed ∧ (setMode l m s).csr.c = s.csr.c ∧ (setMode l m s).port = s.port ∧
    (setMode l m s).arb = s.arb ∧ (setMode l m s).regions = s.regions ∧ (setMode l m s).counters = s.counters ∧
    (setMode l m s).scrub = s.scrub ∧ (setMode l m s).spare = s.spare ∧
    (setMode l m s).sig.committedKeys = s.sig.committedKeys ∧ (setMode l m s).sig.loadedKeys = s.sig.loadedKeys ∧
    (setMode l m s).sig.keysSet = s.sig.keysSet ∧ (setMode l m s).sig.s = s.sig.s ∧
    (setMode l m s).sig.valid = s.sig.valid ∧ (setMode l m s).jnl = s.jnl ∧ (setMode l m s).vote.record = s.vote.record ∧
    (setMode l m s).vote.skewReported = s.vote.skewReported ∧ (setMode l m s).repair.dc = s.repair.dc ∧
    (setMode l m s).repair.dv = s.repair.dv ∧ (setMode l m s).repair.dO = s.repair.dO ∧
    (setMode l m s).repair.dcValid = s.repair.dcValid ∧ (setMode l m s).mgmt = s.mgmt ∧
    (setMode l m s).ev.health = s.ev.health ∧ (setMode l m s).ev.faultLatch = s.ev.faultLatch ∧
    (setMode l m s).ev.producer = s.ev.producer ∧ (setMode l m s).ev.consumer = s.ev.consumer ∧
    (setMode l m s).ev.kinds = s.ev.kinds ∧ (setMode l m s).ev.intBusy = s.ev.intBusy ∧
    (setMode l m s).ev.intLevel = s.ev.intLevel ∧ (setMode l m s).out.responses = s.out.responses ∧
    (setMode l m s).pending = s.pending := by
  simp only [setMode] <;> (repeat' split) <;> simp

@[simp] theorem commitLink_keeps (l : LinkId) (s : State) :
    (commitLink l s).mem = s.mem ∧ (commitLink l s).csr.counter = s.csr.counter ∧
    (commitLink l s).csr.committed = s.csr.committed ∧ (commitLink l s).csr.c = s.csr.c ∧ (commitLink l s).port = s.port ∧
    (commitLink l s).arb = s.arb ∧ (commitLink l s).regions = s.regions ∧ (commitLink l s).counters = s.counters ∧
    (commitLink l s).scrub = s.scrub ∧ (commitLink l s).spare = s.spare ∧
    (commitLink l s).sig.committedKeys = s.sig.committedKeys ∧ (commitLink l s).sig.loadedKeys = s.sig.loadedKeys ∧
    (commitLink l s).sig.keysSet = s.sig.keysSet ∧ (commitLink l s).sig.s = s.sig.s ∧
    (commitLink l s).sig.valid = s.sig.valid ∧ (commitLink l s).jnl = s.jnl ∧ (commitLink l s).vote.record = s.vote.record ∧
    (commitLink l s).vote.skewReported = s.vote.skewReported ∧ (commitLink l s).repair.dc = s.repair.dc ∧
    (commitLink l s).repair.dv = s.repair.dv ∧ (commitLink l s).repair.dO = s.repair.dO ∧
    (commitLink l s).repair.dcValid = s.repair.dcValid ∧ (commitLink l s).mgmt = s.mgmt ∧
    (commitLink l s).ev.health = s.ev.health ∧ (commitLink l s).ev.faultLatch = s.ev.faultLatch ∧
    (commitLink l s).ev.producer = s.ev.producer ∧ (commitLink l s).ev.consumer = s.ev.consumer ∧
    (commitLink l s).ev.kinds = s.ev.kinds ∧ (commitLink l s).ev.intBusy = s.ev.intBusy ∧
    (commitLink l s).ev.intLevel = s.ev.intLevel ∧ (commitLink l s).out.responses = s.out.responses ∧
    (commitLink l s).pending = s.pending := by
  simp only [commitLink] <;> (repeat' split) <;> simp

@[simp] theorem hailExpiry_keeps (l : LinkId) (s : State) :
    (hailExpiry l s).mem = s.mem ∧ (hailExpiry l s).csr = s.csr ∧ (hailExpiry l s).port = s.port ∧
    (hailExpiry l s).arb = s.arb ∧ (hailExpiry l s).regions = s.regions ∧ (hailExpiry l s).counters = s.counters ∧
    (hailExpiry l s).scrub = s.scrub ∧ (hailExpiry l s).spare = s.spare ∧ (hailExpiry l s).sig = s.sig ∧
    (hailExpiry l s).jnl = s.jnl ∧ (hailExpiry l s).vote = s.vote ∧ (hailExpiry l s).repair = s.repair ∧
    (hailExpiry l s).mgmt = s.mgmt ∧ (hailExpiry l s).ev = s.ev ∧ (hailExpiry l s).out.responses = s.out.responses ∧
    (hailExpiry l s).pending = s.pending := by
  simp only [hailExpiry] <;> (repeat' split) <;> simp

@[simp] theorem quietExpiry_keeps (l : LinkId) (s : State) :
    (quietExpiry l s).mem = s.mem ∧ (quietExpiry l s).csr = s.csr ∧ (quietExpiry l s).port = s.port ∧
    (quietExpiry l s).arb = s.arb ∧ (quietExpiry l s).regions = s.regions ∧ (quietExpiry l s).counters = s.counters ∧
    (quietExpiry l s).scrub = s.scrub ∧ (quietExpiry l s).spare = s.spare ∧ (quietExpiry l s).sig = s.sig ∧
    (quietExpiry l s).jnl = s.jnl ∧ (quietExpiry l s).vote = s.vote ∧ (quietExpiry l s).repair = s.repair ∧
    (quietExpiry l s).mgmt = s.mgmt ∧ (quietExpiry l s).ev = s.ev ∧ (quietExpiry l s).out.responses = s.out.responses ∧
    (quietExpiry l s).pending = s.pending := by
  simp only [quietExpiry] <;> (repeat' split) <;> simp

@[simp] theorem silenceExpiry_keeps (l : LinkId) (s : State) :
    (silenceExpiry l s).mem = s.mem ∧ (silenceExpiry l s).csr.counter = s.csr.counter ∧
    (silenceExpiry l s).csr.committed = s.csr.committed ∧ (silenceExpiry l s).csr.c = s.csr.c ∧
    (silenceExpiry l s).port = s.port ∧ (silenceExpiry l s).arb = s.arb ∧ (silenceExpiry l s).regions = s.regions ∧
    (silenceExpiry l s).counters = s.counters ∧ (silenceExpiry l s).scrub = s.scrub ∧ (silenceExpiry l s).spare = s.spare ∧
    (silenceExpiry l s).sig.committedKeys = s.sig.committedKeys ∧ (silenceExpiry l s).sig.loadedKeys = s.sig.loadedKeys ∧
    (silenceExpiry l s).sig.keysSet = s.sig.keysSet ∧ (silenceExpiry l s).sig.s = s.sig.s ∧
    (silenceExpiry l s).sig.valid = s.sig.valid ∧ (silenceExpiry l s).jnl = s.jnl ∧
    (silenceExpiry l s).vote.record = s.vote.record ∧ (silenceExpiry l s).vote.skewReported = s.vote.skewReported ∧
    (silenceExpiry l s).repair.dc = s.repair.dc ∧ (silenceExpiry l s).repair.dv = s.repair.dv ∧
    (silenceExpiry l s).repair.dO = s.repair.dO ∧ (silenceExpiry l s).repair.dcValid = s.repair.dcValid ∧
    (silenceExpiry l s).mgmt = s.mgmt ∧ (silenceExpiry l s).ev.health = s.ev.health ∧
    (silenceExpiry l s).ev.faultLatch = s.ev.faultLatch ∧ (silenceExpiry l s).ev.producer = s.ev.producer ∧
    (silenceExpiry l s).ev.consumer = s.ev.consumer ∧ (silenceExpiry l s).ev.kinds = s.ev.kinds ∧
    (silenceExpiry l s).ev.intBusy = s.ev.intBusy ∧ (silenceExpiry l s).ev.intLevel = s.ev.intLevel ∧
    (silenceExpiry l s).out.responses = s.out.responses ∧ (silenceExpiry l s).pending = s.pending := by
  simp only [silenceExpiry] <;> (repeat' split) <;> simp

@[simp] theorem beatExpiry_keeps (l : LinkId) (s : State) :
    (beatExpiry l s).mem = s.mem ∧ (beatExpiry l s).csr = s.csr ∧ (beatExpiry l s).port = s.port ∧
    (beatExpiry l s).arb = s.arb ∧ (beatExpiry l s).regions = s.regions ∧ (beatExpiry l s).counters = s.counters ∧
    (beatExpiry l s).scrub = s.scrub ∧ (beatExpiry l s).spare = s.spare ∧ (beatExpiry l s).sig = s.sig ∧
    (beatExpiry l s).jnl = s.jnl ∧ (beatExpiry l s).vote = s.vote ∧ (beatExpiry l s).repair = s.repair ∧
    (beatExpiry l s).mgmt = s.mgmt ∧ (beatExpiry l s).ev = s.ev ∧ (beatExpiry l s).out.responses = s.out.responses ∧
    (beatExpiry l s).pending = s.pending := by
  simp only [beatExpiry] <;> (repeat' split) <;> simp

end Sys2Proof.Machine
end

