-- ==== Sys2Proof/Laws/Exchange.lean ====
section
/-! SUPPORT. What the exchange of repair frames and the repair timers leave as it was: for each operation one lemma that names every
part of the state it keeps. -/

namespace Sys2Proof.Machine

set_option linter.unnecessarySeqFocus false
set_option linter.unusedTactic false
set_option linter.unreachableTactic false
set_option linter.unusedSimpArgs false
@[simp] theorem enterReceiving_keeps (l : LinkId) (x : Identity) (j : JoinerRole) (s : State) :
    (enterReceiving l x j s).mem = s.mem ∧ (enterReceiving l x j s).csr.counter = s.csr.counter ∧
    (enterReceiving l x j s).csr.committed = s.csr.committed ∧ (enterReceiving l x j s).csr.c = s.csr.c ∧
    (enterReceiving l x j s).port = s.port ∧ (enterReceiving l x j s).arb = s.arb ∧
    (enterReceiving l x j s).regions = s.regions ∧ (enterReceiving l x j s).counters = s.counters ∧
    (enterReceiving l x j s).scrub = s.scrub ∧ (enterReceiving l x j s).spare = s.spare ∧
    (enterReceiving l x j s).sig = s.sig ∧ (enterReceiving l x j s).jnl = s.jnl ∧ (enterReceiving l x j s).vote = s.vote ∧
    (enterReceiving l x j s).link1 = s.link1 ∧ (enterReceiving l x j s).link2 = s.link2 ∧
    (enterReceiving l x j s).repair.dc = s.repair.dc ∧ (enterReceiving l x j s).repair.dv = s.repair.dv ∧
    (enterReceiving l x j s).repair.dO = s.repair.dO ∧ (enterReceiving l x j s).repair.r = s.repair.r ∧
    (enterReceiving l x j s).repair.dcValid = s.repair.dcValid ∧ (enterReceiving l x j s).mgmt = s.mgmt ∧
    (enterReceiving l x j s).ev.health = s.ev.health ∧ (enterReceiving l x j s).ev.faultLatch = s.ev.faultLatch ∧
    (enterReceiving l x j s).ev.producer = s.ev.producer ∧ (enterReceiving l x j s).ev.consumer = s.ev.consumer ∧
    (enterReceiving l x j s).ev.kinds = s.ev.kinds ∧ (enterReceiving l x j s).ev.intBusy = s.ev.intBusy ∧
    (enterReceiving l x j s).ev.intLevel = s.ev.intLevel ∧ (enterReceiving l x j s).out = s.out ∧
    (enterReceiving l x j s).pending = s.pending := by
  simp only [enterReceiving] <;> (repeat' split) <;> simp

@[simp] theorem takeAccept_keeps (l : LinkId) (x : Identity) (s : State) :
    (takeAccept l x s).mem = s.mem ∧ (takeAccept l x s).csr.counter = s.csr.counter ∧
    (takeAccept l x s).csr.committed = s.csr.committed ∧ (takeAccept l x s).csr.c = s.csr.c ∧
    (takeAccept l x s).port = s.port ∧ (takeAccept l x s).arb = s.arb ∧ (takeAccept l x s).regions = s.regions ∧
    (takeAccept l x s).counters = s.counters ∧ (takeAccept l x s).scrub = s.scrub ∧ (takeAccept l x s).spare = s.spare ∧
    (takeAccept l x s).sig = s.sig ∧ (takeAccept l x s).jnl = s.jnl ∧ (takeAccept l x s).vote = s.vote ∧
    (takeAccept l x s).repair.dc = s.repair.dc ∧ (takeAccept l x s).repair.dv = s.repair.dv ∧
    (takeAccept l x s).repair.dO = s.repair.dO ∧ (takeAccept l x s).repair.r = s.repair.r ∧
    (takeAccept l x s).repair.dcValid = s.repair.dcValid ∧ (takeAccept l x s).mgmt = s.mgmt ∧
    (takeAccept l x s).ev.health = s.ev.health ∧ (takeAccept l x s).ev.faultLatch = s.ev.faultLatch ∧
    (takeAccept l x s).ev.producer = s.ev.producer ∧ (takeAccept l x s).ev.consumer = s.ev.consumer ∧
    (takeAccept l x s).ev.kinds = s.ev.kinds ∧ (takeAccept l x s).ev.intBusy = s.ev.intBusy ∧
    (takeAccept l x s).ev.intLevel = s.ev.intLevel ∧ (takeAccept l x s).out.responses = s.out.responses ∧
    (takeAccept l x s).pending = s.pending := by
  simp only [takeAccept] <;> (repeat' split) <;> simp

@[simp] theorem takeRefuse_keeps (x : Identity) (why : RefuseReason) (s : State) :
    (takeRefuse x why s).mem = s.mem ∧ (takeRefuse x why s).csr = s.csr ∧ (takeRefuse x why s).port = s.port ∧
    (takeRefuse x why s).arb = s.arb ∧ (takeRefuse x why s).regions = s.regions ∧
    (takeRefuse x why s).counters = s.counters ∧ (takeRefuse x why s).scrub = s.scrub ∧
    (takeRefuse x why s).spare = s.spare ∧ (takeRefuse x why s).sig = s.sig ∧ (takeRefuse x why s).jnl = s.jnl ∧
    (takeRefuse x why s).vote.record = s.vote.record ∧ (takeRefuse x why s).vote.skewReported = s.vote.skewReported ∧
    (takeRefuse x why s).repair.dc = s.repair.dc ∧ (takeRefuse x why s).repair.dv = s.repair.dv ∧
    (takeRefuse x why s).repair.dO = s.repair.dO ∧ (takeRefuse x why s).repair.r = s.repair.r ∧
    (takeRefuse x why s).repair.dcValid = s.repair.dcValid ∧ (takeRefuse x why s).mgmt = s.mgmt ∧
    (takeRefuse x why s).ev.health = s.ev.health ∧ (takeRefuse x why s).ev.faultLatch = s.ev.faultLatch ∧
    (takeRefuse x why s).ev.producer = s.ev.producer ∧ (takeRefuse x why s).ev.consumer = s.ev.consumer ∧
    (takeRefuse x why s).ev.kinds = s.ev.kinds ∧ (takeRefuse x why s).ev.intBusy = s.ev.intBusy ∧
    (takeRefuse x why s).ev.intLevel = s.ev.intLevel ∧ (takeRefuse x why s).out.responses = s.out.responses ∧
    (takeRefuse x why s).pending = s.pending := by
  simp only [takeRefuse] <;> (repeat' split) <;> simp

@[simp] theorem restartReceiveTimer_keeps (l : LinkId) (s : State) :
    (restartReceiveTimer l s).mem = s.mem ∧ (restartReceiveTimer l s).csr = s.csr ∧
    (restartReceiveTimer l s).port = s.port ∧ (restartReceiveTimer l s).arb = s.arb ∧
    (restartReceiveTimer l s).regions = s.regions ∧ (restartReceiveTimer l s).counters = s.counters ∧
    (restartReceiveTimer l s).scrub = s.scrub ∧ (restartReceiveTimer l s).spare = s.spare ∧
    (restartReceiveTimer l s).sig = s.sig ∧ (restartReceiveTimer l s).jnl = s.jnl ∧
    (restartReceiveTimer l s).vote = s.vote ∧ (restartReceiveTimer l s).link1 = s.link1 ∧
    (restartReceiveTimer l s).link2 = s.link2 ∧ (restartReceiveTimer l s).repair.dc = s.repair.dc ∧
    (restartReceiveTimer l s).repair.dv = s.repair.dv ∧ (restartReceiveTimer l s).repair.dO = s.repair.dO ∧
    (restartReceiveTimer l s).repair.r = s.repair.r ∧ (restartReceiveTimer l s).repair.dcValid = s.repair.dcValid ∧
    (restartReceiveTimer l s).mgmt = s.mgmt ∧ (restartReceiveTimer l s).ev = s.ev ∧ (restartReceiveTimer l s).out = s.out ∧
    (restartReceiveTimer l s).pending = s.pending := by
  simp only [restartReceiveTimer] <;> (repeat' split) <;> simp

@[simp] theorem holdIfFull_keeps (l : LinkId) (s : State) :
    (holdIfFull l s).mem = s.mem ∧ (holdIfFull l s).csr = s.csr ∧ (holdIfFull l s).port = s.port ∧
    (holdIfFull l s).arb = s.arb ∧ (holdIfFull l s).regions = s.regions ∧ (holdIfFull l s).counters = s.counters ∧
    (holdIfFull l s).scrub = s.scrub ∧ (holdIfFull l s).spare = s.spare ∧ (holdIfFull l s).sig = s.sig ∧
    (holdIfFull l s).jnl = s.jnl ∧ (holdIfFull l s).vote = s.vote ∧ (holdIfFull l s).repair = s.repair ∧
    (holdIfFull l s).mgmt = s.mgmt ∧ (holdIfFull l s).ev = s.ev ∧ (holdIfFull l s).out.responses = s.out.responses ∧
    (holdIfFull l s).pending = s.pending := by
  simp only [holdIfFull] <;> (repeat' split) <;> simp

@[simp] theorem takeLine_keeps (l : LinkId) (f : LineFrame) (s : State) :
    (takeLine l f s).mem = s.mem ∧ (takeLine l f s).csr = s.csr ∧ (takeLine l f s).port = s.port ∧
    (takeLine l f s).arb = s.arb ∧ (takeLine l f s).regions = s.regions ∧ (takeLine l f s).counters = s.counters ∧
    (takeLine l f s).scrub = s.scrub ∧ (takeLine l f s).spare = s.spare ∧ (takeLine l f s).sig = s.sig ∧
    (takeLine l f s).jnl = s.jnl ∧ (takeLine l f s).vote = s.vote ∧ (takeLine l f s).repair.dc = s.repair.dc ∧
    (takeLine l f s).repair.dv = s.repair.dv ∧ (takeLine l f s).repair.dO = s.repair.dO ∧
    (takeLine l f s).repair.r = s.repair.r ∧ (takeLine l f s).repair.dcValid = s.repair.dcValid ∧
    (takeLine l f s).mgmt = s.mgmt ∧ (takeLine l f s).ev = s.ev ∧ (takeLine l f s).out.responses = s.out.responses ∧
    (takeLine l f s).pending = s.pending := by
  simp only [takeLine] <;> (repeat' split) <;> simp

@[simp] theorem takeClose_keeps (x : Identity) (cyc : Cycle) (lines : BitVec 32) (target : Word) (s : State) :
    (takeClose x cyc lines target s).mem = s.mem ∧ (takeClose x cyc lines target s).csr = s.csr ∧
    (takeClose x cyc lines target s).port = s.port ∧ (takeClose x cyc lines target s).arb = s.arb ∧
    (takeClose x cyc lines target s).regions = s.regions ∧ (takeClose x cyc lines target s).counters = s.counters ∧
    (takeClose x cyc lines target s).scrub = s.scrub ∧ (takeClose x cyc lines target s).spare = s.spare ∧
    (takeClose x cyc lines target s).sig = s.sig ∧ (takeClose x cyc lines target s).jnl = s.jnl ∧
    (takeClose x cyc lines target s).vote = s.vote ∧ (takeClose x cyc lines target s).link1 = s.link1 ∧
    (takeClose x cyc lines target s).link2 = s.link2 ∧ (takeClose x cyc lines target s).repair.dc = s.repair.dc ∧
    (takeClose x cyc lines target s).repair.dv = s.repair.dv ∧ (takeClose x cyc lines target s).repair.dO = s.repair.dO ∧
    (takeClose x cyc lines target s).repair.r = s.repair.r ∧
    (takeClose x cyc lines target s).repair.dcValid = s.repair.dcValid ∧ (takeClose x cyc lines target s).mgmt = s.mgmt ∧
    (takeClose x cyc lines target s).ev = s.ev ∧ (takeClose x cyc lines target s).out = s.out ∧
    (takeClose x cyc lines target s).pending = s.pending := by
  simp only [takeClose] <;> (repeat' split) <;> simp

@[simp] theorem acceptRequest_keeps (l : LinkId) (x : Identity) (base : Option Cycle) (r : List Nat) (s : State) :
    (acceptRequest l x base r s).mem = s.mem ∧ (acceptRequest l x base r s).csr = s.csr ∧
    (acceptRequest l x base r s).port = s.port ∧ (acceptRequest l x base r s).arb = s.arb ∧
    (acceptRequest l x base r s).regions = s.regions ∧ (acceptRequest l x base r s).counters = s.counters ∧
    (acceptRequest l x base r s).scrub = s.scrub ∧ (acceptRequest l x base r s).spare = s.spare ∧
    (acceptRequest l x base r s).sig = s.sig ∧ (acceptRequest l x base r s).jnl = s.jnl ∧
    (acceptRequest l x base r s).vote.record = s.vote.record ∧
    (acceptRequest l x base r s).vote.skewReported = s.vote.skewReported ∧
    (acceptRequest l x base r s).repair.dc = s.repair.dc ∧ (acceptRequest l x base r s).repair.dv = s.repair.dv ∧
    (acceptRequest l x base r s).repair.dO = s.repair.dO ∧ (acceptRequest l x base r s).repair.dcValid = s.repair.dcValid ∧
    (acceptRequest l x base r s).mgmt = s.mgmt ∧ (acceptRequest l x base r s).ev.health = s.ev.health ∧
    (acceptRequest l x base r s).ev.faultLatch = s.ev.faultLatch ∧
    (acceptRequest l x base r s).ev.producer = s.ev.producer ∧ (acceptRequest l x base r s).ev.consumer = s.ev.consumer ∧
    (acceptRequest l x base r s).ev.kinds = s.ev.kinds ∧ (acceptRequest l x base r s).ev.intBusy = s.ev.intBusy ∧
    (acceptRequest l x base r s).ev.intLevel = s.ev.intLevel ∧
    (acceptRequest l x base r s).out.responses = s.out.responses ∧ (acceptRequest l x base r s).pending = s.pending := by
  simp only [acceptRequest] <;> (repeat' split) <;> simp

@[simp] theorem takeRequest_keeps (l : LinkId) (x : Identity) (base : Option Cycle) (need : List (BitVec 32)) (s : State) :
    (takeRequest l x base need s).mem = s.mem ∧ (takeRequest l x base need s).csr = s.csr ∧
    (takeRequest l x base need s).port = s.port ∧ (takeRequest l x base need s).arb = s.arb ∧
    (takeRequest l x base need s).regions = s.regions ∧ (takeRequest l x base need s).counters = s.counters ∧
    (takeRequest l x base need s).scrub = s.scrub ∧ (takeRequest l x base need s).spare = s.spare ∧
    (takeRequest l x base need s).sig = s.sig ∧ (takeRequest l x base need s).jnl = s.jnl ∧
    (takeRequest l x base need s).vote.record = s.vote.record ∧
    (takeRequest l x base need s).vote.skewReported = s.vote.skewReported ∧
    (takeRequest l x base need s).repair.dc = s.repair.dc ∧ (takeRequest l x base need s).repair.dv = s.repair.dv ∧
    (takeRequest l x base need s).repair.dO = s.repair.dO ∧
    (takeRequest l x base need s).repair.dcValid = s.repair.dcValid ∧ (takeRequest l x base need s).mgmt = s.mgmt ∧
    (takeRequest l x base need s).ev.health = s.ev.health ∧ (takeRequest l x base need s).ev.faultLatch = s.ev.faultLatch ∧
    (takeRequest l x base need s).ev.producer = s.ev.producer ∧ (takeRequest l x base need s).ev.consumer = s.ev.consumer ∧
    (takeRequest l x base need s).ev.kinds = s.ev.kinds ∧ (takeRequest l x base need s).ev.intBusy = s.ev.intBusy ∧
    (takeRequest l x base need s).ev.intLevel = s.ev.intLevel ∧
    (takeRequest l x base need s).out.responses = s.out.responses ∧ (takeRequest l x base need s).pending = s.pending := by
  simp only [takeRequest] <;> (repeat' split) <;> simp

@[simp] theorem takeHold_keeps (l : LinkId) (s : State) :
    (takeHold l s).mem = s.mem ∧ (takeHold l s).csr = s.csr ∧ (takeHold l s).port = s.port ∧ (takeHold l s).arb = s.arb ∧
    (takeHold l s).regions = s.regions ∧ (takeHold l s).counters = s.counters ∧ (takeHold l s).scrub = s.scrub ∧
    (takeHold l s).spare = s.spare ∧ (takeHold l s).sig = s.sig ∧ (takeHold l s).jnl = s.jnl ∧
    (takeHold l s).vote = s.vote ∧ (takeHold l s).repair.dc = s.repair.dc ∧ (takeHold l s).repair.dv = s.repair.dv ∧
    (takeHold l s).repair.dO = s.repair.dO ∧ (takeHold l s).repair.r = s.repair.r ∧
    (takeHold l s).repair.dcValid = s.repair.dcValid ∧ (takeHold l s).mgmt = s.mgmt ∧ (takeHold l s).ev = s.ev ∧
    (takeHold l s).out = s.out ∧ (takeHold l s).pending = s.pending := by
  simp only [takeHold] <;> (repeat' split) <;> simp

@[simp] theorem takeGo_keeps (l : LinkId) (s : State) :
    (takeGo l s).mem = s.mem ∧ (takeGo l s).csr = s.csr ∧ (takeGo l s).port = s.port ∧ (takeGo l s).arb = s.arb ∧
    (takeGo l s).regions = s.regions ∧ (takeGo l s).counters = s.counters ∧ (takeGo l s).scrub = s.scrub ∧
    (takeGo l s).spare = s.spare ∧ (takeGo l s).sig = s.sig ∧ (takeGo l s).jnl = s.jnl ∧
    (takeGo l s).vote.record = s.vote.record ∧ (takeGo l s).vote.skewReported = s.vote.skewReported ∧
    (takeGo l s).repair.dc = s.repair.dc ∧ (takeGo l s).repair.dv = s.repair.dv ∧ (takeGo l s).repair.dO = s.repair.dO ∧
    (takeGo l s).repair.r = s.repair.r ∧ (takeGo l s).repair.dcValid = s.repair.dcValid ∧ (takeGo l s).mgmt = s.mgmt ∧
    (takeGo l s).ev = s.ev ∧ (takeGo l s).out.responses = s.out.responses ∧ (takeGo l s).pending = s.pending := by
  simp only [takeGo] <;> (repeat' split) <;> simp

@[simp] theorem servedReturn_keeps (s : State) :
    (servedReturn s).mem = s.mem ∧ (servedReturn s).csr.committed = s.csr.committed ∧ (servedReturn s).csr.c = s.csr.c ∧
    (servedReturn s).port = s.port ∧ (servedReturn s).arb = s.arb ∧ (servedReturn s).regions = s.regions ∧
    (servedReturn s).counters = s.counters ∧ (servedReturn s).scrub = s.scrub ∧ (servedReturn s).spare = s.spare ∧
    (servedReturn s).sig = s.sig ∧ (servedReturn s).jnl = s.jnl ∧ (servedReturn s).vote.record = s.vote.record ∧
    (servedReturn s).link1 = s.link1 ∧ (servedReturn s).link2 = s.link2 ∧ (servedReturn s).repair = s.repair ∧
    (servedReturn s).mgmt = s.mgmt ∧ (servedReturn s).ev.health = s.ev.health ∧
    (servedReturn s).ev.faultLatch = s.ev.faultLatch ∧ (servedReturn s).ev.producer = s.ev.producer ∧
    (servedReturn s).ev.consumer = s.ev.consumer ∧ (servedReturn s).ev.kinds = s.ev.kinds ∧
    (servedReturn s).ev.intBusy = s.ev.intBusy ∧ (servedReturn s).ev.intLevel = s.ev.intLevel ∧
    (servedReturn s).out = s.out ∧ (servedReturn s).pending = s.pending := by
  simp only [servedReturn] <;> (repeat' split) <;> simp

@[simp] theorem takeVerdict_keeps (x : Identity) (v : Verdict) (s : State) :
    (takeVerdict x v s).mem = s.mem ∧ (takeVerdict x v s).csr.committed = s.csr.committed ∧
    (takeVerdict x v s).csr.c = s.csr.c ∧ (takeVerdict x v s).port = s.port ∧ (takeVerdict x v s).arb = s.arb ∧
    (takeVerdict x v s).regions = s.regions ∧ (takeVerdict x v s).counters = s.counters ∧
    (takeVerdict x v s).scrub = s.scrub ∧ (takeVerdict x v s).spare = s.spare ∧ (takeVerdict x v s).sig = s.sig ∧
    (takeVerdict x v s).jnl = s.jnl ∧ (takeVerdict x v s).vote.record = s.vote.record ∧
    (takeVerdict x v s).link1 = s.link1 ∧ (takeVerdict x v s).link2 = s.link2 ∧
    (takeVerdict x v s).repair.dc = s.repair.dc ∧ (takeVerdict x v s).repair.dv = s.repair.dv ∧
    (takeVerdict x v s).repair.dO = s.repair.dO ∧ (takeVerdict x v s).repair.dcValid = s.repair.dcValid ∧
    (takeVerdict x v s).mgmt = s.mgmt ∧ (takeVerdict x v s).ev.health = s.ev.health ∧
    (takeVerdict x v s).ev.faultLatch = s.ev.faultLatch ∧ (takeVerdict x v s).ev.producer = s.ev.producer ∧
    (takeVerdict x v s).ev.consumer = s.ev.consumer ∧ (takeVerdict x v s).ev.kinds = s.ev.kinds ∧
    (takeVerdict x v s).ev.intBusy = s.ev.intBusy ∧ (takeVerdict x v s).ev.intLevel = s.ev.intLevel ∧
    (takeVerdict x v s).out = s.out ∧ (takeVerdict x v s).pending = s.pending := by
  simp only [takeVerdict] <;> (repeat' split) <;> simp

@[simp] theorem takeAbort_keeps (x : Identity) (why : AbortReason) (s : State) :
    (takeAbort x why s).mem = s.mem ∧ (takeAbort x why s).csr.counter = s.csr.counter ∧
    (takeAbort x why s).csr.committed = s.csr.committed ∧ (takeAbort x why s).csr.c = s.csr.c ∧
    (takeAbort x why s).port = s.port ∧ (takeAbort x why s).arb = s.arb ∧ (takeAbort x why s).regions = s.regions ∧
    (takeAbort x why s).counters = s.counters ∧ (takeAbort x why s).scrub = s.scrub ∧ (takeAbort x why s).spare = s.spare ∧
    (takeAbort x why s).sig.committedKeys = s.sig.committedKeys ∧ (takeAbort x why s).sig.loadedKeys = s.sig.loadedKeys ∧
    (takeAbort x why s).sig.keysSet = s.sig.keysSet ∧ (takeAbort x why s).sig.s = s.sig.s ∧
    (takeAbort x why s).sig.valid = s.sig.valid ∧ (takeAbort x why s).jnl = s.jnl ∧
    (takeAbort x why s).vote.record = s.vote.record ∧ (takeAbort x why s).vote.skewReported = s.vote.skewReported ∧
    (takeAbort x why s).repair.dc = s.repair.dc ∧ (takeAbort x why s).repair.dv = s.repair.dv ∧
    (takeAbort x why s).repair.dO = s.repair.dO ∧ (takeAbort x why s).repair.dcValid = s.repair.dcValid ∧
    (takeAbort x why s).mgmt = s.mgmt ∧ (takeAbort x why s).ev.health = s.ev.health ∧
    (takeAbort x why s).ev.faultLatch = s.ev.faultLatch ∧ (takeAbort x why s).ev.producer = s.ev.producer ∧
    (takeAbort x why s).ev.consumer = s.ev.consumer ∧ (takeAbort x why s).ev.kinds = s.ev.kinds ∧
    (takeAbort x why s).ev.intBusy = s.ev.intBusy ∧ (takeAbort x why s).ev.intLevel = s.ev.intLevel ∧
    (takeAbort x why s).out.responses = s.out.responses ∧ (takeAbort x why s).pending = s.pending := by
  simp only [takeAbort] <;> (repeat' split) <;> simp

@[simp] theorem replyExpiry_keeps (s : State) :
    (replyExpiry s).mem = s.mem ∧ (replyExpiry s).csr = s.csr ∧ (replyExpiry s).port = s.port ∧
    (replyExpiry s).arb = s.arb ∧ (replyExpiry s).regions = s.regions ∧ (replyExpiry s).counters = s.counters ∧
    (replyExpiry s).scrub = s.scrub ∧ (replyExpiry s).spare = s.spare ∧ (replyExpiry s).sig = s.sig ∧
    (replyExpiry s).jnl = s.jnl ∧ (replyExpiry s).vote.record = s.vote.record ∧
    (replyExpiry s).vote.skewReported = s.vote.skewReported ∧ (replyExpiry s).repair.dc = s.repair.dc ∧
    (replyExpiry s).repair.dv = s.repair.dv ∧ (replyExpiry s).repair.dO = s.repair.dO ∧
    (replyExpiry s).repair.r = s.repair.r ∧ (replyExpiry s).repair.dcValid = s.repair.dcValid ∧
    (replyExpiry s).mgmt = s.mgmt ∧ (replyExpiry s).ev.health = s.ev.health ∧
    (replyExpiry s).ev.faultLatch = s.ev.faultLatch ∧ (replyExpiry s).ev.producer = s.ev.producer ∧
    (replyExpiry s).ev.consumer = s.ev.consumer ∧ (replyExpiry s).ev.kinds = s.ev.kinds ∧
    (replyExpiry s).ev.intBusy = s.ev.intBusy ∧ (replyExpiry s).ev.intLevel = s.ev.intLevel ∧
    (replyExpiry s).out.responses = s.out.responses ∧ (replyExpiry s).pending = s.pending := by
  simp only [replyExpiry] <;> (repeat' split) <;> simp

@[simp] theorem retryExpiry_keeps (s : State) :
    (retryExpiry s).mem = s.mem ∧ (retryExpiry s).csr = s.csr ∧ (retryExpiry s).port = s.port ∧
    (retryExpiry s).arb = s.arb ∧ (retryExpiry s).regions = s.regions ∧ (retryExpiry s).counters = s.counters ∧
    (retryExpiry s).scrub = s.scrub ∧ (retryExpiry s).spare = s.spare ∧ (retryExpiry s).sig = s.sig ∧
    (retryExpiry s).jnl = s.jnl ∧ (retryExpiry s).vote.record = s.vote.record ∧
    (retryExpiry s).vote.skewReported = s.vote.skewReported ∧ (retryExpiry s).repair.dc = s.repair.dc ∧
    (retryExpiry s).repair.dv = s.repair.dv ∧ (retryExpiry s).repair.dO = s.repair.dO ∧
    (retryExpiry s).repair.r = s.repair.r ∧ (retryExpiry s).repair.dcValid = s.repair.dcValid ∧
    (retryExpiry s).mgmt = s.mgmt ∧ (retryExpiry s).ev.health = s.ev.health ∧
    (retryExpiry s).ev.faultLatch = s.ev.faultLatch ∧ (retryExpiry s).ev.producer = s.ev.producer ∧
    (retryExpiry s).ev.consumer = s.ev.consumer ∧ (retryExpiry s).ev.kinds = s.ev.kinds ∧
    (retryExpiry s).ev.intBusy = s.ev.intBusy ∧ (retryExpiry s).ev.intLevel = s.ev.intLevel ∧
    (retryExpiry s).out.responses = s.out.responses ∧ (retryExpiry s).pending = s.pending := by
  simp only [retryExpiry] <;> (repeat' split) <;> simp

@[simp] theorem receiveExpiry_keeps (s : State) :
    (receiveExpiry s).mem = s.mem ∧ (receiveExpiry s).csr.counter = s.csr.counter ∧
    (receiveExpiry s).csr.committed = s.csr.committed ∧ (receiveExpiry s).csr.c = s.csr.c ∧
    (receiveExpiry s).port = s.port ∧ (receiveExpiry s).arb = s.arb ∧ (receiveExpiry s).regions = s.regions ∧
    (receiveExpiry s).counters = s.counters ∧ (receiveExpiry s).scrub = s.scrub ∧ (receiveExpiry s).spare = s.spare ∧
    (receiveExpiry s).sig.committedKeys = s.sig.committedKeys ∧ (receiveExpiry s).sig.loadedKeys = s.sig.loadedKeys ∧
    (receiveExpiry s).sig.keysSet = s.sig.keysSet ∧ (receiveExpiry s).sig.s = s.sig.s ∧
    (receiveExpiry s).sig.valid = s.sig.valid ∧ (receiveExpiry s).jnl = s.jnl ∧
    (receiveExpiry s).vote.record = s.vote.record ∧ (receiveExpiry s).vote.skewReported = s.vote.skewReported ∧
    (receiveExpiry s).repair.dc = s.repair.dc ∧ (receiveExpiry s).repair.dv = s.repair.dv ∧
    (receiveExpiry s).repair.dO = s.repair.dO ∧ (receiveExpiry s).repair.r = s.repair.r ∧
    (receiveExpiry s).repair.dcValid = s.repair.dcValid ∧ (receiveExpiry s).mgmt = s.mgmt ∧
    (receiveExpiry s).ev.health = s.ev.health ∧ (receiveExpiry s).ev.faultLatch = s.ev.faultLatch ∧
    (receiveExpiry s).ev.producer = s.ev.producer ∧ (receiveExpiry s).ev.consumer = s.ev.consumer ∧
    (receiveExpiry s).ev.kinds = s.ev.kinds ∧ (receiveExpiry s).ev.intBusy = s.ev.intBusy ∧
    (receiveExpiry s).ev.intLevel = s.ev.intLevel ∧ (receiveExpiry s).out.responses = s.out.responses ∧
    (receiveExpiry s).pending = s.pending := by
  simp only [receiveExpiry] <;> (repeat' split) <;> simp

@[simp] theorem holdExpiry_keeps (s : State) :
    (holdExpiry s).mem = s.mem ∧ (holdExpiry s).csr = s.csr ∧ (holdExpiry s).port = s.port ∧ (holdExpiry s).arb = s.arb ∧
    (holdExpiry s).regions = s.regions ∧ (holdExpiry s).counters = s.counters ∧ (holdExpiry s).scrub = s.scrub ∧
    (holdExpiry s).spare = s.spare ∧ (holdExpiry s).sig = s.sig ∧ (holdExpiry s).jnl = s.jnl ∧
    (holdExpiry s).vote.record = s.vote.record ∧ (holdExpiry s).vote.skewReported = s.vote.skewReported ∧
    (holdExpiry s).repair.dc = s.repair.dc ∧ (holdExpiry s).repair.dv = s.repair.dv ∧
    (holdExpiry s).repair.dO = s.repair.dO ∧ (holdExpiry s).repair.dcValid = s.repair.dcValid ∧
    (holdExpiry s).mgmt = s.mgmt ∧ (holdExpiry s).ev.health = s.ev.health ∧ (holdExpiry s).ev.faultLatch = s.ev.faultLatch ∧
    (holdExpiry s).ev.producer = s.ev.producer ∧ (holdExpiry s).ev.consumer = s.ev.consumer ∧
    (holdExpiry s).ev.kinds = s.ev.kinds ∧ (holdExpiry s).ev.intBusy = s.ev.intBusy ∧
    (holdExpiry s).ev.intLevel = s.ev.intLevel ∧ (holdExpiry s).out.responses = s.out.responses ∧
    (holdExpiry s).pending = s.pending := by
  simp only [holdExpiry] <;> (repeat' split) <;> simp

@[simp] theorem catchupExpiry_keeps (s : State) :
    (catchupExpiry s).mem = s.mem ∧ (catchupExpiry s).csr = s.csr ∧ (catchupExpiry s).port = s.port ∧
    (catchupExpiry s).arb = s.arb ∧ (catchupExpiry s).regions = s.regions ∧ (catchupExpiry s).counters = s.counters ∧
    (catchupExpiry s).scrub = s.scrub ∧ (catchupExpiry s).spare = s.spare ∧ (catchupExpiry s).sig = s.sig ∧
    (catchupExpiry s).jnl = s.jnl ∧ (catchupExpiry s).vote.record = s.vote.record ∧
    (catchupExpiry s).vote.skewReported = s.vote.skewReported ∧ (catchupExpiry s).repair.dc = s.repair.dc ∧
    (catchupExpiry s).repair.dv = s.repair.dv ∧ (catchupExpiry s).repair.dO = s.repair.dO ∧
    (catchupExpiry s).repair.dcValid = s.repair.dcValid ∧ (catchupExpiry s).mgmt = s.mgmt ∧
    (catchupExpiry s).ev.health = s.ev.health ∧ (catchupExpiry s).ev.faultLatch = s.ev.faultLatch ∧
    (catchupExpiry s).ev.producer = s.ev.producer ∧ (catchupExpiry s).ev.consumer = s.ev.consumer ∧
    (catchupExpiry s).ev.kinds = s.ev.kinds ∧ (catchupExpiry s).ev.intBusy = s.ev.intBusy ∧
    (catchupExpiry s).ev.intLevel = s.ev.intLevel ∧ (catchupExpiry s).out.responses = s.out.responses ∧
    (catchupExpiry s).pending = s.pending := by
  simp only [catchupExpiry] <;> (repeat' split) <;> simp

@[simp] theorem verdictExpiry_keeps (s : State) :
    (verdictExpiry s).mem = s.mem ∧ (verdictExpiry s).csr = s.csr ∧ (verdictExpiry s).port = s.port ∧
    (verdictExpiry s).arb = s.arb ∧ (verdictExpiry s).regions = s.regions ∧ (verdictExpiry s).counters = s.counters ∧
    (verdictExpiry s).scrub = s.scrub ∧ (verdictExpiry s).spare = s.spare ∧ (verdictExpiry s).sig = s.sig ∧
    (verdictExpiry s).jnl = s.jnl ∧ (verdictExpiry s).vote.record = s.vote.record ∧
    (verdictExpiry s).vote.skewReported = s.vote.skewReported ∧ (verdictExpiry s).repair.dc = s.repair.dc ∧
    (verdictExpiry s).repair.dv = s.repair.dv ∧ (verdictExpiry s).repair.dO = s.repair.dO ∧
    (verdictExpiry s).repair.dcValid = s.repair.dcValid ∧ (verdictExpiry s).mgmt = s.mgmt ∧
    (verdictExpiry s).ev.health = s.ev.health ∧ (verdictExpiry s).ev.faultLatch = s.ev.faultLatch ∧
    (verdictExpiry s).ev.producer = s.ev.producer ∧ (verdictExpiry s).ev.consumer = s.ev.consumer ∧
    (verdictExpiry s).ev.kinds = s.ev.kinds ∧ (verdictExpiry s).ev.intBusy = s.ev.intBusy ∧
    (verdictExpiry s).ev.intLevel = s.ev.intLevel ∧ (verdictExpiry s).out.responses = s.out.responses ∧
    (verdictExpiry s).pending = s.pending := by
  simp only [verdictExpiry] <;> (repeat' split) <;> simp

end Sys2Proof.Machine
end

