-- ==== Sys2Proof/Laws/Sparing.lean ====
section
/-! SUPPORT. What the line sparing operations leave as it was: for each operation one lemma that names every
part of the state it keeps. -/

namespace Sys2Proof.Machine

set_option linter.unnecessarySeqFocus false
set_option linter.unusedTactic false
set_option linter.unreachableTactic false
set_option linter.unusedSimpArgs false
@[simp] theorem setRemap_keeps (i : Nat) (e : RemapEntry) (s : State) :
    (setRemap i e s).mem = s.mem ∧ (setRemap i e s).csr = s.csr ∧ (setRemap i e s).port = s.port ∧
    (setRemap i e s).arb = s.arb ∧ (setRemap i e s).regions = s.regions ∧ (setRemap i e s).counters = s.counters ∧
    (setRemap i e s).scrub = s.scrub ∧ (setRemap i e s).spare.op = s.spare.op ∧
    (setRemap i e s).spare.suspects = s.spare.suspects ∧ (setRemap i e s).sig = s.sig ∧ (setRemap i e s).jnl = s.jnl ∧
    (setRemap i e s).vote = s.vote ∧ (setRemap i e s).link1 = s.link1 ∧ (setRemap i e s).link2 = s.link2 ∧
    (setRemap i e s).repair = s.repair ∧ (setRemap i e s).mgmt = s.mgmt ∧ (setRemap i e s).ev = s.ev ∧
    (setRemap i e s).out = s.out ∧ (setRemap i e s).pending = s.pending := by
  simp only [setRemap] <;> (repeat' split) <;> simp

@[simp] theorem beginCopy_keeps (i l : Nat) (s : State) :
    (beginCopy i l s).mem = s.mem ∧ (beginCopy i l s).csr = s.csr ∧ (beginCopy i l s).port = s.port ∧
    (beginCopy i l s).arb = s.arb ∧ (beginCopy i l s).regions = s.regions ∧ (beginCopy i l s).counters = s.counters ∧
    (beginCopy i l s).scrub = s.scrub ∧ (beginCopy i l s).spare.suspects = s.spare.suspects ∧
    (beginCopy i l s).sig = s.sig ∧ (beginCopy i l s).jnl = s.jnl ∧ (beginCopy i l s).vote = s.vote ∧
    (beginCopy i l s).link1 = s.link1 ∧ (beginCopy i l s).link2 = s.link2 ∧ (beginCopy i l s).repair = s.repair ∧
    (beginCopy i l s).mgmt = s.mgmt ∧ (beginCopy i l s).ev = s.ev ∧ (beginCopy i l s).out = s.out ∧
    (beginCopy i l s).pending = s.pending := by
  simp only [beginCopy] <;> (repeat' split) <;> simp

@[simp] theorem beginTest_keeps (i l : Nat) (s : State) :
    (beginTest i l s).mem = s.mem ∧ (beginTest i l s).csr = s.csr ∧ (beginTest i l s).port = s.port ∧
    (beginTest i l s).arb = s.arb ∧ (beginTest i l s).regions = s.regions ∧ (beginTest i l s).counters = s.counters ∧
    (beginTest i l s).scrub = s.scrub ∧ (beginTest i l s).spare.remap = s.spare.remap ∧
    (beginTest i l s).spare.suspects = s.spare.suspects ∧ (beginTest i l s).sig = s.sig ∧ (beginTest i l s).jnl = s.jnl ∧
    (beginTest i l s).vote = s.vote ∧ (beginTest i l s).link1 = s.link1 ∧ (beginTest i l s).link2 = s.link2 ∧
    (beginTest i l s).repair = s.repair ∧ (beginTest i l s).mgmt = s.mgmt ∧ (beginTest i l s).ev = s.ev ∧
    (beginTest i l s).out = s.out ∧ (beginTest i l s).pending = s.pending := by
  simp only [beginTest] <;> (repeat' split) <;> simp

@[simp] theorem exhaust_keeps (l : Nat) (s : State) :
    (exhaust l s).mem = s.mem ∧ (exhaust l s).csr = s.csr ∧ (exhaust l s).port = s.port ∧ (exhaust l s).arb = s.arb ∧
    (exhaust l s).regions = s.regions ∧ (exhaust l s).counters = s.counters ∧ (exhaust l s).scrub = s.scrub ∧
    (exhaust l s).spare.remap = s.spare.remap ∧ (exhaust l s).sig = s.sig ∧ (exhaust l s).jnl = s.jnl ∧
    (exhaust l s).vote = s.vote ∧ (exhaust l s).link1 = s.link1 ∧ (exhaust l s).link2 = s.link2 ∧
    (exhaust l s).repair = s.repair ∧ (exhaust l s).mgmt = s.mgmt ∧ (exhaust l s).ev.health = s.ev.health ∧
    (exhaust l s).ev.faultLatch = s.ev.faultLatch ∧ (exhaust l s).ev.producer = s.ev.producer ∧
    (exhaust l s).ev.consumer = s.ev.consumer ∧ (exhaust l s).ev.kinds = s.ev.kinds ∧
    (exhaust l s).ev.intBusy = s.ev.intBusy ∧ (exhaust l s).ev.intLevel = s.ev.intLevel ∧ (exhaust l s).out = s.out ∧
    (exhaust l s).pending = s.pending := by
  simp only [exhaust] <;> (repeat' split) <;> simp

@[simp] theorem chooseSpare_keeps (l : Nat) (s : State) :
    (chooseSpare l s).mem = s.mem ∧ (chooseSpare l s).csr = s.csr ∧ (chooseSpare l s).port = s.port ∧
    (chooseSpare l s).arb = s.arb ∧ (chooseSpare l s).regions = s.regions ∧ (chooseSpare l s).counters = s.counters ∧
    (chooseSpare l s).scrub = s.scrub ∧ (chooseSpare l s).sig = s.sig ∧ (chooseSpare l s).jnl = s.jnl ∧
    (chooseSpare l s).vote = s.vote ∧ (chooseSpare l s).link1 = s.link1 ∧ (chooseSpare l s).link2 = s.link2 ∧
    (chooseSpare l s).repair = s.repair ∧ (chooseSpare l s).mgmt = s.mgmt ∧ (chooseSpare l s).ev.health = s.ev.health ∧
    (chooseSpare l s).ev.faultLatch = s.ev.faultLatch ∧ (chooseSpare l s).ev.producer = s.ev.producer ∧
    (chooseSpare l s).ev.consumer = s.ev.consumer ∧ (chooseSpare l s).ev.kinds = s.ev.kinds ∧
    (chooseSpare l s).ev.intBusy = s.ev.intBusy ∧ (chooseSpare l s).ev.intLevel = s.ev.intLevel ∧
    (chooseSpare l s).out = s.out ∧ (chooseSpare l s).pending = s.pending := by
  simp only [chooseSpare] <;> (repeat' split) <;> simp

@[simp] theorem servePending_keeps (s : State) :
    (servePending s).mem = s.mem ∧ (servePending s).csr = s.csr ∧ (servePending s).port = s.port ∧
    (servePending s).arb = s.arb ∧ (servePending s).regions = s.regions ∧ (servePending s).counters = s.counters ∧
    (servePending s).scrub = s.scrub ∧ (servePending s).sig = s.sig ∧ (servePending s).jnl = s.jnl ∧
    (servePending s).vote = s.vote ∧ (servePending s).link1 = s.link1 ∧ (servePending s).link2 = s.link2 ∧
    (servePending s).repair = s.repair ∧ (servePending s).mgmt = s.mgmt ∧ (servePending s).ev.health = s.ev.health ∧
    (servePending s).ev.faultLatch = s.ev.faultLatch ∧ (servePending s).ev.producer = s.ev.producer ∧
    (servePending s).ev.consumer = s.ev.consumer ∧ (servePending s).ev.kinds = s.ev.kinds ∧
    (servePending s).ev.intBusy = s.ev.intBusy ∧ (servePending s).ev.intLevel = s.ev.intLevel ∧
    (servePending s).out = s.out ∧ (servePending s).pending = s.pending := by
  simp only [servePending] <;> (repeat' split) <;> simp

@[simp] theorem spareFails_keeps (detail : Nat) (s : State) :
    (spareFails detail s).mem = s.mem ∧ (spareFails detail s).csr = s.csr ∧ (spareFails detail s).port = s.port ∧
    (spareFails detail s).arb = s.arb ∧ (spareFails detail s).regions = s.regions ∧
    (spareFails detail s).counters = s.counters ∧ (spareFails detail s).scrub = s.scrub ∧
    (spareFails detail s).sig = s.sig ∧ (spareFails detail s).jnl = s.jnl ∧ (spareFails detail s).vote = s.vote ∧
    (spareFails detail s).link1 = s.link1 ∧ (spareFails detail s).link2 = s.link2 ∧
    (spareFails detail s).repair = s.repair ∧ (spareFails detail s).mgmt = s.mgmt ∧
    (spareFails detail s).ev.health = s.ev.health ∧ (spareFails detail s).ev.faultLatch = s.ev.faultLatch ∧
    (spareFails detail s).ev.producer = s.ev.producer ∧ (spareFails detail s).ev.consumer = s.ev.consumer ∧
    (spareFails detail s).ev.kinds = s.ev.kinds ∧ (spareFails detail s).ev.intBusy = s.ev.intBusy ∧
    (spareFails detail s).ev.intLevel = s.ev.intLevel ∧ (spareFails detail s).out = s.out ∧
    (spareFails detail s).pending = s.pending := by
  simp only [spareFails] <;> (repeat' split) <;> simp

@[simp] theorem sparePasses_keeps (s : State) :
    (sparePasses s).mem = s.mem ∧ (sparePasses s).csr = s.csr ∧ (sparePasses s).port = s.port ∧
    (sparePasses s).arb = s.arb ∧ (sparePasses s).regions = s.regions ∧ (sparePasses s).counters = s.counters ∧
    (sparePasses s).scrub = s.scrub ∧ (sparePasses s).sig = s.sig ∧ (sparePasses s).jnl = s.jnl ∧
    (sparePasses s).vote = s.vote ∧ (sparePasses s).link1 = s.link1 ∧ (sparePasses s).link2 = s.link2 ∧
    (sparePasses s).repair = s.repair ∧ (sparePasses s).mgmt = s.mgmt ∧ (sparePasses s).ev.health = s.ev.health ∧
    (sparePasses s).ev.faultLatch = s.ev.faultLatch ∧ (sparePasses s).ev.producer = s.ev.producer ∧
    (sparePasses s).ev.consumer = s.ev.consumer ∧ (sparePasses s).ev.kinds = s.ev.kinds ∧
    (sparePasses s).ev.intBusy = s.ev.intBusy ∧ (sparePasses s).ev.intLevel = s.ev.intLevel ∧ (sparePasses s).out = s.out ∧
    (sparePasses s).pending = s.pending := by
  simp only [sparePasses] <;> (repeat' split) <;> simp

@[simp] theorem spareTestNext_keeps (s : State) :
    (spareTestNext s).mem = s.mem ∧ (spareTestNext s).csr = s.csr ∧ (spareTestNext s).port = s.port ∧
    (spareTestNext s).arb = s.arb ∧ (spareTestNext s).regions = s.regions ∧ (spareTestNext s).counters = s.counters ∧
    (spareTestNext s).scrub = s.scrub ∧ (spareTestNext s).sig = s.sig ∧ (spareTestNext s).jnl = s.jnl ∧
    (spareTestNext s).vote = s.vote ∧ (spareTestNext s).link1 = s.link1 ∧ (spareTestNext s).link2 = s.link2 ∧
    (spareTestNext s).repair = s.repair ∧ (spareTestNext s).mgmt = s.mgmt ∧ (spareTestNext s).ev.health = s.ev.health ∧
    (spareTestNext s).ev.faultLatch = s.ev.faultLatch ∧ (spareTestNext s).ev.producer = s.ev.producer ∧
    (spareTestNext s).ev.consumer = s.ev.consumer ∧ (spareTestNext s).ev.kinds = s.ev.kinds ∧
    (spareTestNext s).ev.intBusy = s.ev.intBusy ∧ (spareTestNext s).ev.intLevel = s.ev.intLevel ∧
    (spareTestNext s).out = s.out ∧ (spareTestNext s).pending = s.pending := by
  simp only [spareTestNext] <;> (repeat' split) <;> simp

@[simp] theorem spareTestBody_keeps (s : State) :
    (spareTestBody s).csr = s.csr ∧ (spareTestBody s).port = s.port ∧ (spareTestBody s).arb = s.arb ∧
    (spareTestBody s).regions = s.regions ∧ (spareTestBody s).counters = s.counters ∧ (spareTestBody s).scrub = s.scrub ∧
    (spareTestBody s).sig = s.sig ∧ (spareTestBody s).jnl = s.jnl ∧ (spareTestBody s).vote = s.vote ∧
    (spareTestBody s).link1 = s.link1 ∧ (spareTestBody s).link2 = s.link2 ∧ (spareTestBody s).repair = s.repair ∧
    (spareTestBody s).mgmt = s.mgmt ∧ (spareTestBody s).ev.health = s.ev.health ∧
    (spareTestBody s).ev.faultLatch = s.ev.faultLatch ∧ (spareTestBody s).ev.producer = s.ev.producer ∧
    (spareTestBody s).ev.consumer = s.ev.consumer ∧ (spareTestBody s).ev.kinds = s.ev.kinds ∧
    (spareTestBody s).ev.intBusy = s.ev.intBusy ∧ (spareTestBody s).ev.intLevel = s.ev.intLevel ∧
    (spareTestBody s).out = s.out ∧ (spareTestBody s).pending = s.pending := by
  simp only [spareTestBody] <;> (repeat' split) <;> simp

@[simp] theorem copyComplete_keeps (s : State) :
    (copyComplete s).mem = s.mem ∧ (copyComplete s).csr = s.csr ∧ (copyComplete s).port = s.port ∧
    (copyComplete s).arb = s.arb ∧ (copyComplete s).regions = s.regions ∧ (copyComplete s).counters = s.counters ∧
    (copyComplete s).scrub = s.scrub ∧ (copyComplete s).sig = s.sig ∧ (copyComplete s).jnl = s.jnl ∧
    (copyComplete s).vote = s.vote ∧ (copyComplete s).link1 = s.link1 ∧ (copyComplete s).link2 = s.link2 ∧
    (copyComplete s).repair = s.repair ∧ (copyComplete s).mgmt = s.mgmt ∧ (copyComplete s).ev.health = s.ev.health ∧
    (copyComplete s).ev.faultLatch = s.ev.faultLatch ∧ (copyComplete s).ev.producer = s.ev.producer ∧
    (copyComplete s).ev.consumer = s.ev.consumer ∧ (copyComplete s).ev.kinds = s.ev.kinds ∧
    (copyComplete s).ev.intBusy = s.ev.intBusy ∧ (copyComplete s).ev.intLevel = s.ev.intLevel ∧
    (copyComplete s).out = s.out ∧ (copyComplete s).pending = s.pending := by
  simp only [copyComplete] <;> (repeat' split) <;> simp

@[simp] theorem copyAdvance_keeps (s : State) :
    (copyAdvance s).mem = s.mem ∧ (copyAdvance s).csr = s.csr ∧ (copyAdvance s).port = s.port ∧
    (copyAdvance s).arb = s.arb ∧ (copyAdvance s).regions = s.regions ∧ (copyAdvance s).counters = s.counters ∧
    (copyAdvance s).scrub = s.scrub ∧ (copyAdvance s).sig = s.sig ∧ (copyAdvance s).jnl = s.jnl ∧
    (copyAdvance s).vote = s.vote ∧ (copyAdvance s).link1 = s.link1 ∧ (copyAdvance s).link2 = s.link2 ∧
    (copyAdvance s).repair = s.repair ∧ (copyAdvance s).mgmt = s.mgmt ∧ (copyAdvance s).ev.health = s.ev.health ∧
    (copyAdvance s).ev.faultLatch = s.ev.faultLatch ∧ (copyAdvance s).ev.producer = s.ev.producer ∧
    (copyAdvance s).ev.consumer = s.ev.consumer ∧ (copyAdvance s).ev.kinds = s.ev.kinds ∧
    (copyAdvance s).ev.intBusy = s.ev.intBusy ∧ (copyAdvance s).ev.intLevel = s.ev.intLevel ∧ (copyAdvance s).out = s.out ∧
    (copyAdvance s).pending = s.pending := by
  simp only [copyAdvance] <;> (repeat' split) <;> simp

@[simp] theorem copyWork_keeps (s : State) :
    (copyWork s).1.csr = s.csr ∧ (copyWork s).1.port = s.port ∧ (copyWork s).1.arb = s.arb ∧
    (copyWork s).1.regions = s.regions ∧ (copyWork s).1.scrub = s.scrub ∧
    (copyWork s).1.sig.committedKeys = s.sig.committedKeys ∧ (copyWork s).1.sig.loadedKeys = s.sig.loadedKeys ∧
    (copyWork s).1.sig.keysSet = s.sig.keysSet ∧ (copyWork s).1.sig.s = s.sig.s ∧ (copyWork s).1.sig.walk = s.sig.walk ∧
    (copyWork s).1.sig.cursor = s.sig.cursor ∧ (copyWork s).1.sig.acc = s.sig.acc ∧
    (copyWork s).1.sig.poisoned = s.sig.poisoned ∧ (copyWork s).1.sig.overflow = s.sig.overflow ∧
    (copyWork s).1.jnl = s.jnl ∧ (copyWork s).1.vote = s.vote ∧ (copyWork s).1.link1 = s.link1 ∧
    (copyWork s).1.link2 = s.link2 ∧ (copyWork s).1.repair = s.repair ∧ (copyWork s).1.mgmt = s.mgmt ∧
    (copyWork s).1.ev.health = s.ev.health ∧ (copyWork s).1.ev.faultLatch = s.ev.faultLatch ∧
    (copyWork s).1.ev.producer = s.ev.producer ∧ (copyWork s).1.ev.consumer = s.ev.consumer ∧
    (copyWork s).1.ev.kinds = s.ev.kinds ∧ (copyWork s).1.ev.intBusy = s.ev.intBusy ∧
    (copyWork s).1.ev.intLevel = s.ev.intLevel ∧ (copyWork s).1.out = s.out ∧ (copyWork s).1.pending = s.pending := by
  simp only [copyWork] <;> (repeat' split) <;> simp

@[simp] theorem copyBody_keeps (s : State) :
    (copyBody s).csr.committed = s.csr.committed ∧ (copyBody s).csr.c = s.csr.c ∧ (copyBody s).port = s.port ∧
    (copyBody s).arb = s.arb ∧ (copyBody s).regions = s.regions ∧ (copyBody s).scrub = s.scrub ∧
    (copyBody s).sig.committedKeys = s.sig.committedKeys ∧ (copyBody s).sig.loadedKeys = s.sig.loadedKeys ∧
    (copyBody s).sig.keysSet = s.sig.keysSet ∧ (copyBody s).sig.s = s.sig.s ∧ (copyBody s).repair.dc = s.repair.dc ∧
    (copyBody s).repair.dv = s.repair.dv ∧ (copyBody s).repair.dO = s.repair.dO ∧
    (copyBody s).repair.dcValid = s.repair.dcValid ∧ (copyBody s).mgmt = s.mgmt ∧ (copyBody s).ev.health = s.ev.health ∧
    (copyBody s).ev.producer = s.ev.producer ∧ (copyBody s).ev.consumer = s.ev.consumer ∧
    (copyBody s).ev.kinds = s.ev.kinds ∧ (copyBody s).ev.intBusy = s.ev.intBusy ∧ (copyBody s).ev.intLevel = s.ev.intLevel ∧
    (copyBody s).out.responses = s.out.responses ∧ (copyBody s).pending = s.pending := by
  simp only [copyBody] <;> (repeat' split) <;> simp

end Sys2Proof.Machine
end

