-- ==== Sys2Proof/Laws/Engines.lean ====
section
/-! SUPPORT. What the grants of the engines leave as it was: for each operation one lemma that names every
part of the state it keeps. -/

namespace Sys2Proof.Machine

set_option linter.unnecessarySeqFocus false
set_option linter.unusedTactic false
set_option linter.unreachableTactic false
set_option linter.unusedSimpArgs false
@[simp] theorem passComplete_keeps (s : State) :
    (passComplete s).mem = s.mem ∧ (passComplete s).csr = s.csr ∧ (passComplete s).port = s.port ∧
    (passComplete s).arb = s.arb ∧ (passComplete s).regions = s.regions ∧ (passComplete s).counters = s.counters ∧
    (passComplete s).scrub.allowance = s.scrub.allowance ∧ (passComplete s).scrub.proof = s.scrub.proof ∧
    (passComplete s).scrub.init = s.scrub.init ∧ (passComplete s).spare.op = s.spare.op ∧
    (passComplete s).spare.remap = s.spare.remap ∧ (passComplete s).sig = s.sig ∧ (passComplete s).jnl = s.jnl ∧
    (passComplete s).vote = s.vote ∧ (passComplete s).link1 = s.link1 ∧ (passComplete s).link2 = s.link2 ∧
    (passComplete s).repair = s.repair ∧ (passComplete s).mgmt = s.mgmt ∧ (passComplete s).ev.health = s.ev.health ∧
    (passComplete s).ev.faultLatch = s.ev.faultLatch ∧ (passComplete s).ev.producer = s.ev.producer ∧
    (passComplete s).ev.consumer = s.ev.consumer ∧ (passComplete s).ev.kinds = s.ev.kinds ∧
    (passComplete s).ev.intBusy = s.ev.intBusy ∧ (passComplete s).ev.intLevel = s.ev.intLevel ∧
    (passComplete s).out = s.out ∧ (passComplete s).pending = s.pending := by
  simp only [passComplete] <;> (repeat' split) <;> simp

@[simp] theorem scrubAdvance_keeps (l w : Nat) (s : State) :
    (scrubAdvance l w s).mem = s.mem ∧ (scrubAdvance l w s).csr = s.csr ∧ (scrubAdvance l w s).port = s.port ∧
    (scrubAdvance l w s).arb = s.arb ∧ (scrubAdvance l w s).regions = s.regions ∧
    (scrubAdvance l w s).counters = s.counters ∧ (scrubAdvance l w s).scrub.allowance = s.scrub.allowance ∧
    (scrubAdvance l w s).scrub.proof = s.scrub.proof ∧ (scrubAdvance l w s).scrub.init = s.scrub.init ∧
    (scrubAdvance l w s).spare.op = s.spare.op ∧ (scrubAdvance l w s).spare.remap = s.spare.remap ∧
    (scrubAdvance l w s).sig = s.sig ∧ (scrubAdvance l w s).jnl = s.jnl ∧ (scrubAdvance l w s).vote = s.vote ∧
    (scrubAdvance l w s).link1 = s.link1 ∧ (scrubAdvance l w s).link2 = s.link2 ∧ (scrubAdvance l w s).repair = s.repair ∧
    (scrubAdvance l w s).mgmt = s.mgmt ∧ (scrubAdvance l w s).ev.health = s.ev.health ∧
    (scrubAdvance l w s).ev.faultLatch = s.ev.faultLatch ∧ (scrubAdvance l w s).ev.producer = s.ev.producer ∧
    (scrubAdvance l w s).ev.consumer = s.ev.consumer ∧ (scrubAdvance l w s).ev.kinds = s.ev.kinds ∧
    (scrubAdvance l w s).ev.intBusy = s.ev.intBusy ∧ (scrubAdvance l w s).ev.intLevel = s.ev.intLevel ∧
    (scrubAdvance l w s).out = s.out ∧ (scrubAdvance l w s).pending = s.pending := by
  simp only [scrubAdvance] <;> (repeat' split) <;> simp

@[simp] theorem spendAllowance_keeps (w : Nat) (s : State) :
    (spendAllowance w s).mem = s.mem ∧ (spendAllowance w s).csr = s.csr ∧ (spendAllowance w s).port = s.port ∧
    (spendAllowance w s).arb = s.arb ∧ (spendAllowance w s).regions = s.regions ∧
    (spendAllowance w s).counters = s.counters ∧ (spendAllowance w s).scrub.line = s.scrub.line ∧
    (spendAllowance w s).scrub.word = s.scrub.word ∧ (spendAllowance w s).scrub.passCount = s.scrub.passCount ∧
    (spendAllowance w s).scrub.proof = s.scrub.proof ∧ (spendAllowance w s).scrub.init = s.scrub.init ∧
    (spendAllowance w s).spare = s.spare ∧ (spendAllowance w s).sig = s.sig ∧ (spendAllowance w s).jnl = s.jnl ∧
    (spendAllowance w s).vote = s.vote ∧ (spendAllowance w s).link1 = s.link1 ∧ (spendAllowance w s).link2 = s.link2 ∧
    (spendAllowance w s).repair = s.repair ∧ (spendAllowance w s).mgmt = s.mgmt ∧ (spendAllowance w s).ev = s.ev ∧
    (spendAllowance w s).out = s.out ∧ (spendAllowance w s).pending = s.pending := by
  simp only [spendAllowance] <;> (repeat' split) <;> simp

@[simp] theorem scrubWork_keeps (s : State) :
    (scrubWork s).1.csr = s.csr ∧ (scrubWork s).1.port = s.port ∧ (scrubWork s).1.arb = s.arb ∧
    (scrubWork s).1.regions = s.regions ∧ (scrubWork s).1.scrub.proof = s.scrub.proof ∧
    (scrubWork s).1.scrub.init = s.scrub.init ∧ (scrubWork s).1.spare.op = s.spare.op ∧
    (scrubWork s).1.spare.remap = s.spare.remap ∧ (scrubWork s).1.sig.committedKeys = s.sig.committedKeys ∧
    (scrubWork s).1.sig.loadedKeys = s.sig.loadedKeys ∧ (scrubWork s).1.sig.keysSet = s.sig.keysSet ∧
    (scrubWork s).1.sig.s = s.sig.s ∧ (scrubWork s).1.sig.walk = s.sig.walk ∧ (scrubWork s).1.sig.cursor = s.sig.cursor ∧
    (scrubWork s).1.sig.acc = s.sig.acc ∧ (scrubWork s).1.sig.poisoned = s.sig.poisoned ∧
    (scrubWork s).1.sig.overflow = s.sig.overflow ∧ (scrubWork s).1.jnl = s.jnl ∧ (scrubWork s).1.vote = s.vote ∧
    (scrubWork s).1.link1 = s.link1 ∧ (scrubWork s).1.link2 = s.link2 ∧ (scrubWork s).1.repair = s.repair ∧
    (scrubWork s).1.mgmt = s.mgmt ∧ (scrubWork s).1.ev.health = s.ev.health ∧
    (scrubWork s).1.ev.faultLatch = s.ev.faultLatch ∧ (scrubWork s).1.ev.producer = s.ev.producer ∧
    (scrubWork s).1.ev.consumer = s.ev.consumer ∧ (scrubWork s).1.ev.kinds = s.ev.kinds ∧
    (scrubWork s).1.ev.intBusy = s.ev.intBusy ∧ (scrubWork s).1.ev.intLevel = s.ev.intLevel ∧ (scrubWork s).1.out = s.out ∧
    (scrubWork s).1.pending = s.pending := by
  simp only [scrubWork] <;> (repeat' split) <;> simp

@[simp] theorem scrubBody_keeps (s : State) :
    (scrubBody s).csr.committed = s.csr.committed ∧ (scrubBody s).csr.c = s.csr.c ∧ (scrubBody s).port = s.port ∧
    (scrubBody s).arb = s.arb ∧ (scrubBody s).regions = s.regions ∧ (scrubBody s).scrub.proof = s.scrub.proof ∧
    (scrubBody s).scrub.init = s.scrub.init ∧ (scrubBody s).spare.op = s.spare.op ∧
    (scrubBody s).spare.remap = s.spare.remap ∧ (scrubBody s).sig.committedKeys = s.sig.committedKeys ∧
    (scrubBody s).sig.loadedKeys = s.sig.loadedKeys ∧ (scrubBody s).sig.keysSet = s.sig.keysSet ∧
    (scrubBody s).sig.s = s.sig.s ∧ (scrubBody s).repair.dc = s.repair.dc ∧ (scrubBody s).repair.dv = s.repair.dv ∧
    (scrubBody s).repair.dO = s.repair.dO ∧ (scrubBody s).repair.dcValid = s.repair.dcValid ∧ (scrubBody s).mgmt = s.mgmt ∧
    (scrubBody s).ev.health = s.ev.health ∧ (scrubBody s).ev.producer = s.ev.producer ∧
    (scrubBody s).ev.consumer = s.ev.consumer ∧ (scrubBody s).ev.kinds = s.ev.kinds ∧
    (scrubBody s).ev.intBusy = s.ev.intBusy ∧ (scrubBody s).ev.intLevel = s.ev.intLevel ∧
    (scrubBody s).out.responses = s.out.responses ∧ (scrubBody s).pending = s.pending := by
  simp only [scrubBody] <;> (repeat' split) <;> simp

@[simp] theorem proofEnds_keeps (st : ProofStatus) (v : Word) (s : State) :
    (proofEnds st v s).mem = s.mem ∧ (proofEnds st v s).csr = s.csr ∧ (proofEnds st v s).port = s.port ∧
    (proofEnds st v s).arb = s.arb ∧ (proofEnds st v s).regions = s.regions ∧ (proofEnds st v s).counters = s.counters ∧
    (proofEnds st v s).scrub.line = s.scrub.line ∧ (proofEnds st v s).scrub.word = s.scrub.word ∧
    (proofEnds st v s).scrub.passCount = s.scrub.passCount ∧ (proofEnds st v s).scrub.allowance = s.scrub.allowance ∧
    (proofEnds st v s).scrub.init = s.scrub.init ∧ (proofEnds st v s).spare = s.spare ∧ (proofEnds st v s).sig = s.sig ∧
    (proofEnds st v s).jnl = s.jnl ∧ (proofEnds st v s).vote = s.vote ∧ (proofEnds st v s).link1 = s.link1 ∧
    (proofEnds st v s).link2 = s.link2 ∧ (proofEnds st v s).repair = s.repair ∧ (proofEnds st v s).mgmt = s.mgmt ∧
    (proofEnds st v s).ev.health = s.ev.health ∧ (proofEnds st v s).ev.faultLatch = s.ev.faultLatch ∧
    (proofEnds st v s).ev.producer = s.ev.producer ∧ (proofEnds st v s).ev.consumer = s.ev.consumer ∧
    (proofEnds st v s).ev.kinds = s.ev.kinds ∧ (proofEnds st v s).ev.intBusy = s.ev.intBusy ∧
    (proofEnds st v s).ev.intLevel = s.ev.intLevel ∧ (proofEnds st v s).out = s.out ∧
    (proofEnds st v s).pending = s.pending := by
  simp only [proofEnds] <;> (repeat' split) <;> simp

@[simp] theorem proofFault_keeps (a : Nat) (expected found : Word) (how : FaultOutcome) (s : State) :
    (proofFault a expected found how s).mem = s.mem ∧ (proofFault a expected found how s).csr = s.csr ∧
    (proofFault a expected found how s).port = s.port ∧ (proofFault a expected found how s).arb = s.arb ∧
    (proofFault a expected found how s).regions = s.regions ∧ (proofFault a expected found how s).counters = s.counters ∧
    (proofFault a expected found how s).scrub.line = s.scrub.line ∧
    (proofFault a expected found how s).scrub.word = s.scrub.word ∧
    (proofFault a expected found how s).scrub.passCount = s.scrub.passCount ∧
    (proofFault a expected found how s).scrub.allowance = s.scrub.allowance ∧
    (proofFault a expected found how s).scrub.init = s.scrub.init ∧ (proofFault a expected found how s).spare = s.spare ∧
    (proofFault a expected found how s).sig = s.sig ∧ (proofFault a expected found how s).jnl = s.jnl ∧
    (proofFault a expected found how s).vote = s.vote ∧ (proofFault a expected found how s).link1 = s.link1 ∧
    (proofFault a expected found how s).link2 = s.link2 ∧ (proofFault a expected found how s).repair = s.repair ∧
    (proofFault a expected found how s).mgmt = s.mgmt ∧ (proofFault a expected found how s).ev.health = s.ev.health ∧
    (proofFault a expected found how s).ev.faultLatch = s.ev.faultLatch ∧
    (proofFault a expected found how s).ev.producer = s.ev.producer ∧
    (proofFault a expected found how s).ev.consumer = s.ev.consumer ∧
    (proofFault a expected found how s).ev.kinds = s.ev.kinds ∧
    (proofFault a expected found how s).ev.intBusy = s.ev.intBusy ∧
    (proofFault a expected found how s).ev.intLevel = s.ev.intLevel ∧ (proofFault a expected found how s).out = s.out ∧
    (proofFault a expected found how s).pending = s.pending := by
  simp only [proofFault] <;> (repeat' split) <;> simp

@[simp] theorem proofNext_keeps (s : State) :
    (proofNext s).mem = s.mem ∧ (proofNext s).csr = s.csr ∧ (proofNext s).port = s.port ∧ (proofNext s).arb = s.arb ∧
    (proofNext s).regions = s.regions ∧ (proofNext s).counters = s.counters ∧ (proofNext s).scrub.line = s.scrub.line ∧
    (proofNext s).scrub.word = s.scrub.word ∧ (proofNext s).scrub.passCount = s.scrub.passCount ∧
    (proofNext s).scrub.allowance = s.scrub.allowance ∧ (proofNext s).scrub.init = s.scrub.init ∧
    (proofNext s).spare = s.spare ∧ (proofNext s).sig = s.sig ∧ (proofNext s).jnl = s.jnl ∧ (proofNext s).vote = s.vote ∧
    (proofNext s).link1 = s.link1 ∧ (proofNext s).link2 = s.link2 ∧ (proofNext s).repair = s.repair ∧
    (proofNext s).mgmt = s.mgmt ∧ (proofNext s).ev.health = s.ev.health ∧ (proofNext s).ev.faultLatch = s.ev.faultLatch ∧
    (proofNext s).ev.producer = s.ev.producer ∧ (proofNext s).ev.consumer = s.ev.consumer ∧
    (proofNext s).ev.kinds = s.ev.kinds ∧ (proofNext s).ev.intBusy = s.ev.intBusy ∧
    (proofNext s).ev.intLevel = s.ev.intLevel ∧ (proofNext s).out = s.out ∧ (proofNext s).pending = s.pending := by
  simp only [proofNext] <;> (repeat' split) <;> simp

@[simp] theorem proofBody_keeps (s : State) :
    (proofBody s).csr.committed = s.csr.committed ∧ (proofBody s).csr.c = s.csr.c ∧ (proofBody s).port = s.port ∧
    (proofBody s).arb = s.arb ∧ (proofBody s).regions = s.regions ∧ (proofBody s).scrub.line = s.scrub.line ∧
    (proofBody s).scrub.word = s.scrub.word ∧ (proofBody s).scrub.passCount = s.scrub.passCount ∧
    (proofBody s).scrub.allowance = s.scrub.allowance ∧ (proofBody s).scrub.init = s.scrub.init ∧
    (proofBody s).spare.op = s.spare.op ∧ (proofBody s).spare.remap = s.spare.remap ∧
    (proofBody s).sig.committedKeys = s.sig.committedKeys ∧ (proofBody s).sig.loadedKeys = s.sig.loadedKeys ∧
    (proofBody s).sig.keysSet = s.sig.keysSet ∧ (proofBody s).sig.s = s.sig.s ∧ (proofBody s).repair.dc = s.repair.dc ∧
    (proofBody s).repair.dv = s.repair.dv ∧ (proofBody s).repair.dO = s.repair.dO ∧
    (proofBody s).repair.dcValid = s.repair.dcValid ∧ (proofBody s).mgmt = s.mgmt ∧ (proofBody s).ev.health = s.ev.health ∧
    (proofBody s).ev.producer = s.ev.producer ∧ (proofBody s).ev.consumer = s.ev.consumer ∧
    (proofBody s).ev.kinds = s.ev.kinds ∧ (proofBody s).ev.intBusy = s.ev.intBusy ∧
    (proofBody s).ev.intLevel = s.ev.intLevel ∧ (proofBody s).out.responses = s.out.responses ∧
    (proofBody s).pending = s.pending := by
  simp only [proofBody] <;> (repeat' split) <;> simp

@[simp] theorem initEnds_keeps (st : InitStatus) (detail : Nat) (s : State) :
    (initEnds st detail s).mem = s.mem ∧ (initEnds st detail s).csr = s.csr ∧ (initEnds st detail s).port = s.port ∧
    (initEnds st detail s).arb = s.arb ∧ (initEnds st detail s).regions = s.regions ∧
    (initEnds st detail s).counters = s.counters ∧ (initEnds st detail s).scrub.line = s.scrub.line ∧
    (initEnds st detail s).scrub.word = s.scrub.word ∧ (initEnds st detail s).scrub.passCount = s.scrub.passCount ∧
    (initEnds st detail s).scrub.allowance = s.scrub.allowance ∧ (initEnds st detail s).scrub.proof = s.scrub.proof ∧
    (initEnds st detail s).spare = s.spare ∧ (initEnds st detail s).sig = s.sig ∧ (initEnds st detail s).jnl = s.jnl ∧
    (initEnds st detail s).vote = s.vote ∧ (initEnds st detail s).link1 = s.link1 ∧ (initEnds st detail s).link2 = s.link2 ∧
    (initEnds st detail s).repair = s.repair ∧ (initEnds st detail s).mgmt = s.mgmt ∧
    (initEnds st detail s).ev.health = s.ev.health ∧ (initEnds st detail s).ev.faultLatch = s.ev.faultLatch ∧
    (initEnds st detail s).ev.producer = s.ev.producer ∧ (initEnds st detail s).ev.consumer = s.ev.consumer ∧
    (initEnds st detail s).ev.kinds = s.ev.kinds ∧ (initEnds st detail s).ev.intBusy = s.ev.intBusy ∧
    (initEnds st detail s).ev.intLevel = s.ev.intLevel ∧ (initEnds st detail s).out = s.out ∧
    (initEnds st detail s).pending = s.pending := by
  simp only [initEnds] <;> (repeat' split) <;> simp

@[simp] theorem initBody_keeps (s : State) :
    (initBody s).csr = s.csr ∧ (initBody s).port = s.port ∧ (initBody s).arb = s.arb ∧ (initBody s).regions = s.regions ∧
    (initBody s).counters = s.counters ∧ (initBody s).scrub.line = s.scrub.line ∧ (initBody s).scrub.word = s.scrub.word ∧
    (initBody s).scrub.passCount = s.scrub.passCount ∧ (initBody s).scrub.allowance = s.scrub.allowance ∧
    (initBody s).scrub.proof = s.scrub.proof ∧ (initBody s).spare = s.spare ∧ (initBody s).sig = s.sig ∧
    (initBody s).jnl = s.jnl ∧ (initBody s).vote = s.vote ∧ (initBody s).link1 = s.link1 ∧ (initBody s).link2 = s.link2 ∧
    (initBody s).repair = s.repair ∧ (initBody s).mgmt = s.mgmt ∧ (initBody s).ev.health = s.ev.health ∧
    (initBody s).ev.faultLatch = s.ev.faultLatch ∧ (initBody s).ev.producer = s.ev.producer ∧
    (initBody s).ev.consumer = s.ev.consumer ∧ (initBody s).ev.kinds = s.ev.kinds ∧ (initBody s).ev.intBusy = s.ev.intBusy ∧
    (initBody s).ev.intLevel = s.ev.intLevel ∧ (initBody s).out = s.out ∧ (initBody s).pending = s.pending := by
  simp only [initBody] <;> (repeat' split) <;> simp

@[simp] theorem stopEngine_keeps (s : State) :
    (stopEngine s).mem = s.mem ∧ (stopEngine s).csr = s.csr ∧ (stopEngine s).port = s.port ∧ (stopEngine s).arb = s.arb ∧
    (stopEngine s).regions = s.regions ∧ (stopEngine s).counters = s.counters ∧ (stopEngine s).scrub.line = s.scrub.line ∧
    (stopEngine s).scrub.word = s.scrub.word ∧ (stopEngine s).scrub.passCount = s.scrub.passCount ∧
    (stopEngine s).scrub.allowance = s.scrub.allowance ∧ (stopEngine s).spare = s.spare ∧ (stopEngine s).sig = s.sig ∧
    (stopEngine s).jnl = s.jnl ∧ (stopEngine s).vote = s.vote ∧ (stopEngine s).link1 = s.link1 ∧
    (stopEngine s).link2 = s.link2 ∧ (stopEngine s).repair = s.repair ∧ (stopEngine s).mgmt = s.mgmt ∧
    (stopEngine s).ev.health = s.ev.health ∧ (stopEngine s).ev.faultLatch = s.ev.faultLatch ∧
    (stopEngine s).ev.producer = s.ev.producer ∧ (stopEngine s).ev.consumer = s.ev.consumer ∧
    (stopEngine s).ev.kinds = s.ev.kinds ∧ (stopEngine s).ev.intBusy = s.ev.intBusy ∧
    (stopEngine s).ev.intLevel = s.ev.intLevel ∧ (stopEngine s).out = s.out ∧ (stopEngine s).pending = s.pending := by
  simp only [stopEngine] <;> (repeat' split) <;> simp

@[simp] theorem rebuildWords_keeps (o : Nat) (xs : List (Nat × ReadOutcome)) (s : State) :
    (rebuildWords o xs s).csr = s.csr ∧ (rebuildWords o xs s).port = s.port ∧ (rebuildWords o xs s).arb = s.arb ∧
    (rebuildWords o xs s).regions = s.regions ∧ (rebuildWords o xs s).counters = s.counters ∧
    (rebuildWords o xs s).scrub = s.scrub ∧ (rebuildWords o xs s).spare = s.spare ∧
    (rebuildWords o xs s).sig.committedKeys = s.sig.committedKeys ∧
    (rebuildWords o xs s).sig.loadedKeys = s.sig.loadedKeys ∧ (rebuildWords o xs s).sig.keysSet = s.sig.keysSet ∧
    (rebuildWords o xs s).sig.s = s.sig.s ∧ (rebuildWords o xs s).sig.valid = s.sig.valid ∧
    (rebuildWords o xs s).sig.walk = s.sig.walk ∧ (rebuildWords o xs s).sig.cursor = s.sig.cursor ∧
    (rebuildWords o xs s).jnl = s.jnl ∧ (rebuildWords o xs s).vote = s.vote ∧ (rebuildWords o xs s).link1 = s.link1 ∧
    (rebuildWords o xs s).link2 = s.link2 ∧ (rebuildWords o xs s).repair = s.repair ∧ (rebuildWords o xs s).mgmt = s.mgmt ∧
    (rebuildWords o xs s).ev = s.ev ∧ (rebuildWords o xs s).out = s.out ∧ (rebuildWords o xs s).pending = s.pending := by
  induction xs generalizing s with
  | nil => simp [rebuildWords]
  | cons x xs ih =>
    rcases x with ⟨_, _ | _ | _⟩ <;> simp [rebuildWords, ih]

@[simp] theorem sealComplete_keeps (s : State) :
    (sealComplete s).mem = s.mem ∧ (sealComplete s).port = s.port ∧ (sealComplete s).arb = s.arb ∧
    (sealComplete s).regions = s.regions ∧ (sealComplete s).counters = s.counters ∧ (sealComplete s).scrub = s.scrub ∧
    (sealComplete s).spare = s.spare ∧ (sealComplete s).sig.committedKeys = s.sig.committedKeys ∧
    (sealComplete s).sig.loadedKeys = s.sig.loadedKeys ∧ (sealComplete s).sig.keysSet = s.sig.keysSet ∧
    (sealComplete s).sig.poisoned = s.sig.poisoned ∧ (sealComplete s).sig.overflow = s.sig.overflow ∧
    (sealComplete s).jnl.rb = s.jnl.rb ∧ (sealComplete s).vote.record = s.vote.record ∧ (sealComplete s).link1 = s.link1 ∧
    (sealComplete s).link2 = s.link2 ∧ (sealComplete s).repair.role = s.repair.role ∧
    (sealComplete s).repair.r = s.repair.r ∧ (sealComplete s).mgmt = s.mgmt ∧ (sealComplete s).ev.health = s.ev.health ∧
    (sealComplete s).ev.faultLatch = s.ev.faultLatch ∧ (sealComplete s).ev.producer = s.ev.producer ∧
    (sealComplete s).ev.consumer = s.ev.consumer ∧ (sealComplete s).ev.kinds = s.ev.kinds ∧
    (sealComplete s).ev.intBusy = s.ev.intBusy ∧ (sealComplete s).ev.intLevel = s.ev.intLevel ∧
    (sealComplete s).out = s.out ∧ (sealComplete s).pending = s.pending := by
  simp only [sealComplete] <;> (repeat' split) <;> simp

@[simp] theorem preparationComplete_keeps (s : State) :
    (preparationComplete s).mem = s.mem ∧ (preparationComplete s).csr = s.csr ∧ (preparationComplete s).port = s.port ∧
    (preparationComplete s).arb = s.arb ∧ (preparationComplete s).regions = s.regions ∧
    (preparationComplete s).counters = s.counters ∧ (preparationComplete s).scrub = s.scrub ∧
    (preparationComplete s).spare = s.spare ∧ (preparationComplete s).sig.committedKeys = s.sig.committedKeys ∧
    (preparationComplete s).sig.loadedKeys = s.sig.loadedKeys ∧ (preparationComplete s).sig.keysSet = s.sig.keysSet ∧
    (preparationComplete s).sig.poisoned = s.sig.poisoned ∧ (preparationComplete s).sig.overflow = s.sig.overflow ∧
    (preparationComplete s).jnl = s.jnl ∧ (preparationComplete s).vote.record = s.vote.record ∧
    (preparationComplete s).vote.skewReported = s.vote.skewReported ∧ (preparationComplete s).repair.dc = s.repair.dc ∧
    (preparationComplete s).repair.dv = s.repair.dv ∧ (preparationComplete s).repair.dO = s.repair.dO ∧
    (preparationComplete s).repair.r = s.repair.r ∧ (preparationComplete s).repair.dcValid = s.repair.dcValid ∧
    (preparationComplete s).mgmt = s.mgmt ∧ (preparationComplete s).ev.health = s.ev.health ∧
    (preparationComplete s).ev.faultLatch = s.ev.faultLatch ∧ (preparationComplete s).ev.producer = s.ev.producer ∧
    (preparationComplete s).ev.consumer = s.ev.consumer ∧ (preparationComplete s).ev.kinds = s.ev.kinds ∧
    (preparationComplete s).ev.intBusy = s.ev.intBusy ∧ (preparationComplete s).ev.intLevel = s.ev.intLevel ∧
    (preparationComplete s).out.responses = s.out.responses ∧ (preparationComplete s).pending = s.pending := by
  simp only [preparationComplete] <;> (repeat' split) <;> simp

@[simp] theorem walkDone_keeps (s : State) :
    (walkDone s).mem = s.mem ∧ (walkDone s).port = s.port ∧ (walkDone s).arb = s.arb ∧ (walkDone s).regions = s.regions ∧
    (walkDone s).counters = s.counters ∧ (walkDone s).scrub = s.scrub ∧ (walkDone s).spare = s.spare ∧
    (walkDone s).sig.committedKeys = s.sig.committedKeys ∧ (walkDone s).sig.loadedKeys = s.sig.loadedKeys ∧
    (walkDone s).sig.keysSet = s.sig.keysSet ∧ (walkDone s).sig.poisoned = s.sig.poisoned ∧
    (walkDone s).sig.overflow = s.sig.overflow ∧ (walkDone s).jnl.rb = s.jnl.rb ∧ (walkDone s).vote.record = s.vote.record ∧
    (walkDone s).repair.r = s.repair.r ∧ (walkDone s).mgmt = s.mgmt ∧ (walkDone s).ev.health = s.ev.health ∧
    (walkDone s).ev.faultLatch = s.ev.faultLatch ∧ (walkDone s).ev.producer = s.ev.producer ∧
    (walkDone s).ev.consumer = s.ev.consumer ∧ (walkDone s).ev.kinds = s.ev.kinds ∧ (walkDone s).ev.intBusy = s.ev.intBusy ∧
    (walkDone s).ev.intLevel = s.ev.intLevel ∧ (walkDone s).out.responses = s.out.responses ∧
    (walkDone s).pending = s.pending := by
  simp only [walkDone] <;> (repeat' split) <;> simp

@[simp] theorem rebuildBody_keeps (s : State) :
    (rebuildBody s).port = s.port ∧ (rebuildBody s).arb = s.arb ∧ (rebuildBody s).regions = s.regions ∧
    (rebuildBody s).scrub = s.scrub ∧ (rebuildBody s).spare.op = s.spare.op ∧ (rebuildBody s).spare.remap = s.spare.remap ∧
    (rebuildBody s).sig.committedKeys = s.sig.committedKeys ∧ (rebuildBody s).sig.loadedKeys = s.sig.loadedKeys ∧
    (rebuildBody s).sig.keysSet = s.sig.keysSet ∧ (rebuildBody s).mgmt = s.mgmt ∧ (rebuildBody s).ev.health = s.ev.health ∧
    (rebuildBody s).ev.producer = s.ev.producer ∧ (rebuildBody s).ev.consumer = s.ev.consumer ∧
    (rebuildBody s).ev.kinds = s.ev.kinds ∧ (rebuildBody s).ev.intBusy = s.ev.intBusy ∧
    (rebuildBody s).ev.intLevel = s.ev.intLevel ∧ (rebuildBody s).out.responses = s.out.responses ∧
    (rebuildBody s).pending = s.pending := by
  simp only [rebuildBody] <;> (repeat' split) <;> simp

@[simp] theorem finishRollback_keeps (stop : Option Nat) (s : State) :
    (finishRollback stop s).mem = s.mem ∧ (finishRollback stop s).port = s.port ∧ (finishRollback stop s).arb = s.arb ∧
    (finishRollback stop s).regions = s.regions ∧ (finishRollback stop s).counters = s.counters ∧
    (finishRollback stop s).scrub = s.scrub ∧ (finishRollback stop s).spare = s.spare ∧
    (finishRollback stop s).sig.committedKeys = s.sig.committedKeys ∧
    (finishRollback stop s).sig.loadedKeys = s.sig.loadedKeys ∧ (finishRollback stop s).sig.keysSet = s.sig.keysSet ∧
    (finishRollback stop s).sig.s = s.sig.s ∧ (finishRollback stop s).mgmt = s.mgmt ∧
    (finishRollback stop s).ev.health = s.ev.health ∧ (finishRollback stop s).ev.producer = s.ev.producer ∧
    (finishRollback stop s).ev.consumer = s.ev.consumer ∧ (finishRollback stop s).ev.kinds = s.ev.kinds ∧
    (finishRollback stop s).ev.intBusy = s.ev.intBusy ∧ (finishRollback stop s).ev.intLevel = s.ev.intLevel ∧
    (finishRollback stop s).out.responses = s.out.responses ∧ (finishRollback stop s).pending = s.pending := by
  simp only [finishRollback] <;> (repeat' split) <;> simp

@[simp] theorem rollbackPointers_keeps (i : Nat) (s : State) :
    (rollbackPointers i s).mem = s.mem ∧ (rollbackPointers i s).csr = s.csr ∧ (rollbackPointers i s).port = s.port ∧
    (rollbackPointers i s).arb = s.arb ∧ (rollbackPointers i s).regions = s.regions ∧
    (rollbackPointers i s).counters = s.counters ∧ (rollbackPointers i s).scrub = s.scrub ∧
    (rollbackPointers i s).spare = s.spare ∧ (rollbackPointers i s).sig = s.sig ∧
    (rollbackPointers i s).jnl.head = s.jnl.head ∧ (rollbackPointers i s).jnl.votingPresent = s.jnl.votingPresent ∧
    (rollbackPointers i s).jnl.votingOver = s.jnl.votingOver ∧ (rollbackPointers i s).jnl.openOver = s.jnl.openOver ∧
    (rollbackPointers i s).vote = s.vote ∧ (rollbackPointers i s).link1 = s.link1 ∧ (rollbackPointers i s).link2 = s.link2 ∧
    (rollbackPointers i s).repair = s.repair ∧ (rollbackPointers i s).mgmt = s.mgmt ∧ (rollbackPointers i s).ev = s.ev ∧
    (rollbackPointers i s).out = s.out ∧ (rollbackPointers i s).pending = s.pending := by
  simp only [rollbackPointers] <;> (repeat' split) <;> simp

@[simp] theorem rollbackIfDone_keeps (s : State) :
    (rollbackIfDone s).mem = s.mem ∧ (rollbackIfDone s).port = s.port ∧ (rollbackIfDone s).arb = s.arb ∧
    (rollbackIfDone s).regions = s.regions ∧ (rollbackIfDone s).counters = s.counters ∧ (rollbackIfDone s).scrub = s.scrub ∧
    (rollbackIfDone s).spare = s.spare ∧ (rollbackIfDone s).sig.committedKeys = s.sig.committedKeys ∧
    (rollbackIfDone s).sig.loadedKeys = s.sig.loadedKeys ∧ (rollbackIfDone s).sig.keysSet = s.sig.keysSet ∧
    (rollbackIfDone s).sig.s = s.sig.s ∧ (rollbackIfDone s).mgmt = s.mgmt ∧ (rollbackIfDone s).ev.health = s.ev.health ∧
    (rollbackIfDone s).ev.producer = s.ev.producer ∧ (rollbackIfDone s).ev.consumer = s.ev.consumer ∧
    (rollbackIfDone s).ev.kinds = s.ev.kinds ∧ (rollbackIfDone s).ev.intBusy = s.ev.intBusy ∧
    (rollbackIfDone s).ev.intLevel = s.ev.intLevel ∧ (rollbackIfDone s).out.responses = s.out.responses ∧
    (rollbackIfDone s).pending = s.pending := by
  simp only [rollbackIfDone] <;> (repeat' split) <;> simp

@[simp] theorem undoEntry_keeps (i a : Nat) (v : Word) (s : State) :
    (undoEntry i a v s).port = s.port ∧ (undoEntry i a v s).arb = s.arb ∧ (undoEntry i a v s).regions = s.regions ∧
    (undoEntry i a v s).scrub = s.scrub ∧ (undoEntry i a v s).spare.op = s.spare.op ∧
    (undoEntry i a v s).spare.remap = s.spare.remap ∧ (undoEntry i a v s).sig.committedKeys = s.sig.committedKeys ∧
    (undoEntry i a v s).sig.loadedKeys = s.sig.loadedKeys ∧ (undoEntry i a v s).sig.keysSet = s.sig.keysSet ∧
    (undoEntry i a v s).mgmt = s.mgmt ∧ (undoEntry i a v s).ev.health = s.ev.health ∧
    (undoEntry i a v s).ev.producer = s.ev.producer ∧ (undoEntry i a v s).ev.consumer = s.ev.consumer ∧
    (undoEntry i a v s).ev.kinds = s.ev.kinds ∧ (undoEntry i a v s).ev.intBusy = s.ev.intBusy ∧
    (undoEntry i a v s).ev.intLevel = s.ev.intLevel ∧ (undoEntry i a v s).out.responses = s.out.responses ∧
    (undoEntry i a v s).pending = s.pending := by
  simp only [undoEntry] <;> (repeat' split) <;> simp

@[simp] theorem rollbackBody_keeps (s : State) :
    (rollbackBody s).port = s.port ∧ (rollbackBody s).arb = s.arb ∧ (rollbackBody s).regions = s.regions ∧
    (rollbackBody s).scrub = s.scrub ∧ (rollbackBody s).spare.op = s.spare.op ∧
    (rollbackBody s).spare.remap = s.spare.remap ∧ (rollbackBody s).sig.committedKeys = s.sig.committedKeys ∧
    (rollbackBody s).sig.loadedKeys = s.sig.loadedKeys ∧ (rollbackBody s).sig.keysSet = s.sig.keysSet ∧
    (rollbackBody s).mgmt = s.mgmt ∧ (rollbackBody s).ev.health = s.ev.health ∧
    (rollbackBody s).ev.producer = s.ev.producer ∧ (rollbackBody s).ev.consumer = s.ev.consumer ∧
    (rollbackBody s).ev.kinds = s.ev.kinds ∧ (rollbackBody s).ev.intBusy = s.ev.intBusy ∧
    (rollbackBody s).ev.intLevel = s.ev.intLevel ∧ (rollbackBody s).out.responses = s.out.responses ∧
    (rollbackBody s).pending = s.pending := by
  simp only [rollbackBody] <;> (repeat' split) <;> simp

@[simp] theorem raiseInt_keeps (k : EventKind) (s : State) :
    (raiseInt k s).mem = s.mem ∧ (raiseInt k s).csr = s.csr ∧ (raiseInt k s).port = s.port ∧ (raiseInt k s).arb = s.arb ∧
    (raiseInt k s).regions = s.regions ∧ (raiseInt k s).counters = s.counters ∧ (raiseInt k s).scrub = s.scrub ∧
    (raiseInt k s).spare = s.spare ∧ (raiseInt k s).sig = s.sig ∧ (raiseInt k s).jnl = s.jnl ∧
    (raiseInt k s).vote = s.vote ∧ (raiseInt k s).link1 = s.link1 ∧ (raiseInt k s).link2 = s.link2 ∧
    (raiseInt k s).repair = s.repair ∧ (raiseInt k s).mgmt = s.mgmt ∧ (raiseInt k s).ev.health = s.ev.health ∧
    (raiseInt k s).ev.faultLatch = s.ev.faultLatch ∧ (raiseInt k s).ev.producer = s.ev.producer ∧
    (raiseInt k s).ev.consumer = s.ev.consumer ∧ (raiseInt k s).ev.kinds = s.ev.kinds ∧
    (raiseInt k s).ev.waiting = s.ev.waiting ∧ (raiseInt k s).ev.withheld = s.ev.withheld ∧ (raiseInt k s).out = s.out ∧
    (raiseInt k s).pending = s.pending := by
  simp only [raiseInt] <;> (repeat' split) <;> simp

@[simp] theorem eventBody_keeps (s : State) :
    (eventBody s).csr = s.csr ∧ (eventBody s).port = s.port ∧ (eventBody s).arb = s.arb ∧
    (eventBody s).regions = s.regions ∧ (eventBody s).counters = s.counters ∧ (eventBody s).scrub = s.scrub ∧
    (eventBody s).spare = s.spare ∧ (eventBody s).sig = s.sig ∧ (eventBody s).jnl = s.jnl ∧ (eventBody s).vote = s.vote ∧
    (eventBody s).link1 = s.link1 ∧ (eventBody s).link2 = s.link2 ∧ (eventBody s).repair = s.repair ∧
    (eventBody s).mgmt = s.mgmt ∧ (eventBody s).ev.health = s.ev.health ∧ (eventBody s).ev.faultLatch = s.ev.faultLatch ∧
    (eventBody s).ev.consumer = s.ev.consumer ∧ (eventBody s).ev.withheld = s.ev.withheld ∧ (eventBody s).out = s.out ∧
    (eventBody s).pending = s.pending := by
  simp only [eventBody] <;> (repeat' split) <;> simp

@[simp] theorem handCaptured_keeps (r : SourceRole) (f : LineFrame) (s : State) :
    (handCaptured r f s).mem = s.mem ∧ (handCaptured r f s).csr = s.csr ∧ (handCaptured r f s).port = s.port ∧
    (handCaptured r f s).arb = s.arb ∧ (handCaptured r f s).regions = s.regions ∧
    (handCaptured r f s).counters = s.counters ∧ (handCaptured r f s).scrub = s.scrub ∧
    (handCaptured r f s).spare = s.spare ∧ (handCaptured r f s).sig = s.sig ∧ (handCaptured r f s).jnl = s.jnl ∧
    (handCaptured r f s).vote.record = s.vote.record ∧ (handCaptured r f s).vote.skewReported = s.vote.skewReported ∧
    (handCaptured r f s).repair.dc = s.repair.dc ∧ (handCaptured r f s).repair.dv = s.repair.dv ∧
    (handCaptured r f s).repair.dO = s.repair.dO ∧ (handCaptured r f s).repair.r = s.repair.r ∧
    (handCaptured r f s).repair.dcValid = s.repair.dcValid ∧ (handCaptured r f s).mgmt = s.mgmt ∧
    (handCaptured r f s).ev = s.ev ∧ (handCaptured r f s).out.responses = s.out.responses ∧
    (handCaptured r f s).pending = s.pending := by
  simp only [handCaptured] <;> (repeat' split) <;> simp

@[simp] theorem captureWork_keeps (s : State) :
    (captureWork s).1.csr = s.csr ∧ (captureWork s).1.port = s.port ∧ (captureWork s).1.arb = s.arb ∧
    (captureWork s).1.regions = s.regions ∧ (captureWork s).1.scrub = s.scrub ∧ (captureWork s).1.spare.op = s.spare.op ∧
    (captureWork s).1.spare.remap = s.spare.remap ∧ (captureWork s).1.sig.committedKeys = s.sig.committedKeys ∧
    (captureWork s).1.sig.loadedKeys = s.sig.loadedKeys ∧ (captureWork s).1.sig.keysSet = s.sig.keysSet ∧
    (captureWork s).1.sig.s = s.sig.s ∧ (captureWork s).1.sig.walk = s.sig.walk ∧
    (captureWork s).1.sig.cursor = s.sig.cursor ∧ (captureWork s).1.sig.acc = s.sig.acc ∧
    (captureWork s).1.sig.poisoned = s.sig.poisoned ∧ (captureWork s).1.sig.overflow = s.sig.overflow ∧
    (captureWork s).1.jnl = s.jnl ∧ (captureWork s).1.vote.record = s.vote.record ∧
    (captureWork s).1.vote.skewReported = s.vote.skewReported ∧ (captureWork s).1.repair.dc = s.repair.dc ∧
    (captureWork s).1.repair.dv = s.repair.dv ∧ (captureWork s).1.repair.dO = s.repair.dO ∧
    (captureWork s).1.repair.dcValid = s.repair.dcValid ∧ (captureWork s).1.mgmt = s.mgmt ∧
    (captureWork s).1.ev.health = s.ev.health ∧ (captureWork s).1.ev.faultLatch = s.ev.faultLatch ∧
    (captureWork s).1.ev.producer = s.ev.producer ∧ (captureWork s).1.ev.consumer = s.ev.consumer ∧
    (captureWork s).1.ev.kinds = s.ev.kinds ∧ (captureWork s).1.ev.intBusy = s.ev.intBusy ∧
    (captureWork s).1.ev.intLevel = s.ev.intLevel ∧ (captureWork s).1.out.responses = s.out.responses ∧
    (captureWork s).1.pending = s.pending := by
  simp only [captureWork] <;> (repeat' split) <;> simp

@[simp] theorem captureBody_keeps (s : State) :
    (captureBody s).csr.committed = s.csr.committed ∧ (captureBody s).csr.c = s.csr.c ∧ (captureBody s).port = s.port ∧
    (captureBody s).arb = s.arb ∧ (captureBody s).regions = s.regions ∧ (captureBody s).scrub = s.scrub ∧
    (captureBody s).spare.op = s.spare.op ∧ (captureBody s).spare.remap = s.spare.remap ∧
    (captureBody s).sig.committedKeys = s.sig.committedKeys ∧ (captureBody s).sig.loadedKeys = s.sig.loadedKeys ∧
    (captureBody s).sig.keysSet = s.sig.keysSet ∧ (captureBody s).sig.s = s.sig.s ∧
    (captureBody s).repair.dc = s.repair.dc ∧ (captureBody s).repair.dv = s.repair.dv ∧
    (captureBody s).repair.dO = s.repair.dO ∧ (captureBody s).repair.dcValid = s.repair.dcValid ∧
    (captureBody s).mgmt = s.mgmt ∧ (captureBody s).ev.health = s.ev.health ∧ (captureBody s).ev.producer = s.ev.producer ∧
    (captureBody s).ev.consumer = s.ev.consumer ∧ (captureBody s).ev.kinds = s.ev.kinds ∧
    (captureBody s).ev.intBusy = s.ev.intBusy ∧ (captureBody s).ev.intLevel = s.ev.intLevel ∧
    (captureBody s).out.responses = s.out.responses ∧ (captureBody s).pending = s.pending := by
  simp only [captureBody] <;> (repeat' split) <;> simp

@[simp] theorem countLine_keeps (s : State) :
    (countLine s).mem = s.mem ∧ (countLine s).csr = s.csr ∧ (countLine s).port = s.port ∧ (countLine s).arb = s.arb ∧
    (countLine s).regions = s.regions ∧ (countLine s).counters = s.counters ∧ (countLine s).scrub = s.scrub ∧
    (countLine s).spare = s.spare ∧ (countLine s).sig = s.sig ∧ (countLine s).jnl = s.jnl ∧ (countLine s).vote = s.vote ∧
    (countLine s).link1 = s.link1 ∧ (countLine s).link2 = s.link2 ∧ (countLine s).repair.dc = s.repair.dc ∧
    (countLine s).repair.dv = s.repair.dv ∧ (countLine s).repair.dO = s.repair.dO ∧ (countLine s).repair.r = s.repair.r ∧
    (countLine s).repair.dcValid = s.repair.dcValid ∧ (countLine s).mgmt = s.mgmt ∧ (countLine s).ev = s.ev ∧
    (countLine s).out = s.out ∧ (countLine s).pending = s.pending := by
  simp only [countLine] <;> (repeat' split) <;> simp

@[simp] theorem receiveBody_keeps (s : State) :
    (receiveBody s).csr.committed = s.csr.committed ∧ (receiveBody s).csr.c = s.csr.c ∧ (receiveBody s).port = s.port ∧
    (receiveBody s).arb = s.arb ∧ (receiveBody s).regions = s.regions ∧ (receiveBody s).scrub = s.scrub ∧
    (receiveBody s).spare.op = s.spare.op ∧ (receiveBody s).spare.remap = s.spare.remap ∧
    (receiveBody s).sig.committedKeys = s.sig.committedKeys ∧ (receiveBody s).sig.loadedKeys = s.sig.loadedKeys ∧
    (receiveBody s).sig.keysSet = s.sig.keysSet ∧ (receiveBody s).repair.dc = s.repair.dc ∧
    (receiveBody s).repair.dv = s.repair.dv ∧ (receiveBody s).repair.dO = s.repair.dO ∧
    (receiveBody s).repair.dcValid = s.repair.dcValid ∧ (receiveBody s).mgmt = s.mgmt ∧
    (receiveBody s).ev.health = s.ev.health ∧ (receiveBody s).ev.producer = s.ev.producer ∧
    (receiveBody s).ev.consumer = s.ev.consumer ∧ (receiveBody s).ev.kinds = s.ev.kinds ∧
    (receiveBody s).ev.intBusy = s.ev.intBusy ∧ (receiveBody s).ev.intLevel = s.ev.intLevel ∧
    (receiveBody s).out.responses = s.out.responses ∧ (receiveBody s).pending = s.pending := by
  simp only [receiveBody] <;> (repeat' split) <;> simp

@[simp] theorem joinerMatch_keeps (j : JoinerRole) (s : State) :
    (joinerMatch j s).mem = s.mem ∧ (joinerMatch j s).port = s.port ∧ (joinerMatch j s).arb = s.arb ∧
    (joinerMatch j s).regions = s.regions ∧ (joinerMatch j s).counters = s.counters ∧ (joinerMatch j s).scrub = s.scrub ∧
    (joinerMatch j s).spare = s.spare ∧ (joinerMatch j s).sig = s.sig ∧ (joinerMatch j s).jnl.rb = s.jnl.rb ∧
    (joinerMatch j s).vote.record = s.vote.record ∧ (joinerMatch j s).repair.r = s.repair.r ∧
    (joinerMatch j s).mgmt = s.mgmt ∧ (joinerMatch j s).ev.health = s.ev.health ∧
    (joinerMatch j s).ev.faultLatch = s.ev.faultLatch ∧ (joinerMatch j s).ev.producer = s.ev.producer ∧
    (joinerMatch j s).ev.consumer = s.ev.consumer ∧ (joinerMatch j s).ev.kinds = s.ev.kinds ∧
    (joinerMatch j s).ev.intBusy = s.ev.intBusy ∧ (joinerMatch j s).ev.intLevel = s.ev.intLevel ∧
    (joinerMatch j s).out.responses = s.out.responses ∧ (joinerMatch j s).pending = s.pending := by
  simp only [joinerMatch] <;> (repeat' split) <;> simp

@[simp] theorem joinerMismatch_keeps (j : JoinerRole) (s : State) :
    (joinerMismatch j s).mem = s.mem ∧ (joinerMismatch j s).csr.counter = s.csr.counter ∧
    (joinerMismatch j s).csr.committed = s.csr.committed ∧ (joinerMismatch j s).csr.c = s.csr.c ∧
    (joinerMismatch j s).port = s.port ∧ (joinerMismatch j s).arb = s.arb ∧ (joinerMismatch j s).regions = s.regions ∧
    (joinerMismatch j s).counters = s.counters ∧ (joinerMismatch j s).scrub = s.scrub ∧
    (joinerMismatch j s).spare = s.spare ∧ (joinerMismatch j s).sig.committedKeys = s.sig.committedKeys ∧
    (joinerMismatch j s).sig.loadedKeys = s.sig.loadedKeys ∧ (joinerMismatch j s).sig.keysSet = s.sig.keysSet ∧
    (joinerMismatch j s).sig.s = s.sig.s ∧ (joinerMismatch j s).sig.valid = s.sig.valid ∧ (joinerMismatch j s).jnl = s.jnl ∧
    (joinerMismatch j s).vote.record = s.vote.record ∧ (joinerMismatch j s).vote.skewReported = s.vote.skewReported ∧
    (joinerMismatch j s).repair.dc = s.repair.dc ∧ (joinerMismatch j s).repair.dv = s.repair.dv ∧
    (joinerMismatch j s).repair.dO = s.repair.dO ∧ (joinerMismatch j s).repair.r = s.repair.r ∧
    (joinerMismatch j s).repair.dcValid = s.repair.dcValid ∧ (joinerMismatch j s).mgmt = s.mgmt ∧
    (joinerMismatch j s).ev.health = s.ev.health ∧ (joinerMismatch j s).ev.faultLatch = s.ev.faultLatch ∧
    (joinerMismatch j s).ev.producer = s.ev.producer ∧ (joinerMismatch j s).ev.consumer = s.ev.consumer ∧
    (joinerMismatch j s).ev.kinds = s.ev.kinds ∧ (joinerMismatch j s).ev.intBusy = s.ev.intBusy ∧
    (joinerMismatch j s).ev.intLevel = s.ev.intLevel ∧ (joinerMismatch j s).out.responses = s.out.responses ∧
    (joinerMismatch j s).pending = s.pending := by
  simp only [joinerMismatch] <;> (repeat' split) <;> simp

@[simp] theorem giveVerdict_keeps (s : State) :
    (giveVerdict s).mem = s.mem ∧ (giveVerdict s).port = s.port ∧ (giveVerdict s).arb = s.arb ∧
    (giveVerdict s).regions = s.regions ∧ (giveVerdict s).counters = s.counters ∧ (giveVerdict s).scrub = s.scrub ∧
    (giveVerdict s).spare = s.spare ∧ (giveVerdict s).sig.committedKeys = s.sig.committedKeys ∧
    (giveVerdict s).sig.loadedKeys = s.sig.loadedKeys ∧ (giveVerdict s).sig.keysSet = s.sig.keysSet ∧
    (giveVerdict s).sig.s = s.sig.s ∧ (giveVerdict s).sig.valid = s.sig.valid ∧ (giveVerdict s).jnl.rb = s.jnl.rb ∧
    (giveVerdict s).vote.record = s.vote.record ∧ (giveVerdict s).repair.r = s.repair.r ∧ (giveVerdict s).mgmt = s.mgmt ∧
    (giveVerdict s).ev.health = s.ev.health ∧ (giveVerdict s).ev.faultLatch = s.ev.faultLatch ∧
    (giveVerdict s).ev.producer = s.ev.producer ∧ (giveVerdict s).ev.consumer = s.ev.consumer ∧
    (giveVerdict s).ev.kinds = s.ev.kinds ∧ (giveVerdict s).ev.intBusy = s.ev.intBusy ∧
    (giveVerdict s).ev.intLevel = s.ev.intLevel ∧ (giveVerdict s).out.responses = s.out.responses ∧
    (giveVerdict s).pending = s.pending := by
  simp only [giveVerdict] <;> (repeat' split) <;> simp

end Sys2Proof.Machine
end

