-- ==== Sys2Proof/Laws/Grants.lean ====
section
/-! SUPPORT. What the grants and the events over them leave as it was: for each operation one lemma that names every
part of the state it keeps. -/

namespace Sys2Proof.Machine

set_option linter.unnecessarySeqFocus false
set_option linter.unusedTactic false
set_option linter.unreachableTactic false
set_option linter.unusedSimpArgs false
@[simp] theorem answerHead_keeps (r : Response) (s : State) :
    (answerHead r s).mem = s.mem ∧ (answerHead r s).csr = s.csr ∧ (answerHead r s).port.lastRefusal = s.port.lastRefusal ∧
    (answerHead r s).port.refused = s.port.refused ∧ (answerHead r s).port.refusalReported = s.port.refusalReported ∧
    (answerHead r s).arb = s.arb ∧ (answerHead r s).regions = s.regions ∧ (answerHead r s).counters = s.counters ∧
    (answerHead r s).scrub = s.scrub ∧ (answerHead r s).spare = s.spare ∧ (answerHead r s).sig = s.sig ∧
    (answerHead r s).jnl = s.jnl ∧ (answerHead r s).vote = s.vote ∧ (answerHead r s).link1 = s.link1 ∧
    (answerHead r s).link2 = s.link2 ∧ (answerHead r s).repair = s.repair ∧ (answerHead r s).mgmt = s.mgmt ∧
    (answerHead r s).ev = s.ev ∧ (answerHead r s).out.tx1 = s.out.tx1 ∧ (answerHead r s).out.tx2 = s.out.tx2 ∧
    (answerHead r s).pending = s.pending := by
  simp only [answerHead] <;> (repeat' split) <;> simp

@[simp] theorem uncorrectableHead_keeps (t : Transaction) (bad : List Nat) (s : State) :
    (uncorrectableHead t bad s).mem = s.mem ∧ (uncorrectableHead t bad s).csr = s.csr ∧
    (uncorrectableHead t bad s).port.refused = s.port.refused ∧
    (uncorrectableHead t bad s).port.refusalReported = s.port.refusalReported ∧ (uncorrectableHead t bad s).arb = s.arb ∧
    (uncorrectableHead t bad s).regions = s.regions ∧ (uncorrectableHead t bad s).counters = s.counters ∧
    (uncorrectableHead t bad s).scrub = s.scrub ∧ (uncorrectableHead t bad s).spare = s.spare ∧
    (uncorrectableHead t bad s).sig = s.sig ∧ (uncorrectableHead t bad s).jnl = s.jnl ∧
    (uncorrectableHead t bad s).vote = s.vote ∧ (uncorrectableHead t bad s).link1 = s.link1 ∧
    (uncorrectableHead t bad s).link2 = s.link2 ∧ (uncorrectableHead t bad s).repair = s.repair ∧
    (uncorrectableHead t bad s).mgmt = s.mgmt ∧ (uncorrectableHead t bad s).ev = s.ev ∧
    (uncorrectableHead t bad s).out.tx1 = s.out.tx1 ∧ (uncorrectableHead t bad s).out.tx2 = s.out.tx2 ∧
    (uncorrectableHead t bad s).pending = s.pending := by
  simp only [uncorrectableHead] <;> (repeat' split) <;> simp

@[simp] theorem readWork_keeps (t : Transaction) (s : State) :
    (readWork t s).1.csr = s.csr ∧ (readWork t s).1.port.refused = s.port.refused ∧
    (readWork t s).1.port.refusalReported = s.port.refusalReported ∧ (readWork t s).1.arb = s.arb ∧
    (readWork t s).1.regions = s.regions ∧ (readWork t s).1.scrub = s.scrub ∧ (readWork t s).1.spare.op = s.spare.op ∧
    (readWork t s).1.spare.remap = s.spare.remap ∧ (readWork t s).1.sig.committedKeys = s.sig.committedKeys ∧
    (readWork t s).1.sig.loadedKeys = s.sig.loadedKeys ∧ (readWork t s).1.sig.keysSet = s.sig.keysSet ∧
    (readWork t s).1.sig.s = s.sig.s ∧ (readWork t s).1.sig.walk = s.sig.walk ∧ (readWork t s).1.sig.cursor = s.sig.cursor ∧
    (readWork t s).1.sig.acc = s.sig.acc ∧ (readWork t s).1.sig.poisoned = s.sig.poisoned ∧
    (readWork t s).1.sig.overflow = s.sig.overflow ∧ (readWork t s).1.jnl = s.jnl ∧ (readWork t s).1.vote = s.vote ∧
    (readWork t s).1.link1 = s.link1 ∧ (readWork t s).1.link2 = s.link2 ∧ (readWork t s).1.repair = s.repair ∧
    (readWork t s).1.mgmt = s.mgmt ∧ (readWork t s).1.ev.health = s.ev.health ∧
    (readWork t s).1.ev.faultLatch = s.ev.faultLatch ∧ (readWork t s).1.ev.producer = s.ev.producer ∧
    (readWork t s).1.ev.consumer = s.ev.consumer ∧ (readWork t s).1.ev.kinds = s.ev.kinds ∧
    (readWork t s).1.ev.intBusy = s.ev.intBusy ∧ (readWork t s).1.ev.intLevel = s.ev.intLevel ∧
    (readWork t s).1.out.tx1 = s.out.tx1 ∧ (readWork t s).1.out.tx2 = s.out.tx2 ∧ (readWork t s).1.pending = s.pending := by
  simp only [readWork] <;> (repeat' split) <;> simp

@[simp] theorem trackedWrite_keeps (o : Nat) (cs : List (Nat × Word × Word)) (s : State) :
    (trackedWrite o cs s).csr = s.csr ∧ (trackedWrite o cs s).port = s.port ∧ (trackedWrite o cs s).arb = s.arb ∧
    (trackedWrite o cs s).regions = s.regions ∧ (trackedWrite o cs s).counters = s.counters ∧
    (trackedWrite o cs s).scrub = s.scrub ∧ (trackedWrite o cs s).spare = s.spare ∧
    (trackedWrite o cs s).sig.committedKeys = s.sig.committedKeys ∧
    (trackedWrite o cs s).sig.loadedKeys = s.sig.loadedKeys ∧ (trackedWrite o cs s).sig.keysSet = s.sig.keysSet ∧
    (trackedWrite o cs s).sig.valid = s.sig.valid ∧ (trackedWrite o cs s).sig.walk = s.sig.walk ∧
    (trackedWrite o cs s).sig.cursor = s.sig.cursor ∧ (trackedWrite o cs s).sig.acc = s.sig.acc ∧
    (trackedWrite o cs s).sig.poisoned = s.sig.poisoned ∧ (trackedWrite o cs s).sig.overflow = s.sig.overflow ∧
    (trackedWrite o cs s).jnl.head = s.jnl.head ∧ (trackedWrite o cs s).jnl.boundary = s.jnl.boundary ∧
    (trackedWrite o cs s).jnl.votingCount = s.jnl.votingCount ∧
    (trackedWrite o cs s).jnl.votingPresent = s.jnl.votingPresent ∧
    (trackedWrite o cs s).jnl.votingOver = s.jnl.votingOver ∧ (trackedWrite o cs s).jnl.rb = s.jnl.rb ∧
    (trackedWrite o cs s).vote = s.vote ∧ (trackedWrite o cs s).link1 = s.link1 ∧ (trackedWrite o cs s).link2 = s.link2 ∧
    (trackedWrite o cs s).repair.role = s.repair.role ∧ (trackedWrite o cs s).repair.dc = s.repair.dc ∧
    (trackedWrite o cs s).repair.dv = s.repair.dv ∧ (trackedWrite o cs s).repair.dcValid = s.repair.dcValid ∧
    (trackedWrite o cs s).mgmt = s.mgmt ∧ (trackedWrite o cs s).ev.health = s.ev.health ∧
    (trackedWrite o cs s).ev.faultLatch = s.ev.faultLatch ∧ (trackedWrite o cs s).ev.producer = s.ev.producer ∧
    (trackedWrite o cs s).ev.consumer = s.ev.consumer ∧ (trackedWrite o cs s).ev.kinds = s.ev.kinds ∧
    (trackedWrite o cs s).ev.intBusy = s.ev.intBusy ∧ (trackedWrite o cs s).ev.intLevel = s.ev.intLevel ∧
    (trackedWrite o cs s).out = s.out ∧ (trackedWrite o cs s).pending = s.pending := by
  simp only [trackedWrite] <;> (repeat' split) <;> simp

@[simp] theorem sealingWrite_keeps (o : Nat) (cs : List (Nat × Word × Word)) (s : State) :
    (sealingWrite o cs s).csr = s.csr ∧ (sealingWrite o cs s).port = s.port ∧ (sealingWrite o cs s).arb = s.arb ∧
    (sealingWrite o cs s).regions = s.regions ∧ (sealingWrite o cs s).counters = s.counters ∧
    (sealingWrite o cs s).scrub = s.scrub ∧ (sealingWrite o cs s).spare = s.spare ∧
    (sealingWrite o cs s).sig.committedKeys = s.sig.committedKeys ∧
    (sealingWrite o cs s).sig.loadedKeys = s.sig.loadedKeys ∧ (sealingWrite o cs s).sig.keysSet = s.sig.keysSet ∧
    (sealingWrite o cs s).sig.s = s.sig.s ∧ (sealingWrite o cs s).sig.valid = s.sig.valid ∧
    (sealingWrite o cs s).sig.walk = s.sig.walk ∧ (sealingWrite o cs s).sig.cursor = s.sig.cursor ∧
    (sealingWrite o cs s).sig.poisoned = s.sig.poisoned ∧ (sealingWrite o cs s).sig.overflow = s.sig.overflow ∧
    (sealingWrite o cs s).jnl = s.jnl ∧ (sealingWrite o cs s).vote = s.vote ∧ (sealingWrite o cs s).link1 = s.link1 ∧
    (sealingWrite o cs s).link2 = s.link2 ∧ (sealingWrite o cs s).repair = s.repair ∧ (sealingWrite o cs s).mgmt = s.mgmt ∧
    (sealingWrite o cs s).ev = s.ev ∧ (sealingWrite o cs s).out = s.out ∧ (sealingWrite o cs s).pending = s.pending := by
  simp only [sealingWrite] <;> (repeat' split) <;> simp

@[simp] theorem carryOut_keeps (ordinal : Option Nat) (cs : List (Nat × Word × Word)) (s : State) :
    (carryOut ordinal cs s).csr = s.csr ∧ (carryOut ordinal cs s).port = s.port ∧ (carryOut ordinal cs s).arb = s.arb ∧
    (carryOut ordinal cs s).regions = s.regions ∧ (carryOut ordinal cs s).counters = s.counters ∧
    (carryOut ordinal cs s).scrub = s.scrub ∧ (carryOut ordinal cs s).spare = s.spare ∧
    (carryOut ordinal cs s).sig.committedKeys = s.sig.committedKeys ∧
    (carryOut ordinal cs s).sig.loadedKeys = s.sig.loadedKeys ∧ (carryOut ordinal cs s).sig.keysSet = s.sig.keysSet ∧
    (carryOut ordinal cs s).sig.valid = s.sig.valid ∧ (carryOut ordinal cs s).sig.walk = s.sig.walk ∧
    (carryOut ordinal cs s).sig.cursor = s.sig.cursor ∧ (carryOut ordinal cs s).sig.poisoned = s.sig.poisoned ∧
    (carryOut ordinal cs s).sig.overflow = s.sig.overflow ∧ (carryOut ordinal cs s).jnl.head = s.jnl.head ∧
    (carryOut ordinal cs s).jnl.boundary = s.jnl.boundary ∧ (carryOut ordinal cs s).jnl.votingCount = s.jnl.votingCount ∧
    (carryOut ordinal cs s).jnl.votingPresent = s.jnl.votingPresent ∧
    (carryOut ordinal cs s).jnl.votingOver = s.jnl.votingOver ∧ (carryOut ordinal cs s).jnl.rb = s.jnl.rb ∧
    (carryOut ordinal cs s).vote = s.vote ∧ (carryOut ordinal cs s).link1 = s.link1 ∧
    (carryOut ordinal cs s).link2 = s.link2 ∧ (carryOut ordinal cs s).repair.role = s.repair.role ∧
    (carryOut ordinal cs s).repair.dc = s.repair.dc ∧ (carryOut ordinal cs s).repair.dv = s.repair.dv ∧
    (carryOut ordinal cs s).repair.dcValid = s.repair.dcValid ∧ (carryOut ordinal cs s).mgmt = s.mgmt ∧
    (carryOut ordinal cs s).ev.health = s.ev.health ∧ (carryOut ordinal cs s).ev.faultLatch = s.ev.faultLatch ∧
    (carryOut ordinal cs s).ev.producer = s.ev.producer ∧ (carryOut ordinal cs s).ev.consumer = s.ev.consumer ∧
    (carryOut ordinal cs s).ev.kinds = s.ev.kinds ∧ (carryOut ordinal cs s).ev.intBusy = s.ev.intBusy ∧
    (carryOut ordinal cs s).ev.intLevel = s.ev.intLevel ∧ (carryOut ordinal cs s).out = s.out ∧
    (carryOut ordinal cs s).pending = s.pending := by
  simp only [carryOut] <;> (repeat' split) <;> simp

@[simp] theorem writeWork_keeps (t : Transaction) (s : State) :
    (writeWork t s).1.csr = s.csr ∧ (writeWork t s).1.port.refused = s.port.refused ∧
    (writeWork t s).1.port.refusalReported = s.port.refusalReported ∧ (writeWork t s).1.arb = s.arb ∧
    (writeWork t s).1.regions = s.regions ∧ (writeWork t s).1.scrub = s.scrub ∧ (writeWork t s).1.spare.op = s.spare.op ∧
    (writeWork t s).1.spare.remap = s.spare.remap ∧ (writeWork t s).1.sig.committedKeys = s.sig.committedKeys ∧
    (writeWork t s).1.sig.loadedKeys = s.sig.loadedKeys ∧ (writeWork t s).1.sig.keysSet = s.sig.keysSet ∧
    (writeWork t s).1.sig.walk = s.sig.walk ∧ (writeWork t s).1.sig.cursor = s.sig.cursor ∧
    (writeWork t s).1.sig.poisoned = s.sig.poisoned ∧ (writeWork t s).1.sig.overflow = s.sig.overflow ∧
    (writeWork t s).1.jnl.head = s.jnl.head ∧ (writeWork t s).1.jnl.boundary = s.jnl.boundary ∧
    (writeWork t s).1.jnl.votingCount = s.jnl.votingCount ∧ (writeWork t s).1.jnl.votingPresent = s.jnl.votingPresent ∧
    (writeWork t s).1.jnl.votingOver = s.jnl.votingOver ∧ (writeWork t s).1.jnl.rb = s.jnl.rb ∧
    (writeWork t s).1.vote = s.vote ∧ (writeWork t s).1.link1 = s.link1 ∧ (writeWork t s).1.link2 = s.link2 ∧
    (writeWork t s).1.repair.role = s.repair.role ∧ (writeWork t s).1.repair.dc = s.repair.dc ∧
    (writeWork t s).1.repair.dv = s.repair.dv ∧ (writeWork t s).1.repair.dcValid = s.repair.dcValid ∧
    (writeWork t s).1.mgmt = s.mgmt ∧ (writeWork t s).1.ev.health = s.ev.health ∧
    (writeWork t s).1.ev.faultLatch = s.ev.faultLatch ∧ (writeWork t s).1.ev.producer = s.ev.producer ∧
    (writeWork t s).1.ev.consumer = s.ev.consumer ∧ (writeWork t s).1.ev.kinds = s.ev.kinds ∧
    (writeWork t s).1.ev.intBusy = s.ev.intBusy ∧ (writeWork t s).1.ev.intLevel = s.ev.intLevel ∧
    (writeWork t s).1.out.tx1 = s.out.tx1 ∧ (writeWork t s).1.out.tx2 = s.out.tx2 ∧
    (writeWork t s).1.pending = s.pending := by
  simp only [writeWork] <;> (repeat' split) <;> simp

@[simp] theorem transactionWork_keeps (t : Transaction) (s : State) :
    (transactionWork t s).1.csr = s.csr ∧ (transactionWork t s).1.port.refused = s.port.refused ∧
    (transactionWork t s).1.port.refusalReported = s.port.refusalReported ∧ (transactionWork t s).1.arb = s.arb ∧
    (transactionWork t s).1.regions = s.regions ∧ (transactionWork t s).1.scrub = s.scrub ∧
    (transactionWork t s).1.spare.op = s.spare.op ∧ (transactionWork t s).1.spare.remap = s.spare.remap ∧
    (transactionWork t s).1.sig.committedKeys = s.sig.committedKeys ∧
    (transactionWork t s).1.sig.loadedKeys = s.sig.loadedKeys ∧ (transactionWork t s).1.sig.keysSet = s.sig.keysSet ∧
    (transactionWork t s).1.sig.walk = s.sig.walk ∧ (transactionWork t s).1.sig.cursor = s.sig.cursor ∧
    (transactionWork t s).1.sig.poisoned = s.sig.poisoned ∧ (transactionWork t s).1.sig.overflow = s.sig.overflow ∧
    (transactionWork t s).1.jnl.head = s.jnl.head ∧ (transactionWork t s).1.jnl.boundary = s.jnl.boundary ∧
    (transactionWork t s).1.jnl.votingCount = s.jnl.votingCount ∧
    (transactionWork t s).1.jnl.votingPresent = s.jnl.votingPresent ∧
    (transactionWork t s).1.jnl.votingOver = s.jnl.votingOver ∧ (transactionWork t s).1.jnl.rb = s.jnl.rb ∧
    (transactionWork t s).1.vote = s.vote ∧ (transactionWork t s).1.link1 = s.link1 ∧
    (transactionWork t s).1.link2 = s.link2 ∧ (transactionWork t s).1.repair.role = s.repair.role ∧
    (transactionWork t s).1.repair.dc = s.repair.dc ∧ (transactionWork t s).1.repair.dv = s.repair.dv ∧
    (transactionWork t s).1.repair.dcValid = s.repair.dcValid ∧ (transactionWork t s).1.mgmt = s.mgmt ∧
    (transactionWork t s).1.ev.health = s.ev.health ∧ (transactionWork t s).1.ev.faultLatch = s.ev.faultLatch ∧
    (transactionWork t s).1.ev.producer = s.ev.producer ∧ (transactionWork t s).1.ev.consumer = s.ev.consumer ∧
    (transactionWork t s).1.ev.kinds = s.ev.kinds ∧ (transactionWork t s).1.ev.intBusy = s.ev.intBusy ∧
    (transactionWork t s).1.ev.intLevel = s.ev.intLevel ∧ (transactionWork t s).1.out.tx1 = s.out.tx1 ∧
    (transactionWork t s).1.out.tx2 = s.out.tx2 ∧ (transactionWork t s).1.pending = s.pending := by
  simp only [transactionWork] <;> (repeat' split) <;> simp

@[simp] theorem headWork_keeps (s : State) :
    (headWork s).1.csr = s.csr ∧ (headWork s).1.port.refused = s.port.refused ∧
    (headWork s).1.port.refusalReported = s.port.refusalReported ∧ (headWork s).1.arb = s.arb ∧
    (headWork s).1.regions = s.regions ∧ (headWork s).1.scrub = s.scrub ∧ (headWork s).1.spare.op = s.spare.op ∧
    (headWork s).1.spare.remap = s.spare.remap ∧ (headWork s).1.sig.committedKeys = s.sig.committedKeys ∧
    (headWork s).1.sig.loadedKeys = s.sig.loadedKeys ∧ (headWork s).1.sig.keysSet = s.sig.keysSet ∧
    (headWork s).1.sig.walk = s.sig.walk ∧ (headWork s).1.sig.cursor = s.sig.cursor ∧
    (headWork s).1.sig.poisoned = s.sig.poisoned ∧ (headWork s).1.sig.overflow = s.sig.overflow ∧
    (headWork s).1.jnl.head = s.jnl.head ∧ (headWork s).1.jnl.boundary = s.jnl.boundary ∧
    (headWork s).1.jnl.votingCount = s.jnl.votingCount ∧ (headWork s).1.jnl.votingPresent = s.jnl.votingPresent ∧
    (headWork s).1.jnl.votingOver = s.jnl.votingOver ∧ (headWork s).1.jnl.rb = s.jnl.rb ∧ (headWork s).1.vote = s.vote ∧
    (headWork s).1.link1 = s.link1 ∧ (headWork s).1.link2 = s.link2 ∧ (headWork s).1.repair.role = s.repair.role ∧
    (headWork s).1.repair.dc = s.repair.dc ∧ (headWork s).1.repair.dv = s.repair.dv ∧
    (headWork s).1.repair.dcValid = s.repair.dcValid ∧ (headWork s).1.mgmt = s.mgmt ∧
    (headWork s).1.ev.health = s.ev.health ∧ (headWork s).1.ev.faultLatch = s.ev.faultLatch ∧
    (headWork s).1.ev.producer = s.ev.producer ∧ (headWork s).1.ev.consumer = s.ev.consumer ∧
    (headWork s).1.ev.kinds = s.ev.kinds ∧ (headWork s).1.ev.intBusy = s.ev.intBusy ∧
    (headWork s).1.ev.intLevel = s.ev.intLevel ∧ (headWork s).1.out.tx1 = s.out.tx1 ∧ (headWork s).1.out.tx2 = s.out.tx2 ∧
    (headWork s).1.pending = s.pending := by
  simp only [headWork] <;> (repeat' split) <;> simp

@[simp] theorem processorBody_keeps (s : State) :
    (processorBody s).csr.committed = s.csr.committed ∧ (processorBody s).csr.c = s.csr.c ∧ (processorBody s).arb = s.arb ∧
    (processorBody s).regions = s.regions ∧ (processorBody s).scrub = s.scrub ∧ (processorBody s).spare.op = s.spare.op ∧
    (processorBody s).spare.remap = s.spare.remap ∧ (processorBody s).sig.committedKeys = s.sig.committedKeys ∧
    (processorBody s).sig.loadedKeys = s.sig.loadedKeys ∧ (processorBody s).sig.keysSet = s.sig.keysSet ∧
    (processorBody s).repair.dc = s.repair.dc ∧ (processorBody s).repair.dv = s.repair.dv ∧
    (processorBody s).repair.dcValid = s.repair.dcValid ∧ (processorBody s).mgmt = s.mgmt ∧
    (processorBody s).ev.health = s.ev.health ∧ (processorBody s).ev.producer = s.ev.producer ∧
    (processorBody s).ev.consumer = s.ev.consumer ∧ (processorBody s).ev.kinds = s.ev.kinds ∧
    (processorBody s).ev.intBusy = s.ev.intBusy ∧ (processorBody s).ev.intLevel = s.ev.intLevel ∧
    (processorBody s).pending = s.pending := by
  simp only [processorBody] <;> (repeat' split) <;> simp

@[simp] theorem grantWork_keeps (r : Requester) (s : State) :
    (grantWork r s).1.port.refused = s.port.refused ∧ (grantWork r s).1.port.refusalReported = s.port.refusalReported ∧
    (grantWork r s).1.arb = s.arb ∧ (grantWork r s).1.regions = s.regions ∧
    (grantWork r s).1.sig.committedKeys = s.sig.committedKeys ∧ (grantWork r s).1.sig.loadedKeys = s.sig.loadedKeys ∧
    (grantWork r s).1.sig.keysSet = s.sig.keysSet ∧ (grantWork r s).1.mgmt = s.mgmt ∧
    (grantWork r s).1.ev.health = s.ev.health ∧ (grantWork r s).1.ev.consumer = s.ev.consumer ∧
    (grantWork r s).1.pending = s.pending := by
  simp only [grantWork] <;> (repeat' split) <;> simp

@[simp] theorem followGrant_keeps (r : Requester) (s : State) :
    (followGrant r s).mem = s.mem ∧ (followGrant r s).csr = s.csr ∧ (followGrant r s).port = s.port ∧
    (followGrant r s).arb = s.arb ∧ (followGrant r s).regions = s.regions ∧ (followGrant r s).counters = s.counters ∧
    (followGrant r s).scrub = s.scrub ∧ (followGrant r s).spare = s.spare ∧ (followGrant r s).sig = s.sig ∧
    (followGrant r s).jnl = s.jnl ∧ (followGrant r s).vote.record = s.vote.record ∧
    (followGrant r s).vote.skewReported = s.vote.skewReported ∧ (followGrant r s).repair.dc = s.repair.dc ∧
    (followGrant r s).repair.dv = s.repair.dv ∧ (followGrant r s).repair.dO = s.repair.dO ∧
    (followGrant r s).repair.r = s.repair.r ∧ (followGrant r s).repair.dcValid = s.repair.dcValid ∧
    (followGrant r s).mgmt = s.mgmt ∧ (followGrant r s).ev = s.ev ∧ (followGrant r s).out.responses = s.out.responses ∧
    (followGrant r s).pending = s.pending := by
  simp only [followGrant] <;> (repeat' split) <;> simp

@[simp] theorem lateConsequences_keeps (was : ChannelState) (by_ : ReadBy) (bad : List Nat) (s : State) :
    (lateConsequences was by_ bad s).mem = s.mem ∧ (lateConsequences was by_ bad s).csr.committed = s.csr.committed ∧
    (lateConsequences was by_ bad s).csr.c = s.csr.c ∧ (lateConsequences was by_ bad s).port = s.port ∧
    (lateConsequences was by_ bad s).arb = s.arb ∧ (lateConsequences was by_ bad s).regions = s.regions ∧
    (lateConsequences was by_ bad s).counters = s.counters ∧ (lateConsequences was by_ bad s).scrub = s.scrub ∧
    (lateConsequences was by_ bad s).spare = s.spare ∧
    (lateConsequences was by_ bad s).sig.committedKeys = s.sig.committedKeys ∧
    (lateConsequences was by_ bad s).sig.loadedKeys = s.sig.loadedKeys ∧
    (lateConsequences was by_ bad s).sig.keysSet = s.sig.keysSet ∧ (lateConsequences was by_ bad s).sig.s = s.sig.s ∧
    (lateConsequences was by_ bad s).repair.dc = s.repair.dc ∧ (lateConsequences was by_ bad s).repair.dv = s.repair.dv ∧
    (lateConsequences was by_ bad s).repair.dO = s.repair.dO ∧
    (lateConsequences was by_ bad s).repair.dcValid = s.repair.dcValid ∧ (lateConsequences was by_ bad s).mgmt = s.mgmt ∧
    (lateConsequences was by_ bad s).ev.health = s.ev.health ∧
    (lateConsequences was by_ bad s).ev.producer = s.ev.producer ∧
    (lateConsequences was by_ bad s).ev.consumer = s.ev.consumer ∧ (lateConsequences was by_ bad s).ev.kinds = s.ev.kinds ∧
    (lateConsequences was by_ bad s).ev.intBusy = s.ev.intBusy ∧
    (lateConsequences was by_ bad s).ev.intLevel = s.ev.intLevel ∧
    (lateConsequences was by_ bad s).out.responses = s.out.responses ∧
    (lateConsequences was by_ bad s).pending = s.pending := by
  simp only [lateConsequences] <;> (repeat' split) <;> simp

/-- With no grant under way an event takes effect at once. -/
theorem overGrant_none (event : State → State) (s : State) (h : s.arb.grant = none) : overGrant event s = event s := by
  simp [overGrant, h]

/-- With no grant under way an event takes effect at once. -/
theorem during_none (event : State → State) (s : State) (h : s.arb.grant = none) : during event s = event s := by
  simp [during, overGrant_none event s h]

end Sys2Proof.Machine
end

