-- ==== Sys2Proof/Laws/Management.lean ====
section
/-! SUPPORT. What the commands leave as it was: for each operation one lemma that names every
part of the state it keeps. -/

namespace Sys2Proof.Machine

set_option linter.unnecessarySeqFocus false
set_option linter.unusedTactic false
set_option linter.unreachableTactic false
set_option linter.unusedSimpArgs false
@[simp] theorem finish_keeps (ws : List Word) (s : State) :
    (finish ws s).mem = s.mem ∧ (finish ws s).csr = s.csr ∧ (finish ws s).port = s.port ∧ (finish ws s).arb = s.arb ∧
    (finish ws s).regions = s.regions ∧ (finish ws s).counters = s.counters ∧ (finish ws s).scrub = s.scrub ∧
    (finish ws s).spare = s.spare ∧ (finish ws s).sig = s.sig ∧ (finish ws s).jnl = s.jnl ∧ (finish ws s).vote = s.vote ∧
    (finish ws s).link1 = s.link1 ∧ (finish ws s).link2 = s.link2 ∧ (finish ws s).repair = s.repair ∧
    (finish ws s).mgmt.params = s.mgmt.params ∧ (finish ws s).mgmt.digest = s.mgmt.digest ∧
    (finish ws s).mgmt.deferred = s.mgmt.deferred ∧ (finish ws s).mgmt.area = s.mgmt.area ∧
    (finish ws s).mgmt.issued = s.mgmt.issued ∧ (finish ws s).ev = s.ev ∧ (finish ws s).out = s.out ∧
    (finish ws s).pending = s.pending := by
  simp only [finish] <;> (repeat' split) <;> simp

@[simp] theorem refuse_keeps (c : RefusalCode) (s : State) :
    (refuse c s).mem = s.mem ∧ (refuse c s).csr = s.csr ∧ (refuse c s).port = s.port ∧ (refuse c s).arb = s.arb ∧
    (refuse c s).regions = s.regions ∧ (refuse c s).counters = s.counters ∧ (refuse c s).scrub = s.scrub ∧
    (refuse c s).spare = s.spare ∧ (refuse c s).sig = s.sig ∧ (refuse c s).jnl = s.jnl ∧ (refuse c s).vote = s.vote ∧
    (refuse c s).link1 = s.link1 ∧ (refuse c s).link2 = s.link2 ∧ (refuse c s).repair = s.repair ∧
    (refuse c s).mgmt.params = s.mgmt.params ∧ (refuse c s).mgmt.digest = s.mgmt.digest ∧
    (refuse c s).mgmt.deferred = s.mgmt.deferred ∧ (refuse c s).mgmt.area = s.mgmt.area ∧
    (refuse c s).mgmt.issued = s.mgmt.issued ∧ (refuse c s).ev = s.ev ∧ (refuse c s).out = s.out ∧
    (refuse c s).pending = s.pending := by
  simp only [refuse] <;> (repeat' split) <;> simp

@[simp] theorem runLoadRegion_keeps (s : State) :
    (runLoadRegion s).mem = s.mem ∧ (runLoadRegion s).csr = s.csr ∧ (runLoadRegion s).port = s.port ∧
    (runLoadRegion s).arb = s.arb ∧ (runLoadRegion s).counters = s.counters ∧ (runLoadRegion s).scrub = s.scrub ∧
    (runLoadRegion s).spare = s.spare ∧ (runLoadRegion s).sig = s.sig ∧ (runLoadRegion s).jnl = s.jnl ∧
    (runLoadRegion s).vote = s.vote ∧ (runLoadRegion s).link1 = s.link1 ∧ (runLoadRegion s).link2 = s.link2 ∧
    (runLoadRegion s).repair = s.repair ∧ (runLoadRegion s).mgmt.params = s.mgmt.params ∧
    (runLoadRegion s).mgmt.digest = s.mgmt.digest ∧ (runLoadRegion s).mgmt.deferred = s.mgmt.deferred ∧
    (runLoadRegion s).mgmt.area = s.mgmt.area ∧ (runLoadRegion s).mgmt.issued = s.mgmt.issued ∧
    (runLoadRegion s).ev = s.ev ∧ (runLoadRegion s).out = s.out ∧ (runLoadRegion s).pending = s.pending := by
  simp only [runLoadRegion] <;> (repeat' split) <;> simp

@[simp] theorem runClearRegion_keeps (s : State) :
    (runClearRegion s).mem = s.mem ∧ (runClearRegion s).csr = s.csr ∧ (runClearRegion s).port = s.port ∧
    (runClearRegion s).arb = s.arb ∧ (runClearRegion s).counters = s.counters ∧ (runClearRegion s).scrub = s.scrub ∧
    (runClearRegion s).spare = s.spare ∧ (runClearRegion s).sig = s.sig ∧ (runClearRegion s).jnl = s.jnl ∧
    (runClearRegion s).vote = s.vote ∧ (runClearRegion s).link1 = s.link1 ∧ (runClearRegion s).link2 = s.link2 ∧
    (runClearRegion s).repair = s.repair ∧ (runClearRegion s).mgmt.params = s.mgmt.params ∧
    (runClearRegion s).mgmt.digest = s.mgmt.digest ∧ (runClearRegion s).mgmt.deferred = s.mgmt.deferred ∧
    (runClearRegion s).mgmt.area = s.mgmt.area ∧ (runClearRegion s).mgmt.issued = s.mgmt.issued ∧
    (runClearRegion s).ev = s.ev ∧ (runClearRegion s).out = s.out ∧ (runClearRegion s).pending = s.pending := by
  simp only [runClearRegion] <;> (repeat' split) <;> simp

@[simp] theorem runSetKeys_keeps (s : State) :
    (runSetKeys s).mem = s.mem ∧ (runSetKeys s).csr = s.csr ∧ (runSetKeys s).port = s.port ∧ (runSetKeys s).arb = s.arb ∧
    (runSetKeys s).regions = s.regions ∧ (runSetKeys s).counters = s.counters ∧ (runSetKeys s).scrub = s.scrub ∧
    (runSetKeys s).spare = s.spare ∧ (runSetKeys s).sig.committedKeys = s.sig.committedKeys ∧
    (runSetKeys s).sig.s = s.sig.s ∧ (runSetKeys s).sig.valid = s.sig.valid ∧ (runSetKeys s).sig.walk = s.sig.walk ∧
    (runSetKeys s).sig.cursor = s.sig.cursor ∧ (runSetKeys s).sig.acc = s.sig.acc ∧
    (runSetKeys s).sig.poisoned = s.sig.poisoned ∧ (runSetKeys s).sig.overflow = s.sig.overflow ∧
    (runSetKeys s).jnl = s.jnl ∧ (runSetKeys s).vote = s.vote ∧ (runSetKeys s).link1 = s.link1 ∧
    (runSetKeys s).link2 = s.link2 ∧ (runSetKeys s).repair = s.repair ∧ (runSetKeys s).mgmt.params = s.mgmt.params ∧
    (runSetKeys s).mgmt.digest = s.mgmt.digest ∧ (runSetKeys s).mgmt.deferred = s.mgmt.deferred ∧
    (runSetKeys s).mgmt.area = s.mgmt.area ∧ (runSetKeys s).mgmt.issued = s.mgmt.issued ∧ (runSetKeys s).ev = s.ev ∧
    (runSetKeys s).out = s.out ∧ (runSetKeys s).pending = s.pending := by
  simp only [runSetKeys] <;> (repeat' split) <;> simp

@[simp] theorem setClamped_keeps (w : Bool) (lo hi v : Nat) (put : Params → Nat → Params) (s : State) :
    (setClamped w lo hi v put s).mem = s.mem ∧ (setClamped w lo hi v put s).csr = s.csr ∧
    (setClamped w lo hi v put s).port = s.port ∧ (setClamped w lo hi v put s).arb = s.arb ∧
    (setClamped w lo hi v put s).regions = s.regions ∧ (setClamped w lo hi v put s).counters = s.counters ∧
    (setClamped w lo hi v put s).scrub = s.scrub ∧ (setClamped w lo hi v put s).spare = s.spare ∧
    (setClamped w lo hi v put s).sig = s.sig ∧ (setClamped w lo hi v put s).jnl = s.jnl ∧
    (setClamped w lo hi v put s).vote = s.vote ∧ (setClamped w lo hi v put s).link1 = s.link1 ∧
    (setClamped w lo hi v put s).link2 = s.link2 ∧ (setClamped w lo hi v put s).repair = s.repair ∧
    (setClamped w lo hi v put s).mgmt.digest = s.mgmt.digest ∧
    (setClamped w lo hi v put s).mgmt.deferred = s.mgmt.deferred ∧ (setClamped w lo hi v put s).mgmt.area = s.mgmt.area ∧
    (setClamped w lo hi v put s).mgmt.issued = s.mgmt.issued ∧ (setClamped w lo hi v put s).ev = s.ev ∧
    (setClamped w lo hi v put s).out = s.out ∧ (setClamped w lo hi v put s).pending = s.pending := by
  simp only [setClamped] <;> (repeat' split) <;> simp

@[simp] theorem setChannelId_keeps (v : Nat) (s : State) :
    (setChannelId v s).mem = s.mem ∧ (setChannelId v s).csr = s.csr ∧ (setChannelId v s).port = s.port ∧
    (setChannelId v s).arb = s.arb ∧ (setChannelId v s).regions = s.regions ∧ (setChannelId v s).counters = s.counters ∧
    (setChannelId v s).scrub = s.scrub ∧ (setChannelId v s).spare = s.spare ∧ (setChannelId v s).sig = s.sig ∧
    (setChannelId v s).jnl = s.jnl ∧ (setChannelId v s).vote = s.vote ∧ (setChannelId v s).link1 = s.link1 ∧
    (setChannelId v s).link2 = s.link2 ∧ (setChannelId v s).repair = s.repair ∧
    (setChannelId v s).mgmt.digest = s.mgmt.digest ∧ (setChannelId v s).mgmt.deferred = s.mgmt.deferred ∧
    (setChannelId v s).mgmt.area = s.mgmt.area ∧ (setChannelId v s).mgmt.issued = s.mgmt.issued ∧
    (setChannelId v s).ev = s.ev ∧ (setChannelId v s).out = s.out ∧ (setChannelId v s).pending = s.pending := by
  simp only [setChannelId] <;> (repeat' split) <;> simp

@[simp] theorem setMemoryLines_keeps (v : Nat) (s : State) :
    (setMemoryLines v s).mem = s.mem ∧ (setMemoryLines v s).csr = s.csr ∧ (setMemoryLines v s).port = s.port ∧
    (setMemoryLines v s).arb = s.arb ∧ (setMemoryLines v s).regions = s.regions ∧
    (setMemoryLines v s).counters = s.counters ∧ (setMemoryLines v s).scrub = s.scrub ∧
    (setMemoryLines v s).spare = s.spare ∧ (setMemoryLines v s).sig = s.sig ∧ (setMemoryLines v s).jnl = s.jnl ∧
    (setMemoryLines v s).vote = s.vote ∧ (setMemoryLines v s).link1 = s.link1 ∧ (setMemoryLines v s).link2 = s.link2 ∧
    (setMemoryLines v s).repair = s.repair ∧ (setMemoryLines v s).mgmt.digest = s.mgmt.digest ∧
    (setMemoryLines v s).mgmt.deferred = s.mgmt.deferred ∧ (setMemoryLines v s).mgmt.area = s.mgmt.area ∧
    (setMemoryLines v s).mgmt.issued = s.mgmt.issued ∧ (setMemoryLines v s).ev = s.ev ∧ (setMemoryLines v s).out = s.out ∧
    (setMemoryLines v s).pending = s.pending := by
  simp only [setMemoryLines] <;> (repeat' split) <;> simp

@[simp] theorem setLinkMode_keeps (l : LinkId) (v : Nat) (s : State) (h : s.arb.grant = none) :
    (setLinkMode l v s).mem = s.mem ∧ (setLinkMode l v s).csr.counter = s.csr.counter ∧
    (setLinkMode l v s).csr.committed = s.csr.committed ∧ (setLinkMode l v s).csr.c = s.csr.c ∧
    (setLinkMode l v s).port = s.port ∧ (setLinkMode l v s).arb = s.arb ∧ (setLinkMode l v s).regions = s.regions ∧
    (setLinkMode l v s).counters = s.counters ∧ (setLinkMode l v s).scrub = s.scrub ∧ (setLinkMode l v s).spare = s.spare ∧
    (setLinkMode l v s).sig.committedKeys = s.sig.committedKeys ∧ (setLinkMode l v s).sig.loadedKeys = s.sig.loadedKeys ∧
    (setLinkMode l v s).sig.keysSet = s.sig.keysSet ∧ (setLinkMode l v s).sig.s = s.sig.s ∧
    (setLinkMode l v s).sig.valid = s.sig.valid ∧ (setLinkMode l v s).jnl = s.jnl ∧
    (setLinkMode l v s).vote.record = s.vote.record ∧ (setLinkMode l v s).vote.skewReported = s.vote.skewReported ∧
    (setLinkMode l v s).repair.dc = s.repair.dc ∧ (setLinkMode l v s).repair.dv = s.repair.dv ∧
    (setLinkMode l v s).repair.dO = s.repair.dO ∧ (setLinkMode l v s).repair.dcValid = s.repair.dcValid ∧
    (setLinkMode l v s).mgmt.params = s.mgmt.params ∧ (setLinkMode l v s).mgmt.digest = s.mgmt.digest ∧
    (setLinkMode l v s).mgmt.deferred = s.mgmt.deferred ∧ (setLinkMode l v s).mgmt.area = s.mgmt.area ∧
    (setLinkMode l v s).mgmt.issued = s.mgmt.issued ∧ (setLinkMode l v s).ev.health = s.ev.health ∧
    (setLinkMode l v s).ev.faultLatch = s.ev.faultLatch ∧ (setLinkMode l v s).ev.producer = s.ev.producer ∧
    (setLinkMode l v s).ev.consumer = s.ev.consumer ∧ (setLinkMode l v s).ev.kinds = s.ev.kinds ∧
    (setLinkMode l v s).ev.intBusy = s.ev.intBusy ∧ (setLinkMode l v s).ev.intLevel = s.ev.intLevel ∧
    (setLinkMode l v s).out.responses = s.out.responses ∧ (setLinkMode l v s).pending = s.pending := by
  simp only [setLinkMode, during_none _ s h] <;> (repeat' split) <;> simp

@[simp] theorem setIntMask_keeps (v : Word) (s : State) :
    (setIntMask v s).mem = s.mem ∧ (setIntMask v s).csr = s.csr ∧ (setIntMask v s).port = s.port ∧
    (setIntMask v s).arb = s.arb ∧ (setIntMask v s).regions = s.regions ∧ (setIntMask v s).counters = s.counters ∧
    (setIntMask v s).scrub = s.scrub ∧ (setIntMask v s).spare = s.spare ∧ (setIntMask v s).sig = s.sig ∧
    (setIntMask v s).jnl = s.jnl ∧ (setIntMask v s).vote = s.vote ∧ (setIntMask v s).link1 = s.link1 ∧
    (setIntMask v s).link2 = s.link2 ∧ (setIntMask v s).repair = s.repair ∧ (setIntMask v s).mgmt.digest = s.mgmt.digest ∧
    (setIntMask v s).mgmt.deferred = s.mgmt.deferred ∧ (setIntMask v s).mgmt.area = s.mgmt.area ∧
    (setIntMask v s).mgmt.issued = s.mgmt.issued ∧ (setIntMask v s).ev = s.ev ∧ (setIntMask v s).out = s.out ∧
    (setIntMask v s).pending = s.pending := by
  simp only [setIntMask] <;> (repeat' split) <;> simp

@[simp] theorem runSetParameter_keeps (s : State) (h : s.arb.grant = none) :
    (runSetParameter s).mem = s.mem ∧ (runSetParameter s).csr.counter = s.csr.counter ∧
    (runSetParameter s).csr.committed = s.csr.committed ∧ (runSetParameter s).csr.c = s.csr.c ∧
    (runSetParameter s).port = s.port ∧ (runSetParameter s).arb = s.arb ∧ (runSetParameter s).regions = s.regions ∧
    (runSetParameter s).counters = s.counters ∧ (runSetParameter s).scrub = s.scrub ∧ (runSetParameter s).spare = s.spare ∧
    (runSetParameter s).sig.committedKeys = s.sig.committedKeys ∧ (runSetParameter s).sig.loadedKeys = s.sig.loadedKeys ∧
    (runSetParameter s).sig.keysSet = s.sig.keysSet ∧ (runSetParameter s).sig.s = s.sig.s ∧
    (runSetParameter s).sig.valid = s.sig.valid ∧ (runSetParameter s).jnl = s.jnl ∧
    (runSetParameter s).vote.record = s.vote.record ∧ (runSetParameter s).vote.skewReported = s.vote.skewReported ∧
    (runSetParameter s).repair.dc = s.repair.dc ∧ (runSetParameter s).repair.dv = s.repair.dv ∧
    (runSetParameter s).repair.dO = s.repair.dO ∧ (runSetParameter s).repair.dcValid = s.repair.dcValid ∧
    (runSetParameter s).mgmt.digest = s.mgmt.digest ∧ (runSetParameter s).mgmt.deferred = s.mgmt.deferred ∧
    (runSetParameter s).mgmt.area = s.mgmt.area ∧ (runSetParameter s).mgmt.issued = s.mgmt.issued ∧
    (runSetParameter s).ev.health = s.ev.health ∧ (runSetParameter s).ev.faultLatch = s.ev.faultLatch ∧
    (runSetParameter s).ev.producer = s.ev.producer ∧ (runSetParameter s).ev.consumer = s.ev.consumer ∧
    (runSetParameter s).ev.kinds = s.ev.kinds ∧ (runSetParameter s).ev.intBusy = s.ev.intBusy ∧
    (runSetParameter s).ev.intLevel = s.ev.intLevel ∧ (runSetParameter s).out.responses = s.out.responses ∧
    (runSetParameter s).pending = s.pending := by
  simp only [runSetParameter] <;> (repeat' split) <;> simp [h]

@[simp] theorem waitForGrant_keeps (d : Deferred) (s : State) :
    (waitForGrant d s).mem = s.mem ∧ (waitForGrant d s).csr = s.csr ∧ (waitForGrant d s).port = s.port ∧
    (waitForGrant d s).regions = s.regions ∧ (waitForGrant d s).counters = s.counters ∧ (waitForGrant d s).scrub = s.scrub ∧
    (waitForGrant d s).spare = s.spare ∧ (waitForGrant d s).sig = s.sig ∧ (waitForGrant d s).jnl = s.jnl ∧
    (waitForGrant d s).vote = s.vote ∧ (waitForGrant d s).link1 = s.link1 ∧ (waitForGrant d s).link2 = s.link2 ∧
    (waitForGrant d s).repair = s.repair ∧ (waitForGrant d s).mgmt.params = s.mgmt.params ∧
    (waitForGrant d s).mgmt.digest = s.mgmt.digest ∧ (waitForGrant d s).mgmt.area = s.mgmt.area ∧
    (waitForGrant d s).mgmt.issued = s.mgmt.issued ∧ (waitForGrant d s).mgmt.phase = s.mgmt.phase ∧
    (waitForGrant d s).ev = s.ev ∧ (waitForGrant d s).out = s.out ∧ (waitForGrant d s).pending = s.pending := by
  simp only [waitForGrant] <;> (repeat' split) <;> simp

@[simp] theorem releaseRoles_keeps (s : State) :
    (releaseRoles s).mem = s.mem ∧ (releaseRoles s).csr = s.csr ∧ (releaseRoles s).port = s.port ∧
    (releaseRoles s).arb = s.arb ∧ (releaseRoles s).regions = s.regions ∧ (releaseRoles s).counters = s.counters ∧
    (releaseRoles s).scrub = s.scrub ∧ (releaseRoles s).spare = s.spare ∧ (releaseRoles s).sig = s.sig ∧
    (releaseRoles s).jnl = s.jnl ∧ (releaseRoles s).vote.record = s.vote.record ∧
    (releaseRoles s).vote.skewReported = s.vote.skewReported ∧ (releaseRoles s).repair.dc = s.repair.dc ∧
    (releaseRoles s).repair.dv = s.repair.dv ∧ (releaseRoles s).repair.dO = s.repair.dO ∧
    (releaseRoles s).repair.dcValid = s.repair.dcValid ∧ (releaseRoles s).mgmt = s.mgmt ∧
    (releaseRoles s).ev.health = s.ev.health ∧ (releaseRoles s).ev.faultLatch = s.ev.faultLatch ∧
    (releaseRoles s).ev.producer = s.ev.producer ∧ (releaseRoles s).ev.consumer = s.ev.consumer ∧
    (releaseRoles s).ev.kinds = s.ev.kinds ∧ (releaseRoles s).ev.intBusy = s.ev.intBusy ∧
    (releaseRoles s).ev.intLevel = s.ev.intLevel ∧ (releaseRoles s).out.responses = s.out.responses ∧
    (releaseRoles s).pending = s.pending := by
  simp only [releaseRoles] <;> (repeat' split) <;> simp

@[simp] theorem releaseState_keeps (s : State) :
    (releaseState s).mem = s.mem ∧ (releaseState s).csr.state = s.csr.state ∧ (releaseState s).port = s.port ∧
    (releaseState s).arb = s.arb ∧ (releaseState s).regions = s.regions ∧ (releaseState s).counters = s.counters ∧
    (releaseState s).scrub = s.scrub ∧ (releaseState s).spare = s.spare ∧
    (releaseState s).sig.committedKeys = s.sig.committedKeys ∧ (releaseState s).sig.loadedKeys = s.sig.loadedKeys ∧
    (releaseState s).sig.keysSet = s.sig.keysSet ∧ (releaseState s).sig.s = s.sig.s ∧
    (releaseState s).sig.walk = s.sig.walk ∧ (releaseState s).sig.cursor = s.sig.cursor ∧
    (releaseState s).sig.acc = s.sig.acc ∧ (releaseState s).jnl.rb = s.jnl.rb ∧
    (releaseState s).vote.record = s.vote.record ∧ (releaseState s).link1 = s.link1 ∧ (releaseState s).link2 = s.link2 ∧
    (releaseState s).repair.role = s.repair.role ∧ (releaseState s).mgmt = s.mgmt ∧ (releaseState s).ev = s.ev ∧
    (releaseState s).out = s.out ∧ (releaseState s).pending = s.pending := by
  simp only [releaseState] <;> (repeat' split) <;> simp

@[simp] theorem releaseEffect_keeps (s : State) :
    (releaseEffect s).mem = s.mem ∧ (releaseEffect s).port = s.port ∧ (releaseEffect s).arb = s.arb ∧
    (releaseEffect s).regions = s.regions ∧ (releaseEffect s).counters = s.counters ∧
    (releaseEffect s).scrub.line = s.scrub.line ∧ (releaseEffect s).scrub.word = s.scrub.word ∧
    (releaseEffect s).scrub.passCount = s.scrub.passCount ∧ (releaseEffect s).scrub.allowance = s.scrub.allowance ∧
    (releaseEffect s).spare = s.spare ∧ (releaseEffect s).sig.committedKeys = s.sig.committedKeys ∧
    (releaseEffect s).sig.loadedKeys = s.sig.loadedKeys ∧ (releaseEffect s).sig.keysSet = s.sig.keysSet ∧
    (releaseEffect s).sig.s = s.sig.s ∧ (releaseEffect s).mgmt.params = s.mgmt.params ∧
    (releaseEffect s).mgmt.digest = s.mgmt.digest ∧ (releaseEffect s).mgmt.deferred = s.mgmt.deferred ∧
    (releaseEffect s).mgmt.area = s.mgmt.area ∧ (releaseEffect s).mgmt.issued = s.mgmt.issued ∧
    (releaseEffect s).ev.health = s.ev.health ∧ (releaseEffect s).ev.faultLatch = s.ev.faultLatch ∧
    (releaseEffect s).ev.producer = s.ev.producer ∧ (releaseEffect s).ev.consumer = s.ev.consumer ∧
    (releaseEffect s).ev.kinds = s.ev.kinds ∧ (releaseEffect s).ev.intBusy = s.ev.intBusy ∧
    (releaseEffect s).ev.intLevel = s.ev.intLevel ∧ (releaseEffect s).out.responses = s.out.responses ∧
    (releaseEffect s).pending = s.pending := by
  simp only [releaseEffect] <;> (repeat' split) <;> simp

@[simp] theorem stopTestEffect_keeps (s : State) :
    (stopTestEffect s).mem = s.mem ∧ (stopTestEffect s).csr = s.csr ∧ (stopTestEffect s).port = s.port ∧
    (stopTestEffect s).arb = s.arb ∧ (stopTestEffect s).regions = s.regions ∧ (stopTestEffect s).counters = s.counters ∧
    (stopTestEffect s).scrub.line = s.scrub.line ∧ (stopTestEffect s).scrub.word = s.scrub.word ∧
    (stopTestEffect s).scrub.passCount = s.scrub.passCount ∧ (stopTestEffect s).scrub.allowance = s.scrub.allowance ∧
    (stopTestEffect s).spare = s.spare ∧ (stopTestEffect s).sig = s.sig ∧ (stopTestEffect s).jnl = s.jnl ∧
    (stopTestEffect s).vote = s.vote ∧ (stopTestEffect s).link1 = s.link1 ∧ (stopTestEffect s).link2 = s.link2 ∧
    (stopTestEffect s).repair = s.repair ∧ (stopTestEffect s).mgmt.params = s.mgmt.params ∧
    (stopTestEffect s).mgmt.digest = s.mgmt.digest ∧ (stopTestEffect s).mgmt.deferred = s.mgmt.deferred ∧
    (stopTestEffect s).mgmt.area = s.mgmt.area ∧ (stopTestEffect s).mgmt.issued = s.mgmt.issued ∧
    (stopTestEffect s).ev.health = s.ev.health ∧ (stopTestEffect s).ev.faultLatch = s.ev.faultLatch ∧
    (stopTestEffect s).ev.producer = s.ev.producer ∧ (stopTestEffect s).ev.consumer = s.ev.consumer ∧
    (stopTestEffect s).ev.kinds = s.ev.kinds ∧ (stopTestEffect s).ev.intBusy = s.ev.intBusy ∧
    (stopTestEffect s).ev.intLevel = s.ev.intLevel ∧ (stopTestEffect s).out = s.out ∧
    (stopTestEffect s).pending = s.pending := by
  simp only [stopTestEffect] <;> (repeat' split) <;> simp

@[simp] theorem commitTablesOnly_keeps (s : State) :
    (commitTablesOnly s).mem = s.mem ∧ (commitTablesOnly s).csr = s.csr ∧ (commitTablesOnly s).port = s.port ∧
    (commitTablesOnly s).arb = s.arb ∧ (commitTablesOnly s).counters = s.counters ∧
    (commitTablesOnly s).scrub.passCount = s.scrub.passCount ∧ (commitTablesOnly s).scrub.allowance = s.scrub.allowance ∧
    (commitTablesOnly s).scrub.proof = s.scrub.proof ∧ (commitTablesOnly s).scrub.init = s.scrub.init ∧
    (commitTablesOnly s).sig.loadedKeys = s.sig.loadedKeys ∧ (commitTablesOnly s).sig.keysSet = s.sig.keysSet ∧
    (commitTablesOnly s).sig.s = s.sig.s ∧ (commitTablesOnly s).sig.valid = s.sig.valid ∧
    (commitTablesOnly s).sig.walk = s.sig.walk ∧ (commitTablesOnly s).sig.cursor = s.sig.cursor ∧
    (commitTablesOnly s).sig.acc = s.sig.acc ∧ (commitTablesOnly s).sig.poisoned = s.sig.poisoned ∧
    (commitTablesOnly s).sig.overflow = s.sig.overflow ∧ (commitTablesOnly s).jnl.rb = s.jnl.rb ∧
    (commitTablesOnly s).vote = s.vote ∧ (commitTablesOnly s).link1 = s.link1 ∧ (commitTablesOnly s).link2 = s.link2 ∧
    (commitTablesOnly s).repair = s.repair ∧ (commitTablesOnly s).mgmt.params = s.mgmt.params ∧
    (commitTablesOnly s).mgmt.deferred = s.mgmt.deferred ∧ (commitTablesOnly s).mgmt.area = s.mgmt.area ∧
    (commitTablesOnly s).mgmt.issued = s.mgmt.issued ∧ (commitTablesOnly s).mgmt.phase = s.mgmt.phase ∧
    (commitTablesOnly s).ev.health = s.ev.health ∧ (commitTablesOnly s).ev.faultLatch = s.ev.faultLatch ∧
    (commitTablesOnly s).out = s.out ∧ (commitTablesOnly s).pending = s.pending := by
  simp only [commitTablesOnly] <;> (repeat' split) <;> simp

@[simp] theorem commitEffect_keeps (s : State) :
    (commitEffect s).mem = s.mem ∧ (commitEffect s).port = s.port ∧ (commitEffect s).arb = s.arb ∧
    (commitEffect s).counters = s.counters ∧ (commitEffect s).scrub.passCount = s.scrub.passCount ∧
    (commitEffect s).scrub.allowance = s.scrub.allowance ∧ (commitEffect s).scrub.proof = s.scrub.proof ∧
    (commitEffect s).scrub.init = s.scrub.init ∧ (commitEffect s).sig.loadedKeys = s.sig.loadedKeys ∧
    (commitEffect s).sig.keysSet = s.sig.keysSet ∧ (commitEffect s).sig.s = s.sig.s ∧
    (commitEffect s).sig.valid = s.sig.valid ∧ (commitEffect s).jnl.rb = s.jnl.rb ∧
    (commitEffect s).vote.record = s.vote.record ∧ (commitEffect s).repair.dc = s.repair.dc ∧
    (commitEffect s).repair.dv = s.repair.dv ∧ (commitEffect s).repair.dO = s.repair.dO ∧
    (commitEffect s).repair.dcValid = s.repair.dcValid ∧ (commitEffect s).mgmt.params = s.mgmt.params ∧
    (commitEffect s).mgmt.deferred = s.mgmt.deferred ∧ (commitEffect s).mgmt.area = s.mgmt.area ∧
    (commitEffect s).mgmt.issued = s.mgmt.issued ∧ (commitEffect s).ev.health = s.ev.health ∧
    (commitEffect s).ev.faultLatch = s.ev.faultLatch ∧ (commitEffect s).out.responses = s.out.responses ∧
    (commitEffect s).pending = s.pending := by
  simp only [commitEffect] <;> (repeat' split) <;> simp

@[simp] theorem deferredEffect_keeps (d : Deferred) (s : State) :
    (deferredEffect d s).mem = s.mem ∧ (deferredEffect d s).port = s.port ∧ (deferredEffect d s).arb = s.arb ∧
    (deferredEffect d s).counters = s.counters ∧ (deferredEffect d s).scrub.passCount = s.scrub.passCount ∧
    (deferredEffect d s).scrub.allowance = s.scrub.allowance ∧ (deferredEffect d s).sig.loadedKeys = s.sig.loadedKeys ∧
    (deferredEffect d s).sig.keysSet = s.sig.keysSet ∧ (deferredEffect d s).sig.s = s.sig.s ∧
    (deferredEffect d s).mgmt.params = s.mgmt.params ∧ (deferredEffect d s).mgmt.deferred = s.mgmt.deferred ∧
    (deferredEffect d s).mgmt.area = s.mgmt.area ∧ (deferredEffect d s).mgmt.issued = s.mgmt.issued ∧
    (deferredEffect d s).ev.health = s.ev.health ∧ (deferredEffect d s).ev.faultLatch = s.ev.faultLatch ∧
    (deferredEffect d s).out.responses = s.out.responses ∧ (deferredEffect d s).pending = s.pending := by
  simp only [deferredEffect] <;> (repeat' split) <;> simp

@[simp] theorem deferOrDo_keeps (d : Deferred) (s : State) :
    (deferOrDo d s).mem = s.mem ∧ (deferOrDo d s).port = s.port ∧ (deferOrDo d s).counters = s.counters ∧
    (deferOrDo d s).scrub.passCount = s.scrub.passCount ∧ (deferOrDo d s).scrub.allowance = s.scrub.allowance ∧
    (deferOrDo d s).sig.loadedKeys = s.sig.loadedKeys ∧ (deferOrDo d s).sig.keysSet = s.sig.keysSet ∧
    (deferOrDo d s).sig.s = s.sig.s ∧ (deferOrDo d s).mgmt.params = s.mgmt.params ∧
    (deferOrDo d s).mgmt.area = s.mgmt.area ∧ (deferOrDo d s).mgmt.issued = s.mgmt.issued ∧
    (deferOrDo d s).ev.health = s.ev.health ∧ (deferOrDo d s).ev.faultLatch = s.ev.faultLatch ∧
    (deferOrDo d s).out.responses = s.out.responses ∧ (deferOrDo d s).pending = s.pending := by
  simp only [deferOrDo] <;> (repeat' split) <;> simp

@[simp] theorem runCommitTables_keeps (s : State) :
    (runCommitTables s).mem = s.mem ∧ (runCommitTables s).port = s.port ∧ (runCommitTables s).counters = s.counters ∧
    (runCommitTables s).scrub.passCount = s.scrub.passCount ∧ (runCommitTables s).scrub.allowance = s.scrub.allowance ∧
    (runCommitTables s).sig.loadedKeys = s.sig.loadedKeys ∧ (runCommitTables s).sig.keysSet = s.sig.keysSet ∧
    (runCommitTables s).sig.s = s.sig.s ∧ (runCommitTables s).mgmt.params = s.mgmt.params ∧
    (runCommitTables s).mgmt.area = s.mgmt.area ∧ (runCommitTables s).mgmt.issued = s.mgmt.issued ∧
    (runCommitTables s).ev.health = s.ev.health ∧ (runCommitTables s).ev.faultLatch = s.ev.faultLatch ∧
    (runCommitTables s).out.responses = s.out.responses ∧ (runCommitTables s).pending = s.pending := by
  simp only [runCommitTables] <;> (repeat' split) <;> simp

@[simp] theorem runStopTest_keeps (s : State) :
    (runStopTest s).mem = s.mem ∧ (runStopTest s).port = s.port ∧ (runStopTest s).counters = s.counters ∧
    (runStopTest s).scrub.passCount = s.scrub.passCount ∧ (runStopTest s).scrub.allowance = s.scrub.allowance ∧
    (runStopTest s).sig.loadedKeys = s.sig.loadedKeys ∧ (runStopTest s).sig.keysSet = s.sig.keysSet ∧
    (runStopTest s).sig.s = s.sig.s ∧ (runStopTest s).mgmt.params = s.mgmt.params ∧
    (runStopTest s).mgmt.area = s.mgmt.area ∧ (runStopTest s).mgmt.issued = s.mgmt.issued ∧
    (runStopTest s).ev.health = s.ev.health ∧ (runStopTest s).ev.faultLatch = s.ev.faultLatch ∧
    (runStopTest s).out.responses = s.out.responses ∧ (runStopTest s).pending = s.pending := by
  simp only [runStopTest] <;> (repeat' split) <;> simp

@[simp] theorem runRelease_keeps (s : State) :
    (runRelease s).mem = s.mem ∧ (runRelease s).port = s.port ∧ (runRelease s).counters = s.counters ∧
    (runRelease s).scrub.passCount = s.scrub.passCount ∧ (runRelease s).scrub.allowance = s.scrub.allowance ∧
    (runRelease s).sig.loadedKeys = s.sig.loadedKeys ∧ (runRelease s).sig.keysSet = s.sig.keysSet ∧
    (runRelease s).sig.s = s.sig.s ∧ (runRelease s).mgmt.params = s.mgmt.params ∧ (runRelease s).mgmt.area = s.mgmt.area ∧
    (runRelease s).mgmt.issued = s.mgmt.issued ∧ (runRelease s).ev.health = s.ev.health ∧
    (runRelease s).ev.faultLatch = s.ev.faultLatch ∧ (runRelease s).out.responses = s.out.responses ∧
    (runRelease s).pending = s.pending := by
  simp only [runRelease] <;> (repeat' split) <;> simp

@[simp] theorem runMemInit_keeps (s : State) :
    (runMemInit s).mem = s.mem ∧ (runMemInit s).csr = s.csr ∧ (runMemInit s).port = s.port ∧ (runMemInit s).arb = s.arb ∧
    (runMemInit s).regions = s.regions ∧ (runMemInit s).counters = s.counters ∧ (runMemInit s).scrub.line = s.scrub.line ∧
    (runMemInit s).scrub.word = s.scrub.word ∧ (runMemInit s).scrub.passCount = s.scrub.passCount ∧
    (runMemInit s).scrub.allowance = s.scrub.allowance ∧ (runMemInit s).scrub.proof = s.scrub.proof ∧
    (runMemInit s).spare = s.spare ∧ (runMemInit s).sig = s.sig ∧ (runMemInit s).jnl = s.jnl ∧
    (runMemInit s).vote = s.vote ∧ (runMemInit s).link1 = s.link1 ∧ (runMemInit s).link2 = s.link2 ∧
    (runMemInit s).repair = s.repair ∧ (runMemInit s).mgmt.params = s.mgmt.params ∧
    (runMemInit s).mgmt.digest = s.mgmt.digest ∧ (runMemInit s).mgmt.deferred = s.mgmt.deferred ∧
    (runMemInit s).mgmt.area = s.mgmt.area ∧ (runMemInit s).mgmt.issued = s.mgmt.issued ∧ (runMemInit s).ev = s.ev ∧
    (runMemInit s).out = s.out ∧ (runMemInit s).pending = s.pending := by
  simp only [runMemInit] <;> (repeat' split) <;> simp

@[simp] theorem runProofTest_keeps (s : State) :
    (runProofTest s).mem = s.mem ∧ (runProofTest s).csr = s.csr ∧ (runProofTest s).port = s.port ∧
    (runProofTest s).arb = s.arb ∧ (runProofTest s).regions = s.regions ∧ (runProofTest s).counters = s.counters ∧
    (runProofTest s).scrub.line = s.scrub.line ∧ (runProofTest s).scrub.word = s.scrub.word ∧
    (runProofTest s).scrub.passCount = s.scrub.passCount ∧ (runProofTest s).scrub.allowance = s.scrub.allowance ∧
    (runProofTest s).scrub.init = s.scrub.init ∧ (runProofTest s).spare = s.spare ∧ (runProofTest s).sig = s.sig ∧
    (runProofTest s).jnl = s.jnl ∧ (runProofTest s).vote = s.vote ∧ (runProofTest s).link1 = s.link1 ∧
    (runProofTest s).link2 = s.link2 ∧ (runProofTest s).repair = s.repair ∧ (runProofTest s).mgmt.params = s.mgmt.params ∧
    (runProofTest s).mgmt.digest = s.mgmt.digest ∧ (runProofTest s).mgmt.deferred = s.mgmt.deferred ∧
    (runProofTest s).mgmt.area = s.mgmt.area ∧ (runProofTest s).mgmt.issued = s.mgmt.issued ∧ (runProofTest s).ev = s.ev ∧
    (runProofTest s).out = s.out ∧ (runProofTest s).pending = s.pending := by
  simp only [runProofTest] <;> (repeat' split) <;> simp

@[simp] theorem runSeal_keeps (s : State) :
    (runSeal s).mem = s.mem ∧ (runSeal s).csr.counter = s.csr.counter ∧ (runSeal s).csr.committed = s.csr.committed ∧
    (runSeal s).csr.c = s.csr.c ∧ (runSeal s).port = s.port ∧ (runSeal s).arb = s.arb ∧ (runSeal s).regions = s.regions ∧
    (runSeal s).counters = s.counters ∧ (runSeal s).scrub = s.scrub ∧ (runSeal s).spare = s.spare ∧
    (runSeal s).sig.committedKeys = s.sig.committedKeys ∧ (runSeal s).sig.loadedKeys = s.sig.loadedKeys ∧
    (runSeal s).sig.keysSet = s.sig.keysSet ∧ (runSeal s).sig.s = s.sig.s ∧ (runSeal s).sig.valid = s.sig.valid ∧
    (runSeal s).jnl = s.jnl ∧ (runSeal s).vote = s.vote ∧ (runSeal s).link1 = s.link1 ∧ (runSeal s).link2 = s.link2 ∧
    (runSeal s).repair = s.repair ∧ (runSeal s).mgmt.params = s.mgmt.params ∧ (runSeal s).mgmt.digest = s.mgmt.digest ∧
    (runSeal s).mgmt.deferred = s.mgmt.deferred ∧ (runSeal s).mgmt.area = s.mgmt.area ∧
    (runSeal s).mgmt.issued = s.mgmt.issued ∧ (runSeal s).ev.health = s.ev.health ∧
    (runSeal s).ev.faultLatch = s.ev.faultLatch ∧ (runSeal s).ev.producer = s.ev.producer ∧
    (runSeal s).ev.consumer = s.ev.consumer ∧ (runSeal s).ev.kinds = s.ev.kinds ∧ (runSeal s).ev.intBusy = s.ev.intBusy ∧
    (runSeal s).ev.intLevel = s.ev.intLevel ∧ (runSeal s).out = s.out ∧ (runSeal s).pending = s.pending := by
  simp only [runSeal] <;> (repeat' split) <;> simp

@[simp] theorem restoreRetries_keeps (s : State) :
    (restoreRetries s).mem = s.mem ∧ (restoreRetries s).csr = s.csr ∧ (restoreRetries s).port = s.port ∧
    (restoreRetries s).arb = s.arb ∧ (restoreRetries s).regions = s.regions ∧ (restoreRetries s).counters = s.counters ∧
    (restoreRetries s).scrub = s.scrub ∧ (restoreRetries s).spare = s.spare ∧ (restoreRetries s).sig = s.sig ∧
    (restoreRetries s).jnl = s.jnl ∧ (restoreRetries s).vote = s.vote ∧ (restoreRetries s).link1 = s.link1 ∧
    (restoreRetries s).link2 = s.link2 ∧ (restoreRetries s).repair.dc = s.repair.dc ∧
    (restoreRetries s).repair.dv = s.repair.dv ∧ (restoreRetries s).repair.dO = s.repair.dO ∧
    (restoreRetries s).repair.r = s.repair.r ∧ (restoreRetries s).repair.dcValid = s.repair.dcValid ∧
    (restoreRetries s).mgmt = s.mgmt ∧ (restoreRetries s).ev = s.ev ∧ (restoreRetries s).out = s.out ∧
    (restoreRetries s).pending = s.pending := by
  simp only [restoreRetries] <;> (repeat' split) <;> simp

@[simp] theorem joinFresh_keeps (s : State) :
    (joinFresh s).mem = s.mem ∧ (joinFresh s).csr.counter = s.csr.counter ∧ (joinFresh s).csr.committed = s.csr.committed ∧
    (joinFresh s).csr.c = s.csr.c ∧ (joinFresh s).port = s.port ∧ (joinFresh s).arb = s.arb ∧
    (joinFresh s).regions = s.regions ∧ (joinFresh s).counters = s.counters ∧ (joinFresh s).scrub = s.scrub ∧
    (joinFresh s).spare = s.spare ∧ (joinFresh s).sig.committedKeys = s.sig.committedKeys ∧
    (joinFresh s).sig.loadedKeys = s.sig.loadedKeys ∧ (joinFresh s).sig.keysSet = s.sig.keysSet ∧
    (joinFresh s).sig.s = s.sig.s ∧ (joinFresh s).sig.valid = s.sig.valid ∧ (joinFresh s).jnl = s.jnl ∧
    (joinFresh s).vote.record = s.vote.record ∧ (joinFresh s).vote.skewReported = s.vote.skewReported ∧
    (joinFresh s).repair.dc = s.repair.dc ∧ (joinFresh s).repair.dv = s.repair.dv ∧ (joinFresh s).repair.dO = s.repair.dO ∧
    (joinFresh s).repair.r = s.repair.r ∧ (joinFresh s).repair.dcValid = s.repair.dcValid ∧ (joinFresh s).mgmt = s.mgmt ∧
    (joinFresh s).ev.health = s.ev.health ∧ (joinFresh s).ev.faultLatch = s.ev.faultLatch ∧
    (joinFresh s).ev.producer = s.ev.producer ∧ (joinFresh s).ev.consumer = s.ev.consumer ∧
    (joinFresh s).ev.kinds = s.ev.kinds ∧ (joinFresh s).ev.intBusy = s.ev.intBusy ∧
    (joinFresh s).ev.intLevel = s.ev.intLevel ∧ (joinFresh s).out.responses = s.out.responses ∧
    (joinFresh s).pending = s.pending := by
  simp only [joinFresh] <;> (repeat' split) <;> simp

@[simp] theorem joinAgain_keeps (s : State) :
    (joinAgain s).mem = s.mem ∧ (joinAgain s).csr = s.csr ∧ (joinAgain s).port = s.port ∧ (joinAgain s).arb = s.arb ∧
    (joinAgain s).regions = s.regions ∧ (joinAgain s).counters = s.counters ∧ (joinAgain s).scrub = s.scrub ∧
    (joinAgain s).spare = s.spare ∧ (joinAgain s).sig = s.sig ∧ (joinAgain s).jnl = s.jnl ∧
    (joinAgain s).vote.record = s.vote.record ∧ (joinAgain s).vote.skewReported = s.vote.skewReported ∧
    (joinAgain s).repair.dc = s.repair.dc ∧ (joinAgain s).repair.dv = s.repair.dv ∧ (joinAgain s).repair.dO = s.repair.dO ∧
    (joinAgain s).repair.r = s.repair.r ∧ (joinAgain s).repair.dcValid = s.repair.dcValid ∧ (joinAgain s).mgmt = s.mgmt ∧
    (joinAgain s).ev.health = s.ev.health ∧ (joinAgain s).ev.faultLatch = s.ev.faultLatch ∧
    (joinAgain s).ev.producer = s.ev.producer ∧ (joinAgain s).ev.consumer = s.ev.consumer ∧
    (joinAgain s).ev.kinds = s.ev.kinds ∧ (joinAgain s).ev.intBusy = s.ev.intBusy ∧
    (joinAgain s).ev.intLevel = s.ev.intLevel ∧ (joinAgain s).out.responses = s.out.responses ∧
    (joinAgain s).pending = s.pending := by
  simp only [joinAgain] <;> (repeat' split) <;> simp

@[simp] theorem runJoin_keeps (s : State) :
    (runJoin s).mem = s.mem ∧ (runJoin s).csr.counter = s.csr.counter ∧ (runJoin s).csr.committed = s.csr.committed ∧
    (runJoin s).csr.c = s.csr.c ∧ (runJoin s).port = s.port ∧ (runJoin s).arb = s.arb ∧ (runJoin s).regions = s.regions ∧
    (runJoin s).counters = s.counters ∧ (runJoin s).scrub = s.scrub ∧ (runJoin s).spare = s.spare ∧
    (runJoin s).sig.committedKeys = s.sig.committedKeys ∧ (runJoin s).sig.loadedKeys = s.sig.loadedKeys ∧
    (runJoin s).sig.keysSet = s.sig.keysSet ∧ (runJoin s).sig.s = s.sig.s ∧ (runJoin s).sig.valid = s.sig.valid ∧
    (runJoin s).jnl = s.jnl ∧ (runJoin s).vote.record = s.vote.record ∧
    (runJoin s).vote.skewReported = s.vote.skewReported ∧ (runJoin s).repair.dc = s.repair.dc ∧
    (runJoin s).repair.dv = s.repair.dv ∧ (runJoin s).repair.dO = s.repair.dO ∧ (runJoin s).repair.r = s.repair.r ∧
    (runJoin s).repair.dcValid = s.repair.dcValid ∧ (runJoin s).mgmt.params = s.mgmt.params ∧
    (runJoin s).mgmt.digest = s.mgmt.digest ∧ (runJoin s).mgmt.deferred = s.mgmt.deferred ∧
    (runJoin s).mgmt.area = s.mgmt.area ∧ (runJoin s).mgmt.issued = s.mgmt.issued ∧ (runJoin s).ev.health = s.ev.health ∧
    (runJoin s).ev.faultLatch = s.ev.faultLatch ∧ (runJoin s).ev.producer = s.ev.producer ∧
    (runJoin s).ev.consumer = s.ev.consumer ∧ (runJoin s).ev.kinds = s.ev.kinds ∧ (runJoin s).ev.intBusy = s.ev.intBusy ∧
    (runJoin s).ev.intLevel = s.ev.intLevel ∧ (runJoin s).out.responses = s.out.responses ∧
    (runJoin s).pending = s.pending := by
  simp only [runJoin] <;> (repeat' split) <;> simp

@[simp] theorem runResume_keeps (s : State) :
    (runResume s).mem = s.mem ∧ (runResume s).csr.committed = s.csr.committed ∧ (runResume s).csr.c = s.csr.c ∧
    (runResume s).port = s.port ∧ (runResume s).arb = s.arb ∧ (runResume s).regions = s.regions ∧
    (runResume s).counters = s.counters ∧ (runResume s).scrub = s.scrub ∧ (runResume s).spare = s.spare ∧
    (runResume s).sig = s.sig ∧ (runResume s).jnl = s.jnl ∧ (runResume s).vote.record = s.vote.record ∧
    (runResume s).link1 = s.link1 ∧ (runResume s).link2 = s.link2 ∧ (runResume s).repair = s.repair ∧
    (runResume s).mgmt.params = s.mgmt.params ∧ (runResume s).mgmt.digest = s.mgmt.digest ∧
    (runResume s).mgmt.deferred = s.mgmt.deferred ∧ (runResume s).mgmt.area = s.mgmt.area ∧
    (runResume s).mgmt.issued = s.mgmt.issued ∧ (runResume s).ev.health = s.ev.health ∧
    (runResume s).ev.faultLatch = s.ev.faultLatch ∧ (runResume s).ev.producer = s.ev.producer ∧
    (runResume s).ev.consumer = s.ev.consumer ∧ (runResume s).ev.kinds = s.ev.kinds ∧
    (runResume s).ev.intBusy = s.ev.intBusy ∧ (runResume s).ev.intLevel = s.ev.intLevel ∧ (runResume s).out = s.out ∧
    (runResume s).pending = s.pending := by
  simp only [runResume] <;> (repeat' split) <;> simp

/-- With no event write under way the front of the waiting queue is its first place. -/
theorem atFront_other (e : EventRecord) (s : State) (h : s.arb.grant ≠ some .eventWrite) : atFront e s = e :: s.ev.waiting := by
  unfold atFront
  split
  · exact absurd ‹_› h
  · rfl

/-- The record that an event write under way is writing stays first. -/
theorem atFront_writing (e w : EventRecord) (rest : List EventRecord) (s : State) (h : s.arb.grant = some .eventWrite)
    (hw : s.ev.waiting = w :: rest) : atFront e s = w :: e :: rest := by simp [atFront, h, hw]

/-- A record at the front makes the waiting queue longer by one. -/
theorem atFront_length (e : EventRecord) (s : State) : (atFront e s).length = s.ev.waiting.length + 1 := by
  unfold atFront
  split <;> simp_all

@[simp] theorem handSummary_keeps (s : State) :
    (handSummary s).mem = s.mem ∧ (handSummary s).csr = s.csr ∧ (handSummary s).port = s.port ∧
    (handSummary s).arb = s.arb ∧ (handSummary s).regions = s.regions ∧ (handSummary s).counters = s.counters ∧
    (handSummary s).scrub = s.scrub ∧ (handSummary s).spare = s.spare ∧ (handSummary s).sig = s.sig ∧
    (handSummary s).jnl = s.jnl ∧ (handSummary s).vote = s.vote ∧ (handSummary s).link1 = s.link1 ∧
    (handSummary s).link2 = s.link2 ∧ (handSummary s).repair = s.repair ∧ (handSummary s).mgmt = s.mgmt ∧
    (handSummary s).ev.health = s.ev.health ∧ (handSummary s).ev.faultLatch = s.ev.faultLatch ∧
    (handSummary s).ev.producer = s.ev.producer ∧ (handSummary s).ev.consumer = s.ev.consumer ∧
    (handSummary s).ev.kinds = s.ev.kinds ∧ (handSummary s).ev.intBusy = s.ev.intBusy ∧
    (handSummary s).ev.intLevel = s.ev.intLevel ∧ (handSummary s).out = s.out ∧ (handSummary s).pending = s.pending := by
  simp only [handSummary] <;> (repeat' split) <;> simp

@[simp] theorem acknowledge_keeps (n : Nat) (s : State) :
    (acknowledge n s).mem = s.mem ∧ (acknowledge n s).csr = s.csr ∧ (acknowledge n s).port = s.port ∧
    (acknowledge n s).arb = s.arb ∧ (acknowledge n s).regions = s.regions ∧ (acknowledge n s).counters = s.counters ∧
    (acknowledge n s).scrub = s.scrub ∧ (acknowledge n s).spare = s.spare ∧ (acknowledge n s).sig = s.sig ∧
    (acknowledge n s).jnl = s.jnl ∧ (acknowledge n s).vote = s.vote ∧ (acknowledge n s).link1 = s.link1 ∧
    (acknowledge n s).link2 = s.link2 ∧ (acknowledge n s).repair = s.repair ∧ (acknowledge n s).mgmt = s.mgmt ∧
    (acknowledge n s).ev.health = s.ev.health ∧ (acknowledge n s).ev.faultLatch = s.ev.faultLatch ∧
    (acknowledge n s).ev.producer = s.ev.producer ∧ (acknowledge n s).out = s.out ∧
    (acknowledge n s).pending = s.pending := by
  simp only [acknowledge] <;> (repeat' split) <;> simp

@[simp] theorem runEventAck_keeps (s : State) :
    (runEventAck s).mem = s.mem ∧ (runEventAck s).csr = s.csr ∧ (runEventAck s).port = s.port ∧
    (runEventAck s).arb = s.arb ∧ (runEventAck s).regions = s.regions ∧ (runEventAck s).counters = s.counters ∧
    (runEventAck s).scrub = s.scrub ∧ (runEventAck s).spare = s.spare ∧ (runEventAck s).sig = s.sig ∧
    (runEventAck s).jnl = s.jnl ∧ (runEventAck s).vote = s.vote ∧ (runEventAck s).link1 = s.link1 ∧
    (runEventAck s).link2 = s.link2 ∧ (runEventAck s).repair = s.repair ∧ (runEventAck s).mgmt.params = s.mgmt.params ∧
    (runEventAck s).mgmt.digest = s.mgmt.digest ∧ (runEventAck s).mgmt.deferred = s.mgmt.deferred ∧
    (runEventAck s).mgmt.area = s.mgmt.area ∧ (runEventAck s).mgmt.issued = s.mgmt.issued ∧
    (runEventAck s).ev.health = s.ev.health ∧ (runEventAck s).ev.faultLatch = s.ev.faultLatch ∧
    (runEventAck s).ev.producer = s.ev.producer ∧ (runEventAck s).out = s.out ∧ (runEventAck s).pending = s.pending := by
  simp only [runEventAck] <;> (repeat' split) <;> simp

@[simp] theorem runForceFault_keeps (s : State) :
    (runForceFault s).mem = s.mem ∧ (runForceFault s).csr = s.csr ∧ (runForceFault s).port = s.port ∧
    (runForceFault s).arb = s.arb ∧ (runForceFault s).regions = s.regions ∧ (runForceFault s).counters = s.counters ∧
    (runForceFault s).scrub = s.scrub ∧ (runForceFault s).spare = s.spare ∧ (runForceFault s).sig = s.sig ∧
    (runForceFault s).jnl = s.jnl ∧ (runForceFault s).vote = s.vote ∧ (runForceFault s).link1 = s.link1 ∧
    (runForceFault s).link2 = s.link2 ∧ (runForceFault s).repair = s.repair ∧
    (runForceFault s).mgmt.params = s.mgmt.params ∧ (runForceFault s).mgmt.digest = s.mgmt.digest ∧
    (runForceFault s).mgmt.deferred = s.mgmt.deferred ∧ (runForceFault s).mgmt.area = s.mgmt.area ∧
    (runForceFault s).mgmt.issued = s.mgmt.issued ∧ (runForceFault s).ev.health = s.ev.health ∧
    (runForceFault s).ev.producer = s.ev.producer ∧ (runForceFault s).ev.consumer = s.ev.consumer ∧
    (runForceFault s).ev.kinds = s.ev.kinds ∧ (runForceFault s).ev.waiting = s.ev.waiting ∧
    (runForceFault s).ev.withheld = s.ev.withheld ∧ (runForceFault s).ev.intBusy = s.ev.intBusy ∧
    (runForceFault s).ev.intLevel = s.ev.intLevel ∧ (runForceFault s).out = s.out ∧
    (runForceFault s).pending = s.pending := by
  simp only [runForceFault] <;> (repeat' split) <;> simp

@[simp] theorem runClearFault_keeps (s : State) :
    (runClearFault s).mem = s.mem ∧ (runClearFault s).csr = s.csr ∧ (runClearFault s).port = s.port ∧
    (runClearFault s).arb = s.arb ∧ (runClearFault s).regions = s.regions ∧ (runClearFault s).counters = s.counters ∧
    (runClearFault s).scrub = s.scrub ∧ (runClearFault s).spare = s.spare ∧ (runClearFault s).sig = s.sig ∧
    (runClearFault s).jnl = s.jnl ∧ (runClearFault s).vote = s.vote ∧ (runClearFault s).link1 = s.link1 ∧
    (runClearFault s).link2 = s.link2 ∧ (runClearFault s).repair = s.repair ∧
    (runClearFault s).mgmt.params = s.mgmt.params ∧ (runClearFault s).mgmt.digest = s.mgmt.digest ∧
    (runClearFault s).mgmt.deferred = s.mgmt.deferred ∧ (runClearFault s).mgmt.area = s.mgmt.area ∧
    (runClearFault s).mgmt.issued = s.mgmt.issued ∧ (runClearFault s).ev.health = s.ev.health ∧
    (runClearFault s).ev.producer = s.ev.producer ∧ (runClearFault s).ev.consumer = s.ev.consumer ∧
    (runClearFault s).ev.kinds = s.ev.kinds ∧ (runClearFault s).ev.waiting = s.ev.waiting ∧
    (runClearFault s).ev.withheld = s.ev.withheld ∧ (runClearFault s).ev.intBusy = s.ev.intBusy ∧
    (runClearFault s).ev.intLevel = s.ev.intLevel ∧ (runClearFault s).out = s.out ∧
    (runClearFault s).pending = s.pending := by
  simp only [runClearFault] <;> (repeat' split) <;> simp

@[simp] theorem engineRead_keeps (s : State) :
    (engineRead s).mem = s.mem ∧ (engineRead s).csr = s.csr ∧ (engineRead s).port = s.port ∧ (engineRead s).arb = s.arb ∧
    (engineRead s).regions = s.regions ∧ (engineRead s).counters = s.counters ∧ (engineRead s).scrub.line = s.scrub.line ∧
    (engineRead s).scrub.word = s.scrub.word ∧ (engineRead s).scrub.passCount = s.scrub.passCount ∧
    (engineRead s).scrub.allowance = s.scrub.allowance ∧ (engineRead s).spare = s.spare ∧ (engineRead s).sig = s.sig ∧
    (engineRead s).jnl = s.jnl ∧ (engineRead s).vote = s.vote ∧ (engineRead s).link1 = s.link1 ∧
    (engineRead s).link2 = s.link2 ∧ (engineRead s).repair = s.repair ∧ (engineRead s).mgmt = s.mgmt ∧
    (engineRead s).ev = s.ev ∧ (engineRead s).out = s.out ∧ (engineRead s).pending = s.pending := by
  simp only [engineRead] <;> (repeat' split) <;> simp

@[simp] theorem runReadStatus_keeps (s : State) :
    (runReadStatus s).mem = s.mem ∧ (runReadStatus s).csr = s.csr ∧ (runReadStatus s).port = s.port ∧
    (runReadStatus s).arb = s.arb ∧ (runReadStatus s).regions = s.regions ∧ (runReadStatus s).counters = s.counters ∧
    (runReadStatus s).scrub.line = s.scrub.line ∧ (runReadStatus s).scrub.word = s.scrub.word ∧
    (runReadStatus s).scrub.passCount = s.scrub.passCount ∧ (runReadStatus s).scrub.allowance = s.scrub.allowance ∧
    (runReadStatus s).spare = s.spare ∧ (runReadStatus s).sig = s.sig ∧ (runReadStatus s).jnl = s.jnl ∧
    (runReadStatus s).vote = s.vote ∧ (runReadStatus s).link1 = s.link1 ∧ (runReadStatus s).link2 = s.link2 ∧
    (runReadStatus s).repair = s.repair ∧ (runReadStatus s).mgmt.params = s.mgmt.params ∧
    (runReadStatus s).mgmt.digest = s.mgmt.digest ∧ (runReadStatus s).mgmt.deferred = s.mgmt.deferred ∧
    (runReadStatus s).mgmt.area = s.mgmt.area ∧ (runReadStatus s).mgmt.issued = s.mgmt.issued ∧
    (runReadStatus s).ev = s.ev ∧ (runReadStatus s).out = s.out ∧ (runReadStatus s).pending = s.pending := by
  simp only [runReadStatus] <;> (repeat' split) <;> simp

@[simp] theorem clearCounters_keeps (s : State) :
    (clearCounters s).mem = s.mem ∧ (clearCounters s).csr = s.csr ∧ (clearCounters s).port.queue = s.port.queue ∧
    (clearCounters s).port.held = s.port.held ∧ (clearCounters s).port.lastRefusal = s.port.lastRefusal ∧
    (clearCounters s).port.refusalReported = s.port.refusalReported ∧ (clearCounters s).arb = s.arb ∧
    (clearCounters s).regions = s.regions ∧ (clearCounters s).scrub = s.scrub ∧ (clearCounters s).spare = s.spare ∧
    (clearCounters s).sig = s.sig ∧ (clearCounters s).jnl = s.jnl ∧ (clearCounters s).vote = s.vote ∧
    (clearCounters s).link1.mode = s.link1.mode ∧ (clearCounters s).link1.status = s.link1.status ∧
    (clearCounters s).link1.buffer = s.link1.buffer ∧ (clearCounters s).link1.peer = s.link1.peer ∧
    (clearCounters s).link2.mode = s.link2.mode ∧ (clearCounters s).link2.status = s.link2.status ∧
    (clearCounters s).link2.buffer = s.link2.buffer ∧ (clearCounters s).link2.peer = s.link2.peer ∧
    (clearCounters s).repair = s.repair ∧ (clearCounters s).mgmt = s.mgmt ∧ (clearCounters s).ev = s.ev ∧
    (clearCounters s).out = s.out ∧ (clearCounters s).pending = s.pending := by
  simp only [clearCounters] <;> (repeat' split) <;> simp

@[simp] theorem runReadCounters_keeps (s : State) :
    (runReadCounters s).mem = s.mem ∧ (runReadCounters s).csr = s.csr ∧ (runReadCounters s).port.queue = s.port.queue ∧
    (runReadCounters s).port.held = s.port.held ∧ (runReadCounters s).port.lastRefusal = s.port.lastRefusal ∧
    (runReadCounters s).port.refusalReported = s.port.refusalReported ∧ (runReadCounters s).arb = s.arb ∧
    (runReadCounters s).regions = s.regions ∧ (runReadCounters s).scrub = s.scrub ∧ (runReadCounters s).spare = s.spare ∧
    (runReadCounters s).sig = s.sig ∧ (runReadCounters s).jnl = s.jnl ∧ (runReadCounters s).vote = s.vote ∧
    (runReadCounters s).link1.mode = s.link1.mode ∧ (runReadCounters s).link1.status = s.link1.status ∧
    (runReadCounters s).link1.buffer = s.link1.buffer ∧ (runReadCounters s).link1.peer = s.link1.peer ∧
    (runReadCounters s).link2.mode = s.link2.mode ∧ (runReadCounters s).link2.status = s.link2.status ∧
    (runReadCounters s).link2.buffer = s.link2.buffer ∧ (runReadCounters s).link2.peer = s.link2.peer ∧
    (runReadCounters s).repair = s.repair ∧ (runReadCounters s).mgmt.params = s.mgmt.params ∧
    (runReadCounters s).mgmt.digest = s.mgmt.digest ∧ (runReadCounters s).mgmt.deferred = s.mgmt.deferred ∧
    (runReadCounters s).mgmt.area = s.mgmt.area ∧ (runReadCounters s).mgmt.issued = s.mgmt.issued ∧
    (runReadCounters s).ev = s.ev ∧ (runReadCounters s).out = s.out ∧ (runReadCounters s).pending = s.pending := by
  simp only [runReadCounters] <;> (repeat' split) <;> simp

@[simp] theorem runReadEntry_keeps (s : State) :
    (runReadEntry s).mem = s.mem ∧ (runReadEntry s).csr = s.csr ∧ (runReadEntry s).port = s.port ∧
    (runReadEntry s).arb = s.arb ∧ (runReadEntry s).regions = s.regions ∧ (runReadEntry s).counters = s.counters ∧
    (runReadEntry s).scrub = s.scrub ∧ (runReadEntry s).spare = s.spare ∧ (runReadEntry s).sig = s.sig ∧
    (runReadEntry s).jnl = s.jnl ∧ (runReadEntry s).vote = s.vote ∧ (runReadEntry s).link1 = s.link1 ∧
    (runReadEntry s).link2 = s.link2 ∧ (runReadEntry s).repair = s.repair ∧ (runReadEntry s).mgmt.params = s.mgmt.params ∧
    (runReadEntry s).mgmt.digest = s.mgmt.digest ∧ (runReadEntry s).mgmt.deferred = s.mgmt.deferred ∧
    (runReadEntry s).mgmt.area = s.mgmt.area ∧ (runReadEntry s).mgmt.issued = s.mgmt.issued ∧ (runReadEntry s).ev = s.ev ∧
    (runReadEntry s).out = s.out ∧ (runReadEntry s).pending = s.pending := by
  simp only [runReadEntry] <;> (repeat' split) <;> simp

@[simp] theorem acceptIssue_keeps (s : State) :
    (acceptIssue s).mem = s.mem ∧ (acceptIssue s).csr = s.csr ∧ (acceptIssue s).port = s.port ∧
    (acceptIssue s).arb = s.arb ∧ (acceptIssue s).regions = s.regions ∧ (acceptIssue s).counters = s.counters ∧
    (acceptIssue s).scrub = s.scrub ∧ (acceptIssue s).spare = s.spare ∧ (acceptIssue s).sig = s.sig ∧
    (acceptIssue s).jnl = s.jnl ∧ (acceptIssue s).vote = s.vote ∧ (acceptIssue s).link1 = s.link1 ∧
    (acceptIssue s).link2 = s.link2 ∧ (acceptIssue s).repair = s.repair ∧ (acceptIssue s).mgmt.params = s.mgmt.params ∧
    (acceptIssue s).mgmt.digest = s.mgmt.digest ∧ (acceptIssue s).mgmt.deferred = s.mgmt.deferred ∧
    (acceptIssue s).mgmt.area = s.mgmt.area ∧ (acceptIssue s).ev = s.ev ∧ (acceptIssue s).out = s.out ∧
    (acceptIssue s).pending = s.pending := by
  simp only [acceptIssue] <;> (repeat' split) <;> simp

@[simp] theorem placeWords_keeps (ws : List Word) (s : State) :
    (placeWords ws s).mem = s.mem ∧ (placeWords ws s).csr = s.csr ∧ (placeWords ws s).port = s.port ∧
    (placeWords ws s).arb = s.arb ∧ (placeWords ws s).regions = s.regions ∧ (placeWords ws s).counters = s.counters ∧
    (placeWords ws s).scrub = s.scrub ∧ (placeWords ws s).spare = s.spare ∧ (placeWords ws s).sig = s.sig ∧
    (placeWords ws s).jnl = s.jnl ∧ (placeWords ws s).vote = s.vote ∧ (placeWords ws s).link1 = s.link1 ∧
    (placeWords ws s).link2 = s.link2 ∧ (placeWords ws s).repair = s.repair ∧
    (placeWords ws s).mgmt.params = s.mgmt.params ∧ (placeWords ws s).mgmt.digest = s.mgmt.digest ∧
    (placeWords ws s).mgmt.deferred = s.mgmt.deferred ∧ (placeWords ws s).mgmt.issued = s.mgmt.issued ∧
    (placeWords ws s).mgmt.phase = s.mgmt.phase ∧ (placeWords ws s).ev = s.ev ∧ (placeWords ws s).out = s.out ∧
    (placeWords ws s).pending = s.pending := by
  simp only [placeWords] <;> (repeat' split) <;> simp

end Sys2Proof.Machine
end

