-- ==== Sys2Proof/Laws/Port.lean ====
section
/-! SUPPORT. What the processor port operations leave as it was: for each operation one lemma that names every
part of the state it keeps. -/

namespace Sys2Proof.Machine

set_option linter.unnecessarySeqFocus false
set_option linter.unusedTactic false
set_option linter.unreachableTactic false
set_option linter.unusedSimpArgs false
@[simp] theorem recordRefusal_keeps (t : Transaction) (r : RefuseAccess) (s : State) :
    (recordRefusal t r s).mem = s.mem ∧ (recordRefusal t r s).csr = s.csr ∧
    (recordRefusal t r s).port.queue = s.port.queue ∧ (recordRefusal t r s).port.held = s.port.held ∧
    (recordRefusal t r s).arb = s.arb ∧ (recordRefusal t r s).regions = s.regions ∧
    (recordRefusal t r s).counters = s.counters ∧ (recordRefusal t r s).scrub = s.scrub ∧
    (recordRefusal t r s).spare = s.spare ∧ (recordRefusal t r s).sig = s.sig ∧ (recordRefusal t r s).jnl = s.jnl ∧
    (recordRefusal t r s).vote = s.vote ∧ (recordRefusal t r s).link1 = s.link1 ∧ (recordRefusal t r s).link2 = s.link2 ∧
    (recordRefusal t r s).repair = s.repair ∧ (recordRefusal t r s).mgmt = s.mgmt ∧
    (recordRefusal t r s).ev.health = s.ev.health ∧ (recordRefusal t r s).ev.faultLatch = s.ev.faultLatch ∧
    (recordRefusal t r s).ev.producer = s.ev.producer ∧ (recordRefusal t r s).ev.consumer = s.ev.consumer ∧
    (recordRefusal t r s).ev.kinds = s.ev.kinds ∧ (recordRefusal t r s).ev.intBusy = s.ev.intBusy ∧
    (recordRefusal t r s).ev.intLevel = s.ev.intLevel ∧ (recordRefusal t r s).out = s.out ∧
    (recordRefusal t r s).pending = s.pending := by
  simp only [recordRefusal] <;> (repeat' split) <;> simp

@[simp] theorem refuseHead_keeps (t : Transaction) (r : RefuseAccess) (s : State) :
    (refuseHead t r s).mem = s.mem ∧ (refuseHead t r s).csr = s.csr ∧ (refuseHead t r s).arb = s.arb ∧
    (refuseHead t r s).regions = s.regions ∧ (refuseHead t r s).counters = s.counters ∧ (refuseHead t r s).scrub = s.scrub ∧
    (refuseHead t r s).spare = s.spare ∧ (refuseHead t r s).sig = s.sig ∧ (refuseHead t r s).jnl = s.jnl ∧
    (refuseHead t r s).vote = s.vote ∧ (refuseHead t r s).link1 = s.link1 ∧ (refuseHead t r s).link2 = s.link2 ∧
    (refuseHead t r s).repair = s.repair ∧ (refuseHead t r s).mgmt = s.mgmt ∧ (refuseHead t r s).ev.health = s.ev.health ∧
    (refuseHead t r s).ev.faultLatch = s.ev.faultLatch ∧ (refuseHead t r s).ev.producer = s.ev.producer ∧
    (refuseHead t r s).ev.consumer = s.ev.consumer ∧ (refuseHead t r s).ev.kinds = s.ev.kinds ∧
    (refuseHead t r s).ev.intBusy = s.ev.intBusy ∧ (refuseHead t r s).ev.intLevel = s.ev.intLevel ∧
    (refuseHead t r s).out.tx1 = s.out.tx1 ∧ (refuseHead t r s).out.tx2 = s.out.tx2 ∧
    (refuseHead t r s).pending = s.pending := by
  simp only [refuseHead] <;> (repeat' split) <;> simp

@[simp] theorem writeArea_keeps (i : Nat) (w : WriteWord) (s : State) :
    (writeArea i w s).mem = s.mem ∧ (writeArea i w s).csr = s.csr ∧ (writeArea i w s).port = s.port ∧
    (writeArea i w s).arb = s.arb ∧ (writeArea i w s).regions = s.regions ∧ (writeArea i w s).counters = s.counters ∧
    (writeArea i w s).scrub = s.scrub ∧ (writeArea i w s).spare = s.spare ∧ (writeArea i w s).sig = s.sig ∧
    (writeArea i w s).jnl = s.jnl ∧ (writeArea i w s).vote = s.vote ∧ (writeArea i w s).link1 = s.link1 ∧
    (writeArea i w s).link2 = s.link2 ∧ (writeArea i w s).repair = s.repair ∧
    (writeArea i w s).mgmt.params = s.mgmt.params ∧ (writeArea i w s).mgmt.digest = s.mgmt.digest ∧
    (writeArea i w s).mgmt.deferred = s.mgmt.deferred ∧ (writeArea i w s).mgmt.issued = s.mgmt.issued ∧
    (writeArea i w s).mgmt.phase = s.mgmt.phase ∧ (writeArea i w s).ev = s.ev ∧ (writeArea i w s).out = s.out ∧
    (writeArea i w s).pending = s.pending := by
  simp only [writeArea] <;> (repeat' split) <;> simp

@[simp] theorem grantHead_keeps (s : State) :
    (grantHead s).mem = s.mem ∧ (grantHead s).csr = s.csr ∧ (grantHead s).port.queue = s.port.queue ∧
    (grantHead s).port.lastRefusal = s.port.lastRefusal ∧ (grantHead s).port.refused = s.port.refused ∧
    (grantHead s).port.refusalReported = s.port.refusalReported ∧ (grantHead s).regions = s.regions ∧
    (grantHead s).counters = s.counters ∧ (grantHead s).scrub = s.scrub ∧ (grantHead s).spare = s.spare ∧
    (grantHead s).sig = s.sig ∧ (grantHead s).jnl = s.jnl ∧ (grantHead s).vote = s.vote ∧ (grantHead s).link1 = s.link1 ∧
    (grantHead s).link2 = s.link2 ∧ (grantHead s).repair = s.repair ∧ (grantHead s).mgmt = s.mgmt ∧
    (grantHead s).ev = s.ev ∧ (grantHead s).out = s.out ∧ (grantHead s).pending = s.pending := by
  simp only [grantHead] <;> (repeat' split) <;> simp

@[simp] theorem acceptTransaction_keeps (t : Transaction) (s : State) :
    (acceptTransaction t s).mem = s.mem ∧ (acceptTransaction t s).csr = s.csr ∧
    (acceptTransaction t s).port.held = s.port.held ∧ (acceptTransaction t s).port.lastRefusal = s.port.lastRefusal ∧
    (acceptTransaction t s).port.refused = s.port.refused ∧
    (acceptTransaction t s).port.refusalReported = s.port.refusalReported ∧ (acceptTransaction t s).arb = s.arb ∧
    (acceptTransaction t s).regions = s.regions ∧ (acceptTransaction t s).counters = s.counters ∧
    (acceptTransaction t s).scrub = s.scrub ∧ (acceptTransaction t s).spare = s.spare ∧
    (acceptTransaction t s).sig = s.sig ∧ (acceptTransaction t s).jnl = s.jnl ∧ (acceptTransaction t s).vote = s.vote ∧
    (acceptTransaction t s).link1 = s.link1 ∧ (acceptTransaction t s).link2 = s.link2 ∧
    (acceptTransaction t s).repair = s.repair ∧ (acceptTransaction t s).mgmt = s.mgmt ∧ (acceptTransaction t s).ev = s.ev ∧
    (acceptTransaction t s).out = s.out ∧ (acceptTransaction t s).pending = s.pending := by
  simp only [acceptTransaction] <;> (repeat' split) <;> simp

end Sys2Proof.Machine
end

