-- ==== Sys2Proof/Laws/ExecLinks.lean ====
section
/-! SUPPORT. What what a checked frame does leave as it was: for each operation one lemma that names every
part of the state it keeps. -/

namespace Sys2Proof.Machine

set_option linter.unnecessarySeqFocus false
set_option linter.unusedTactic false
set_option linter.unreachableTactic false
set_option linter.unusedSimpArgs false
@[simp] theorem useHail_keeps (l : LinkId) (f : Frame) (s : State) :
    (useHail l f s).mem = s.mem ∧ (useHail l f s).port = s.port ∧ (useHail l f s).arb = s.arb ∧
    (useHail l f s).regions = s.regions ∧ (useHail l f s).counters = s.counters ∧ (useHail l f s).scrub = s.scrub ∧
    (useHail l f s).spare = s.spare ∧ (useHail l f s).sig.committedKeys = s.sig.committedKeys ∧
    (useHail l f s).sig.loadedKeys = s.sig.loadedKeys ∧ (useHail l f s).sig.keysSet = s.sig.keysSet ∧
    (useHail l f s).sig.s = s.sig.s ∧ (useHail l f s).mgmt = s.mgmt ∧ (useHail l f s).ev.health = s.ev.health ∧
    (useHail l f s).ev.producer = s.ev.producer ∧ (useHail l f s).ev.consumer = s.ev.consumer ∧
    (useHail l f s).ev.kinds = s.ev.kinds ∧ (useHail l f s).ev.intBusy = s.ev.intBusy ∧
    (useHail l f s).ev.intLevel = s.ev.intLevel ∧ (useHail l f s).out.responses = s.out.responses ∧
    (useHail l f s).pending = s.pending := by
  simp only [useHail] <;> (repeat' split) <;> simp

@[simp] theorem useBeat_keeps (f : Frame) (s : State) :
    (useBeat f s).mem = s.mem ∧ (useBeat f s).port = s.port ∧ (useBeat f s).arb = s.arb ∧
    (useBeat f s).regions = s.regions ∧ (useBeat f s).counters = s.counters ∧ (useBeat f s).scrub = s.scrub ∧
    (useBeat f s).spare = s.spare ∧ (useBeat f s).sig.committedKeys = s.sig.committedKeys ∧
    (useBeat f s).sig.loadedKeys = s.sig.loadedKeys ∧ (useBeat f s).sig.keysSet = s.sig.keysSet ∧
    (useBeat f s).sig.s = s.sig.s ∧ (useBeat f s).mgmt = s.mgmt ∧ (useBeat f s).ev.health = s.ev.health ∧
    (useBeat f s).ev.producer = s.ev.producer ∧ (useBeat f s).ev.consumer = s.ev.consumer ∧
    (useBeat f s).ev.kinds = s.ev.kinds ∧ (useBeat f s).ev.intBusy = s.ev.intBusy ∧
    (useBeat f s).ev.intLevel = s.ev.intLevel ∧ (useBeat f s).out.responses = s.out.responses ∧
    (useBeat f s).pending = s.pending := by
  simp only [useBeat] <;> (repeat' split) <;> simp

@[simp] theorem useSignFrame_keeps (l : LinkId) (f : Frame) (s : State) :
    (useSignFrame l f s).mem = s.mem ∧ (useSignFrame l f s).port = s.port ∧ (useSignFrame l f s).arb = s.arb ∧
    (useSignFrame l f s).regions = s.regions ∧ (useSignFrame l f s).counters = s.counters ∧
    (useSignFrame l f s).scrub = s.scrub ∧ (useSignFrame l f s).spare = s.spare ∧
    (useSignFrame l f s).sig.committedKeys = s.sig.committedKeys ∧ (useSignFrame l f s).sig.loadedKeys = s.sig.loadedKeys ∧
    (useSignFrame l f s).sig.keysSet = s.sig.keysSet ∧ (useSignFrame l f s).sig.s = s.sig.s ∧
    (useSignFrame l f s).mgmt = s.mgmt ∧ (useSignFrame l f s).ev.producer = s.ev.producer ∧
    (useSignFrame l f s).ev.consumer = s.ev.consumer ∧ (useSignFrame l f s).ev.kinds = s.ev.kinds ∧
    (useSignFrame l f s).ev.intBusy = s.ev.intBusy ∧ (useSignFrame l f s).ev.intLevel = s.ev.intLevel ∧
    (useSignFrame l f s).out.responses = s.out.responses ∧ (useSignFrame l f s).pending = s.pending := by
  simp only [useSignFrame] <;> (repeat' split) <;> simp

@[simp] theorem useRequest_keeps (l : LinkId) (f : Frame) (s : State) :
    (useRequest l f s).mem = s.mem ∧ (useRequest l f s).csr = s.csr ∧ (useRequest l f s).port = s.port ∧
    (useRequest l f s).arb = s.arb ∧ (useRequest l f s).regions = s.regions ∧ (useRequest l f s).counters = s.counters ∧
    (useRequest l f s).scrub = s.scrub ∧ (useRequest l f s).spare = s.spare ∧ (useRequest l f s).sig = s.sig ∧
    (useRequest l f s).jnl = s.jnl ∧ (useRequest l f s).vote.record = s.vote.record ∧
    (useRequest l f s).vote.skewReported = s.vote.skewReported ∧ (useRequest l f s).repair.dc = s.repair.dc ∧
    (useRequest l f s).repair.dv = s.repair.dv ∧ (useRequest l f s).repair.dO = s.repair.dO ∧
    (useRequest l f s).repair.dcValid = s.repair.dcValid ∧ (useRequest l f s).mgmt = s.mgmt ∧
    (useRequest l f s).ev.health = s.ev.health ∧ (useRequest l f s).ev.faultLatch = s.ev.faultLatch ∧
    (useRequest l f s).ev.producer = s.ev.producer ∧ (useRequest l f s).ev.consumer = s.ev.consumer ∧
    (useRequest l f s).ev.kinds = s.ev.kinds ∧ (useRequest l f s).ev.intBusy = s.ev.intBusy ∧
    (useRequest l f s).ev.intLevel = s.ev.intLevel ∧ (useRequest l f s).out.responses = s.out.responses ∧
    (useRequest l f s).pending = s.pending := by
  simp only [useRequest] <;> (repeat' split) <;> simp

@[simp] theorem useAccept_keeps (l : LinkId) (f : Frame) (s : State) :
    (useAccept l f s).mem = s.mem ∧ (useAccept l f s).csr.counter = s.csr.counter ∧
    (useAccept l f s).csr.committed = s.csr.committed ∧ (useAccept l f s).csr.c = s.csr.c ∧
    (useAccept l f s).port = s.port ∧ (useAccept l f s).arb = s.arb ∧ (useAccept l f s).regions = s.regions ∧
    (useAccept l f s).counters = s.counters ∧ (useAccept l f s).scrub = s.scrub ∧ (useAccept l f s).spare = s.spare ∧
    (useAccept l f s).sig = s.sig ∧ (useAccept l f s).jnl = s.jnl ∧ (useAccept l f s).vote = s.vote ∧
    (useAccept l f s).repair.dc = s.repair.dc ∧ (useAccept l f s).repair.dv = s.repair.dv ∧
    (useAccept l f s).repair.dO = s.repair.dO ∧ (useAccept l f s).repair.r = s.repair.r ∧
    (useAccept l f s).repair.dcValid = s.repair.dcValid ∧ (useAccept l f s).mgmt = s.mgmt ∧
    (useAccept l f s).ev.health = s.ev.health ∧ (useAccept l f s).ev.faultLatch = s.ev.faultLatch ∧
    (useAccept l f s).ev.producer = s.ev.producer ∧ (useAccept l f s).ev.consumer = s.ev.consumer ∧
    (useAccept l f s).ev.kinds = s.ev.kinds ∧ (useAccept l f s).ev.intBusy = s.ev.intBusy ∧
    (useAccept l f s).ev.intLevel = s.ev.intLevel ∧ (useAccept l f s).out.responses = s.out.responses ∧
    (useAccept l f s).pending = s.pending := by
  simp only [useAccept] <;> (repeat' split) <;> simp

@[simp] theorem useRefuse_keeps (f : Frame) (s : State) :
    (useRefuse f s).mem = s.mem ∧ (useRefuse f s).csr = s.csr ∧ (useRefuse f s).port = s.port ∧
    (useRefuse f s).arb = s.arb ∧ (useRefuse f s).regions = s.regions ∧ (useRefuse f s).counters = s.counters ∧
    (useRefuse f s).scrub = s.scrub ∧ (useRefuse f s).spare = s.spare ∧ (useRefuse f s).sig = s.sig ∧
    (useRefuse f s).jnl = s.jnl ∧ (useRefuse f s).vote.record = s.vote.record ∧
    (useRefuse f s).vote.skewReported = s.vote.skewReported ∧ (useRefuse f s).repair.dc = s.repair.dc ∧
    (useRefuse f s).repair.dv = s.repair.dv ∧ (useRefuse f s).repair.dO = s.repair.dO ∧
    (useRefuse f s).repair.r = s.repair.r ∧ (useRefuse f s).repair.dcValid = s.repair.dcValid ∧
    (useRefuse f s).mgmt = s.mgmt ∧ (useRefuse f s).ev.health = s.ev.health ∧
    (useRefuse f s).ev.faultLatch = s.ev.faultLatch ∧ (useRefuse f s).ev.producer = s.ev.producer ∧
    (useRefuse f s).ev.consumer = s.ev.consumer ∧ (useRefuse f s).ev.kinds = s.ev.kinds ∧
    (useRefuse f s).ev.intBusy = s.ev.intBusy ∧ (useRefuse f s).ev.intLevel = s.ev.intLevel ∧
    (useRefuse f s).out.responses = s.out.responses ∧ (useRefuse f s).pending = s.pending := by
  simp only [useRefuse] <;> (repeat' split) <;> simp

@[simp] theorem useLine_keeps (l : LinkId) (f : Frame) (s : State) :
    (useLine l f s).mem = s.mem ∧ (useLine l f s).csr = s.csr ∧ (useLine l f s).port = s.port ∧
    (useLine l f s).arb = s.arb ∧ (useLine l f s).regions = s.regions ∧ (useLine l f s).counters = s.counters ∧
    (useLine l f s).scrub = s.scrub ∧ (useLine l f s).spare = s.spare ∧ (useLine l f s).sig = s.sig ∧
    (useLine l f s).jnl = s.jnl ∧ (useLine l f s).vote = s.vote ∧ (useLine l f s).repair.dc = s.repair.dc ∧
    (useLine l f s).repair.dv = s.repair.dv ∧ (useLine l f s).repair.dO = s.repair.dO ∧
    (useLine l f s).repair.r = s.repair.r ∧ (useLine l f s).repair.dcValid = s.repair.dcValid ∧
    (useLine l f s).mgmt = s.mgmt ∧ (useLine l f s).ev = s.ev ∧ (useLine l f s).out.responses = s.out.responses ∧
    (useLine l f s).pending = s.pending := by
  simp only [useLine] <;> (repeat' split) <;> simp

@[simp] theorem useClose_keeps (f : Frame) (s : State) :
    (useClose f s).mem = s.mem ∧ (useClose f s).csr = s.csr ∧ (useClose f s).port = s.port ∧ (useClose f s).arb = s.arb ∧
    (useClose f s).regions = s.regions ∧ (useClose f s).counters = s.counters ∧ (useClose f s).scrub = s.scrub ∧
    (useClose f s).spare = s.spare ∧ (useClose f s).sig = s.sig ∧ (useClose f s).jnl = s.jnl ∧
    (useClose f s).vote = s.vote ∧ (useClose f s).link1 = s.link1 ∧ (useClose f s).link2 = s.link2 ∧
    (useClose f s).repair.dc = s.repair.dc ∧ (useClose f s).repair.dv = s.repair.dv ∧
    (useClose f s).repair.dO = s.repair.dO ∧ (useClose f s).repair.r = s.repair.r ∧
    (useClose f s).repair.dcValid = s.repair.dcValid ∧ (useClose f s).mgmt = s.mgmt ∧ (useClose f s).ev = s.ev ∧
    (useClose f s).out = s.out ∧ (useClose f s).pending = s.pending := by
  simp only [useClose] <;> (repeat' split) <;> simp

@[simp] theorem useVerdict_keeps (f : Frame) (s : State) :
    (useVerdict f s).mem = s.mem ∧ (useVerdict f s).csr.committed = s.csr.committed ∧ (useVerdict f s).csr.c = s.csr.c ∧
    (useVerdict f s).port = s.port ∧ (useVerdict f s).arb = s.arb ∧ (useVerdict f s).regions = s.regions ∧
    (useVerdict f s).counters = s.counters ∧ (useVerdict f s).scrub = s.scrub ∧ (useVerdict f s).spare = s.spare ∧
    (useVerdict f s).sig = s.sig ∧ (useVerdict f s).jnl = s.jnl ∧ (useVerdict f s).vote.record = s.vote.record ∧
    (useVerdict f s).link1 = s.link1 ∧ (useVerdict f s).link2 = s.link2 ∧ (useVerdict f s).repair.dc = s.repair.dc ∧
    (useVerdict f s).repair.dv = s.repair.dv ∧ (useVerdict f s).repair.dO = s.repair.dO ∧
    (useVerdict f s).repair.dcValid = s.repair.dcValid ∧ (useVerdict f s).mgmt = s.mgmt ∧
    (useVerdict f s).ev.health = s.ev.health ∧ (useVerdict f s).ev.faultLatch = s.ev.faultLatch ∧
    (useVerdict f s).ev.producer = s.ev.producer ∧ (useVerdict f s).ev.consumer = s.ev.consumer ∧
    (useVerdict f s).ev.kinds = s.ev.kinds ∧ (useVerdict f s).ev.intBusy = s.ev.intBusy ∧
    (useVerdict f s).ev.intLevel = s.ev.intLevel ∧ (useVerdict f s).out = s.out ∧ (useVerdict f s).pending = s.pending := by
  simp only [useVerdict] <;> (repeat' split) <;> simp

@[simp] theorem useAbort_keeps (f : Frame) (s : State) :
    (useAbort f s).mem = s.mem ∧ (useAbort f s).csr.counter = s.csr.counter ∧
    (useAbort f s).csr.committed = s.csr.committed ∧ (useAbort f s).csr.c = s.csr.c ∧ (useAbort f s).port = s.port ∧
    (useAbort f s).arb = s.arb ∧ (useAbort f s).regions = s.regions ∧ (useAbort f s).counters = s.counters ∧
    (useAbort f s).scrub = s.scrub ∧ (useAbort f s).spare = s.spare ∧
    (useAbort f s).sig.committedKeys = s.sig.committedKeys ∧ (useAbort f s).sig.loadedKeys = s.sig.loadedKeys ∧
    (useAbort f s).sig.keysSet = s.sig.keysSet ∧ (useAbort f s).sig.s = s.sig.s ∧ (useAbort f s).sig.valid = s.sig.valid ∧
    (useAbort f s).jnl = s.jnl ∧ (useAbort f s).vote.record = s.vote.record ∧
    (useAbort f s).vote.skewReported = s.vote.skewReported ∧ (useAbort f s).repair.dc = s.repair.dc ∧
    (useAbort f s).repair.dv = s.repair.dv ∧ (useAbort f s).repair.dO = s.repair.dO ∧
    (useAbort f s).repair.dcValid = s.repair.dcValid ∧ (useAbort f s).mgmt = s.mgmt ∧
    (useAbort f s).ev.health = s.ev.health ∧ (useAbort f s).ev.faultLatch = s.ev.faultLatch ∧
    (useAbort f s).ev.producer = s.ev.producer ∧ (useAbort f s).ev.consumer = s.ev.consumer ∧
    (useAbort f s).ev.kinds = s.ev.kinds ∧ (useAbort f s).ev.intBusy = s.ev.intBusy ∧
    (useAbort f s).ev.intLevel = s.ev.intLevel ∧ (useAbort f s).out.responses = s.out.responses ∧
    (useAbort f s).pending = s.pending := by
  simp only [useAbort] <;> (repeat' split) <;> simp

end Sys2Proof.Machine
end

