-- ==== Sys2Proof/Laws/ExecVote.lean ====
section
/-! SUPPORT. What the mark and the window leave as it was: for each operation one lemma that names every
part of the state it keeps. -/

namespace Sys2Proof.Machine

set_option linter.unnecessarySeqFocus false
set_option linter.unusedTactic false
set_option linter.unreachableTactic false
set_option linter.unusedSimpArgs false
/-- The window's expiry with no grant under way. -/
theorem windowExpiry_keeps (s : State) (h : s.arb.grant = none) :
    (windowExpiry s).mem = s.mem ∧ (windowExpiry s).port = s.port ∧ (windowExpiry s).arb = s.arb ∧
    (windowExpiry s).regions = s.regions ∧ (windowExpiry s).counters = s.counters ∧ (windowExpiry s).scrub = s.scrub ∧
    (windowExpiry s).spare = s.spare ∧ (windowExpiry s).sig.committedKeys = s.sig.committedKeys ∧
    (windowExpiry s).sig.loadedKeys = s.sig.loadedKeys ∧ (windowExpiry s).sig.keysSet = s.sig.keysSet ∧
    (windowExpiry s).sig.s = s.sig.s ∧ (windowExpiry s).mgmt = s.mgmt ∧ (windowExpiry s).ev.producer = s.ev.producer ∧
    (windowExpiry s).ev.consumer = s.ev.consumer ∧ (windowExpiry s).ev.kinds = s.ev.kinds ∧
    (windowExpiry s).ev.intBusy = s.ev.intBusy ∧ (windowExpiry s).ev.intLevel = s.ev.intLevel ∧
    (windowExpiry s).out.responses = s.out.responses ∧ (windowExpiry s).pending = s.pending := by
  simp only [windowExpiry, resolveOpen, overGrant, h] <;> (repeat' split) <;> simp [h]

/-- The window's expiry resolves an open vote at once when no grant is under way. -/
theorem windowExpiry_open (s : State) (h : s.arb.grant = none) (ho : s.vote.record.isOpen = true)
    (hw : s.vote.record.window ≠ none) : windowExpiry s = resolveVote s := by
  simp [windowExpiry, resolveOpen, overGrant, h, ho, Option.isSome_iff_ne_none.mpr hw]

/-- The window's expiry without an open vote leaves the state as it is. -/
theorem windowExpiry_closed (s : State) (h : s.vote.record.isOpen = false) : windowExpiry s = s := by
  simp [windowExpiry, h]

end Sys2Proof.Machine
end

