-- ==== Sys2Proof/Laws/State.lean ====
section
/-! SUPPORT. What the named updates of the state write, field by field; what they keep stands in the other files of Laws. -/

namespace Sys2Proof.Machine

/-- Two states with equal parts are equal. -/
theorem State.ext_parts {s t : State} (h_pending : s.pending = t.pending) (h_mem : s.mem = t.mem) (h_csr : s.csr =
    t.csr) (h_port : s.port = t.port) (h_arb : s.arb = t.arb) (h_regions : s.regions = t.regions) (h_counters :
    s.counters = t.counters) (h_scrub : s.scrub = t.scrub) (h_spare : s.spare = t.spare) (h_sig : s.sig = t.sig) (h_jnl
    : s.jnl = t.jnl) (h_vote : s.vote = t.vote) (h_link1 : s.link1 = t.link1) (h_link2 : s.link2 = t.link2) (h_repair :
    s.repair = t.repair) (h_mgmt : s.mgmt = t.mgmt) (h_ev : s.ev = t.ev) (h_out : s.out = t.out) : s = t := by
  cases s; cases t; simp_all

@[simp] theorem poke_mem (a : Nat) (w : Stored) (s : State) : (poke a w s).mem = s.mem.write a w := rfl

@[simp] theorem setState_csr (st : ChannelState) (s : State) :
    (setState st s).csr = { s.csr with state := st, stateInv := ~~~ BitVec.ofNat 8 st.code } := rfl

@[simp] theorem setCommitted_csr (n : Cycle) (s : State) :
    (setCommitted n s).csr = { s.csr with committed := n, committedInv := ~~~ n } := rfl

@[simp] theorem setC_csr (c : Nat) (s : State) : (setC c s).csr = { s.csr with c := c, cInv := ~~~ wordOf c } := rfl

@[simp] theorem setCounter_csr (n : Cycle) (s : State) :
    (setCounter n s).csr = { s.csr with counter := n, counterInv := ~~~ n } := by
  simp only [setCounter]; split <;> rfl

/-- A change of the counter's value empties the slots and clears the skew-reported flag; its own value changes nothing. -/
theorem setCounter_vote (n : Cycle) (s : State) :
    (setCounter n s).vote = if n = s.csr.counter then s.vote
      else { s.vote with peer0.slot := none, peer1.slot := none, skewReported := false } := by
  simp only [setCounter]; split <;> rfl

@[simp] theorem handStateChange_csr (p : ChannelState) (c : Cause) (s : State) : (handStateChange p c s).csr = s.csr := by simp

@[simp] theorem changeState_csr (st : ChannelState) (c : Cause) (s : State) :
    (changeState st c s).csr = { s.csr with state := st, stateInv := ~~~ BitVec.ofNat 8 st.code } := by
  simp [changeState]

@[simp] theorem emptySlots_slot0 (s : State) : (emptySlots s).vote.peer0.slot = none := rfl
@[simp] theorem emptySlots_slot1 (s : State) : (emptySlots s).vote.peer1.slot = none := rfl

@[simp] theorem invalidateS_valid (s : State) : (invalidateS s).sig.valid = false := rfl

@[simp] theorem setLatch_latch (s : State) : (setLatch s).ev.faultLatch = true := rfl

@[simp] theorem respond_responses (r : Response) (s : State) :
    (respond r s).out.responses = s.out.responses ++ [r] := rfl

@[simp] theorem startWalk_sig (w : Walk) (s : State) : (startWalk w s).sig =
    { s.sig with walk := w, cursor := 0, acc := 0, poisoned := [], overflow := false } := rfl

@[simp] theorem stopWalk_sig (s : State) : (stopWalk s).sig = { s.sig with walk := .idle, cursor := 0, acc := 0 } := rfl

@[simp] theorem emptyJournal_jnl (s : State) : (emptyJournal s).jnl = { JournalUnit.reset with rb := s.jnl.rb } := rfl

@[simp] theorem moveBoundary_jnl (s : State) : (moveBoundary s).jnl = { s.jnl with
    votingCount := s.jnl.openCount, votingOver := s.jnl.openOver, boundary := s.jnl.tail, openCount := 0
    openOver := false, votingPresent := true } := rfl

@[simp] theorem abandonRollback_rolling (s : State) : (abandonRollback s).jnl.rb.rolling = false := rfl

@[simp] theorem clearDirty_repair (s : State) : (clearDirty s).repair =
    { s.repair with dc := [], dv := [], dO := [], dcValid := false } := rfl

@[simp] theorem rotateMaps_repair (s : State) : (rotateMaps s).repair = { s.repair with dv := s.repair.dO, dO := [] } := rfl

@[simp] theorem commitMaps_repair (s : State) : (commitMaps s).repair =
    { s.repair with dc := s.repair.dv, dv := [], dcValid := true } := rfl

@[simp] theorem clearVote_record (s : State) : (clearVote s).vote.record = VoteRecord.cleared := rfl
@[simp] theorem cancelVote_record (s : State) : (cancelVote s).vote.record = VoteRecord.cleared := rfl

@[simp] theorem finish_mgmt (ws : List Word) (s : State) : (finish ws s).mgmt =
    { s.mgmt with phase := .done, results := resultWords ws } := rfl

@[simp] theorem refuse_mgmt (c : RefusalCode) (s : State) : (refuse c s).mgmt =
    { s.mgmt with phase := .refused, code := some c } := rfl

@[simp] theorem setRemap_remap (i : Nat) (e : RemapEntry) (s : State) :
    (setRemap i e s).spare.remap = s.spare.remap.set i e := rfl

/-- A record goes to the event unit and nowhere else. -/
theorem hand_frame (k : EventKind) (d : Nat) (subj : Subject) (v : Word) (s : State) :
    hand k d subj v s = { s with ev := (hand k d subj v s).ev } := by
  simp only [hand, handAt, handRecord]
  (repeat' split) <;> rfl

/-- What the event unit makes of a record depends on the channel state, the counter, the committed table and its own items. -/
theorem hand_congr {k : EventKind} {d : Nat} {subj : Subject} {v : Word} {s t : State} (h1 : s.csr.state = t.csr.state)
    (h2 : s.csr.counter = t.csr.counter) (h3 : s.regions.committed = t.regions.committed) (h4 : s.ev = t.ev) :
    (hand k d subj v s).ev = (hand k d subj v t).ev := by
  have e1 : eventCapacity s = eventCapacity t := by simp only [eventCapacity, eventsEntry, h3]
  have e2 : occupancy s = occupancy t := by simp only [occupancy, unacknowledged, e1, h4]
  simp only [hand, handAt, handRecord, e1, e2, h1, h2, h4]
  (repeat' split) <;> first | rfl | assumption

/-- With no transaction held nothing is decided again. -/
theorem settle_none (s : State) (h : s.port.held = none) : settle s = s := by simp [settle, h]

/-- Without UNCORRECTABLE words a grant's end has no consequences. -/
theorem consequences_nil (by_ : ReadBy) (s : State) : consequences by_ [] s = s := rfl

/-- An event that ends no operation takes effect at once. -/
theorem during_undisturbed (event : State → State) (s : State) (h : disturbs s (event s) = false) :
    during event s = event s := by
  simp [during, h]

/-- After a grant other than a line capture nothing follows. -/
theorem followGrant_other (r : Requester) (s : State) (h : r ≠ .lineCapture) : followGrant r s = s := by
  simp [followGrant, h]

/-- A line capture is followed by the CLOSE that is due (R163, R164). -/
theorem followGrant_capture (s : State) : followGrant .lineCapture s = closeIfDone s := by simp [followGrant]

/-- A grant under way that meets no UNCORRECTABLE word makes its reads and writes, then the event takes effect, then follows
what follows the grant. -/
theorem overGrant_clean (event : State → State) (s : State) (r : Requester) (h : s.arb.grant = some r)
    (hb : (grantWork r { s with arb.grant := none }).2 = []) :
    overGrant event s = followGrant r (event (grantWork r { s with arb.grant := none }).1) := by
  have hl : ∀ was by_ t, lateConsequences was by_ [] t = t := fun was by_ t => by
    unfold lateConsequences
    split
    · exact consequences_nil _ _
    · simp [markSegments, vitalAmong]
  have hw : ∀ was t, withdrawalFirst was [] event t = false := fun was t => by simp [withdrawalFirst, vitalAmong]
  simp [overGrant, h, hb, hl, hw]

/-- A grant under way other than a line capture that meets no UNCORRECTABLE word is carried out whole before the event. -/
theorem overGrant_whole (event : State → State) (s : State) (r : Requester) (h : s.arb.grant = some r)
    (hb : (grantWork r { s with arb.grant := none }).2 = []) (hr : r ≠ .lineCapture) :
    overGrant event s = event (grantBody r { s with arb.grant := none }) := by
  simp [overGrant_clean event s r h hb, grantBody, followGrant_other r _ hr, hb, consequences_nil]

/-- Without a COMMIT-TABLES that waits nothing is landed. -/
theorem landCommit_other (s : State) (h : s.mgmt.deferred ≠ some .commitTables) : landCommit s = s := by
  unfold landCommit
  split
  · exact absurd ‹_› h
  · rfl

/-- With no grant under way and no COMMIT-TABLES waiting a mark does what R114 says at once. -/
theorem markDuring_none (s : State) (h : s.arb.grant = none) (hd : s.mgmt.deferred ≠ some .commitTables) :
    markDuring s = markWord s := by
  unfold markDuring
  split
  · rename_i u hu
    split
    · rfl
    · rename_i hs
      simp [overGrant_none _ s h, landCommit_other s hd, markWord, hs, hu]
  · rename_i hu
    split
    · rename_i hm
      have hs : s.csr.state ≠ .unconfigured := by
        intro hs; rw [hs] at hm; simp [ChannelState.marking] at hm
      rw [during_none openMark s h, during_none _ _ ((congrArg Arbiter.grant (openMark_keeps s).2.2.2.2.2.1).trans h)]
      simp [markWord, hs, hu, hm, takeMark]
    · rfl

/-- A mark or a command waits for no grant but the processor's own. -/
theorem behindHead_other (s : State) (h : s.arb.grant ≠ some .processor) : behindHead s = s := by simp [behindHead, h]

/-- A head that is not held is decided at TRANSACTION_DECIDE. -/
theorem decideNext_free (s : State) (h : s.port.held = none) : decideNext s = decideHead s := by simp [decideNext, h]

/-- A head whose grant is under way is not decided again (R98). -/
theorem decideHead_granted (s : State) (h : s.arb.grant = some .processor) : decideHead s = s := by simp [decideHead, h]

/-- A grant under way runs its body from the state with the grant taken off. -/
theorem runGrant_given (r : Requester) (body : State → State) (s : State) (h : s.arb.grant = some r) :
    runGrant r body s = body { s with arb.grant := none } := by
  simp [runGrant, h]

/-- A free port grants the highest waiting requester. -/
theorem runGrant_next (r : Requester) (body : State → State) (s : State) (h : s.arb.grant = none)
    (hd : s.mgmt.deferred = none) (hn : nextGrant s = some r) : runGrant r body s = body s := by
  simp [runGrant, h, hd, hn]

end Sys2Proof.Machine
end

