-- ==== Sys2Proof/Laws/Exec.lean ====
section
/-! SUPPORT. Every command answers a next state, and the reads of words that decode CLEAN. -/

namespace Sys2Proof.Machine

/-- No command stops: every arm of exec answers a next state. -/
theorem exec_next (c : Instr) (s : State) : ∃ t, exec c s = .next t := by
  cases c <;> exact ⟨_, rfl⟩

theorem readWord_clean {by_ : ReadBy} {a : Nat} {v : Word} {s : State} (h : decodeStored (storedAt s a) a = .clean v) :
    readWord by_ a s = (.clean v, s) := by
  simp [readWord, h]

theorem readWord_corrected {by_ : ReadBy} {a : Nat} {v : Word} {s : State}
    (h : decodeStored (storedAt s a) a = .corrected v) : readWord by_ a s = (.corrected v, correct a v s) := by
  simp [readWord, h]

theorem readWord_uncorrectable {by_ : ReadBy} {a : Nat} {raw : Word} {s : State}
    (h : decodeStored (storedAt s a) a = .uncorrectable raw) :
    readWord by_ a s = (.uncorrectable raw, reportUncorrectable by_ a raw s) := by
  simp [readWord, h]

end Sys2Proof.Machine
end

