-- ==== Sys2Proof/Laws/Frames.lean ====
section
/-! SUPPORT. Laws of bytes, CRC and frames: numbers read back from their bytes, and a frame whose payload reads back passes
the checks of its receiver. -/

namespace Sys2Proof.Machine

/-- `k` bytes are `k` long. -/
theorem leBytes_length (k n : Nat) : (leBytes k n).length = k := by
  induction k generalizing n with
  | zero => rfl
  | succ k ih => simp [leBytes, ih]

/-- Bytes read back as the number they were made from, modulo their range. -/
theorem leNat_leBytes (k n : Nat) : leNat (leBytes k n) = n % 256 ^ k := by
  induction k generalizing n with
  | zero => simp [leBytes, leNat, Nat.mod_one]
  | succ k ih =>
    simp only [leBytes, leNat, ih, BitVec.toNat_ofNat]
    rw [show (2 ^ 8 : Nat) = 256 from rfl, Nat.pow_succ', Nat.mod_mul]

/-- A CRC register stays in 32 bits. -/
theorem crcBit_lt (c : Nat) (h : c < 2 ^ 32) : crcBit c < 2 ^ 32 := by
  unfold crcBit; split
  · exact Nat.xor_lt_two_pow (by omega) (by decide)
  · omega

theorem crcByte_lt (c : Nat) (b : Byte) (h : c < 2 ^ 32) : crcByte c b < 2 ^ 32 := by
  unfold crcByte
  have hb : b.toNat < 2 ^ 32 := by have := b.isLt; omega
  have : c ^^^ b.toNat < 2 ^ 32 := Nat.xor_lt_two_pow h hb
  iterate 8 apply crcBit_lt
  exact this

/-- A CRC is a 32-bit number. -/
theorem crc32_lt (bs : List Byte) : crc32 bs < 2 ^ 32 := by
  unfold crc32
  refine Nat.xor_lt_two_pow ?_ (by decide)
  suffices ∀ c, c < 2 ^ 32 → bs.foldl crcByte c < 2 ^ 32 from this _ (by decide)
  induction bs with
  | nil => exact fun c h => h
  | cons b bs ih => exact fun c h => ih _ (crcByte_lt c b h)

/-- A list of numbers of `k` bytes each is split back into them. -/
theorem fields_flatMap {w : Nat} (m : BitVec w → Nat) (k : Nat) (ws : List (BitVec w)) (h : ∀ x ∈ ws, m x < 256 ^ k) (rest : List Byte) :
    fields k ws.length (ws.flatMap (fun x => leBytes k (m x)) ++ rest) = ws.map m := by
  induction ws with
  | nil => rfl
  | cons x ws ih =>
    simp only [List.length_cons, List.flatMap_cons, fields, List.map_cons, List.append_assoc]
    rw [List.take_left' (leBytes_length ..), List.drop_left' (leBytes_length ..), ih (fun y hy => h y (by simp [hy])), leNat_leBytes,
      Nat.mod_eq_of_lt (h x (by simp))]

/-- The first field, and a field behind another list. -/
theorem fieldAt_zero (bs tl : List Byte) (k : Nat) (h : bs.length = k) : fieldAt (bs ++ tl) 0 k = leNat bs := by
  simp [fieldAt, ← h]
theorem fieldAt_skip (bs tl : List Byte) (i k : Nat) (h : bs.length ≤ i) : fieldAt (bs ++ tl) i k = fieldAt tl (i - bs.length) k := by
  simp [fieldAt, List.drop_append, List.drop_eq_nil_of_le h]

/-- The first number of some bytes, and a number behind it. -/
theorem fieldAt_leBytes_first (k n : Nat) (tl : List Byte) : fieldAt (leBytes k n ++ tl) 0 k = n % 256 ^ k := by
  rw [fieldAt_zero _ _ _ (leBytes_length ..), leNat_leBytes]
theorem fieldAt_leBytes_skip (k n : Nat) (tl : List Byte) (i j : Nat) (h : k ≤ i) : fieldAt (leBytes k n ++ tl) i j = fieldAt tl (i - k) j := by
  rw [fieldAt_skip _ _ _ _ (by rw [leBytes_length]; exact h), leBytes_length]

/-- The bytes of a list of numbers. -/
theorem flatMap_length {w : Nat} (f : BitVec w → Nat) (k : Nat) (ws : List (BitVec w)) : (ws.flatMap (fun x => leBytes k (f x))).length = k * ws.length := by
  induction ws with
  | nil => rfl
  | cons x ws ih => simp [List.flatMap_cons, leBytes_length, ih]; ring

/-- A frame passes the checks and reads back when its payload, flags and identities do (R136, R189). -/
theorem checkFrame_of_parts (f : Frame) (hlen : f.payload.bytes.length < 65536)
    (hp : parsePayload f.payload.kind.code f.payload.bytes = some f.payload)
    (hfl : keptFlags f.payload.kind.code f.flagsByte = (f.ack, f.mismatch, f.relayed))
    (h3 : identitiesFit f.relayed f.sender f.originator = true) : checkFrame f.bytes = some f := by
  have hb : f.body.length = 8 + f.payload.bytes.length := by simp [Frame.body, leBytes_length]; omega
  have hby : f.bytes.length = 12 + f.payload.bytes.length := by simp [Frame.bytes, leBytes_length, hb]; omega
  have htake : f.bytes.take (f.bytes.length - 4) = f.body := by
    rw [hby]; simp [Frame.bytes]; rw [List.take_left' (by omega)]
  have hdrop : f.bytes.drop (f.bytes.length - 4) = leBytes 4 (crc32 f.body) := by
    rw [hby]; simp [Frame.bytes]; rw [List.drop_left' (by omega)]
  unfold checkFrame
  rw [if_neg (by omega)]
  simp only [htake, hdrop]
  rw [leNat_leBytes, Nat.mod_eq_of_lt (show crc32 f.body < 256 ^ 4 from crc32_lt _), if_neg (by simp)]
  have k0 : f.payload.kind.code < 256 := by generalize f.payload.kind = k; cases k <;> decide
  have hk : fieldAt f.body 0 1 = f.payload.kind.code := by
    simp (disch := omega) only [Frame.body, fieldAt_leBytes_first]; simp only [Frame.kind] at *; omega
  have hf1 : fieldAt f.body 1 1 = f.flagsByte := by
    have : f.flagsByte < 256 := by unfold Frame.flagsByte flagCode; split <;> split <;> split <;> decide
    simp (disch := omega) only [Frame.body, fieldAt_leBytes_skip]; simp [fieldAt_leBytes_first]; omega
  have hd : f.body.drop 8 = f.payload.bytes := by
    simp [Frame.body, leBytes]
  have hs : identityOf (fieldAt f.body 2 1) = some f.sender := by
    simp (disch := omega) only [Frame.body, fieldAt_leBytes_skip]; simp [fieldAt_leBytes_first]
    generalize f.sender = k; cases k <;> decide
  have ho : identityOf (fieldAt f.body 3 1) = some f.originator := by
    simp (disch := omega) only [Frame.body, fieldAt_leBytes_skip]; simp [fieldAt_leBytes_first]
    generalize f.originator = k; cases k <;> decide
  have hl : fieldAt f.body 4 2 = f.payload.bytes.length := by
    simp (disch := omega) only [Frame.body, fieldAt_leBytes_skip]; simp [fieldAt_leBytes_first]; omega
  simp only [hk, hf1, hd, hs, ho, hl, hp]
  rw [if_neg (by simp)]
  simp only [hfl, h3]; rfl

/-- The payload of a LINE of 256 words reads back. -/
theorem parse_line (o : BitVec 32) (ws : List Word) (hl : ws.length = 256) :
    parsePayload 7 (Payload.line o ws).bytes = some (.line o ws) := by
  have f1 : fields 8 256 (ws.flatMap (fun o => leBytes 8 o.toNat)) = ws.map BitVec.toNat := by
    have := fields_flatMap BitVec.toNat 8 ws (fun x _ => by have := x.isLt; omega) []
    simpa [hl] using this
  have hlen : (Payload.line o ws).bytes.length = 2052 := by
    simp only [Payload.bytes, List.length_append, leBytes_length, flatMap_length, hl]
  have hd : (Payload.line o ws).bytes.drop 4 = ws.flatMap (fun o => leBytes 8 o.toNat) := by
    simp only [Payload.bytes]; rw [List.drop_left' (leBytes_length ..)]
  have h0 : BitVec.ofNat 32 (fieldAt (Payload.line o ws).bytes 0 4) = o := by
    simp only [Payload.bytes]; rw [fieldAt_leBytes_first]
    exact BitVec.eq_of_toNat_eq (by simp; exact o.isLt)
  show (if (Payload.line o ws).bytes.length = 2052 then
    some (Payload.line (BitVec.ofNat 32 (fieldAt (Payload.line o ws).bytes 0 4))
      ((fields 8 256 ((Payload.line o ws).bytes.drop 4)).map (BitVec.ofNat 64))) else none) = _
  rw [if_pos hlen, hd, h0, f1]; simp [Function.comp_def]

end Sys2Proof.Machine
end

