-- ==== Sys2Proof/Laws/Memory.lean ====
section
/-! SUPPORT. The laws of channel memory: a read after a write, the canonical form that every memory operation keeps, and the
words that a logical write reaches. -/

namespace Sys2Proof.Machine

theorem Memory.above_of_le {a b : Nat} {m : Memory} (h : a ≤ b) (hm : Memory.above b m = true) : Memory.above a m = true := by
  cases m with
  | nil => rfl
  | cons x m =>
    simp only [Memory.above, decide_eq_true_eq] at hm ⊢
    omega

/-- Below every listed address a memory reads as unlisted. -/
theorem Memory.read_above {a : Nat} {m : Memory} (hm : Memory.above a m = true) (hw : m.wf = true) :
    m.read a = Memory.unlisted a := by
  induction m with
  | nil => rfl
  | cons x m ih =>
    obtain ⟨b, w⟩ := x
    simp only [Memory.above, decide_eq_true_eq] at hm
    simp only [Memory.wf, Bool.and_eq_true] at hw
    have : b ≠ a := by omega
    simp only [Memory.read, this, if_false]
    exact ih (Memory.above_of_le (by omega) hw.1.2) hw.2

/-- A read of the written address gives what was written. -/
theorem Memory.read_write_same (m : Memory) (a : Nat) (w : Stored) (hw : m.wf = true) : (m.write a w).read a = w := by
  induction m with
  | nil => simp only [Memory.write]; split <;> simp_all [Memory.read]
  | cons x m ih =>
    obtain ⟨b, y⟩ := x
    have hw' := hw
    simp only [Memory.wf, Bool.and_eq_true] at hw'
    simp only [Memory.write]
    split
    · rename_i hlt
      split
      · rename_i hu
        have hb : b ≠ a := by omega
        have := Memory.read_above (a := a) (m := (b, y) :: m) (by simp [Memory.above, hlt]) hw
        simp_all [Memory.read]
      · simp [Memory.read]
    · split
      · rename_i hge heq
        subst heq
        split
        · rename_i hu
          rw [hu]; exact Memory.read_above hw'.1.2 hw'.2
        · simp [Memory.read]
      · rename_i hge hne
        have hb : b ≠ a := fun h => hne h.symm
        simp [Memory.read, hb, ih hw'.2]

/-- A read of another address gives what it gave before. -/
theorem Memory.read_write_other (m : Memory) (a b : Nat) (w : Stored) (h : b ≠ a) : (m.write a w).read b = m.read b := by
  have h' : a ≠ b := fun e => h e.symm
  induction m with
  | nil => simp only [Memory.write]; split <;> simp [Memory.read, h']
  | cons x m ih =>
    obtain ⟨c, y⟩ := x
    simp only [Memory.write]
    (repeat' split) <;> simp_all [Memory.read]

theorem Memory.above_write {a b : Nat} {m : Memory} (w : Stored) (hm : Memory.above a m = true) (hw : m.wf = true) (h : a < b) :
    Memory.above a (m.write b w) = true := by
  cases m with
  | nil => simp only [Memory.write]; split <;> simp [Memory.above, h]
  | cons x m =>
    obtain ⟨c, y⟩ := x
    simp only [Memory.wf, Bool.and_eq_true] at hw
    simp only [Memory.above, decide_eq_true_eq] at hm
    simp only [Memory.write]
    split
    · split <;> simp [Memory.above, h, hm]
    · split
      · split
        · exact Memory.above_of_le (by omega) hw.1.2
        · simp [Memory.above, h]
      · simp [Memory.above, hm]

/-- A write keeps the canonical form. -/
theorem Memory.write_wf (m : Memory) (a : Nat) (w : Stored) (hw : m.wf = true) : (m.write a w).wf = true := by
  induction m with
  | nil => simp only [Memory.write]; split <;> simp_all [Memory.wf, Memory.above]
  | cons x m ih =>
    obtain ⟨b, y⟩ := x
    have hw' := hw
    simp only [Memory.wf, Bool.and_eq_true] at hw'
    simp only [Memory.write]
    split
    · rename_i hlt
      split
      · exact hw
      · rename_i hu
        have h1 : Memory.wf ((b, y) :: m) = true := hw
        rw [Memory.wf, h1]
        simp [Memory.above, hu, hlt]
    · split
      · rename_i heq
        subst heq
        split
        · exact hw'.2
        · rename_i hu
          simp [Memory.wf, hu, hw'.1.2, hw'.2]
      · rename_i hge hne
        simp only [Memory.wf, Bool.and_eq_true]
        exact ⟨⟨hw'.1.1, Memory.above_write w hw'.1.2 hw'.2 (by omega)⟩, ih hw'.2⟩

/-- One stored word keeps the canonical form. -/
theorem poke_wf (a : Nat) (w : Stored) (s : State) (h : s.mem.wf = true) : (poke a w s).mem.wf = true :=
  Memory.write_wf _ _ _ h

/-- A logical write keeps the canonical form. -/
theorem writeWord_wf (a : Nat) (v : Word) (s : State) (h : s.mem.wf = true) : (writeWord a v s).mem.wf = true := by
  simp only [writeWord]
  split
  · exact poke_wf _ _ _ (poke_wf _ _ _ h)
  · exact poke_wf _ _ _ h

/-- Logical writes keep the canonical form. -/
theorem writeWords_wf (ws : List (Nat × Word)) (s : State) (h : s.mem.wf = true) : (writeWords ws s).mem.wf = true := by
  induction ws generalizing s with
  | nil => exact h
  | cons x ws ih => exact ih _ (writeWord_wf _ _ _ h)

/-- Memory after reset has the canonical form. -/
theorem reset_mem_wf : State.reset.mem.wf = true := rfl

/-- A good word decodes CLEAN with its value at its own address. -/
@[simp] theorem decode_goodWord (a : Nat) (v : Word) : decodeStored (goodWord a v) a = .clean v := by
  have h : flipCount (goodWord a v) = 0 := by simp [flipCount, goodWord]
  simp [decodeStored, h]
  simp [goodWord]

/-- A logical write changes memory and nothing else. -/
theorem writeWord_frame (a : Nat) (v : Word) (s : State) : writeWord a v s = { s with mem := (writeWord a v s).mem } := by
  simp only [writeWord]
  split <;> rfl

/-- Logical writes change memory and nothing else. -/
theorem writeWords_frame (ws : List (Nat × Word)) (s : State) : writeWords ws s = { s with mem := (writeWords ws s).mem } := by
  induction ws generalizing s with
  | nil => rfl
  | cons x ws ih =>
    obtain ⟨a, v⟩ := x
    simp only [writeWords]
    rw [ih, writeWord_frame]

end Sys2Proof.Machine
end

