-- ==== Sys2Proof/Laws/Reads.lean ====
section
/-! SUPPORT. What the reads of one grant can do: the words of one line decode as they are stored when the grant begins, and the
state after it is that of `met`. -/

namespace Sys2Proof.Machine

/-- A write-back touches the word's own place only. -/
theorem storedAt_correct {a b : Nat} (v : Word) (s : State) (hl : b / 256 = a / 256) (hne : b ≠ a) :
    storedAt (correct a v s) b = storedAt s b := by
  have hp : ∀ t u : State, t.spare.remap = u.spare.remap → t.spare.op = u.spare.op → t.mgmt = u.mgmt →
      readPlace t b = readPlace u b := by
    intro t u h1 h2 h3
    simp only [readPlace, readLine, copyingSpare, activeSpare, spareLine, h1, h2, h3]
  have hk := correct_keeps a v s
  have hm : (correct a v s).mem = s.mem.write (readPlace s a) (goodWord a v) := by
    simp only [correct, suspectError_keeps]
    split <;> rfl
  rw [storedAt, storedAt, hm, hp (correct a v s) s (by simp) (by simp) (by simp)]
  refine Memory.read_write_other _ _ _ _ ?_
  simp only [readPlace, hl]
  omega

/-- A report leaves every stored word. -/
theorem storedAt_report {b : Nat} (by_ : ReadBy) (a : Nat) (raw : Word) (s : State) :
    storedAt (reportUncorrectable by_ a raw s) b = storedAt s b := by
  simp [storedAt, readPlace, readLine, copyingSpare, activeSpare, spareLine]

/-- The reads of one grant in one line: the outcomes are those of the stored words, and the state is that of `met`. -/
theorem readWords_met (by_ : ReadBy) (as : List Nat) (s : State) (l : Nat) (hn : as.Nodup) (hl : ∀ a ∈ as, a / 256 = l) :
    readWords by_ as s = (outcomesAt s as, met by_ (outcomesAt s as) s) := by
  induction as generalizing s with
  | nil => rfl
  | cons a as ih =>
    obtain ⟨ha, hn⟩ := List.nodup_cons.mp hn
    have hl' : ∀ b ∈ as, b / 256 = l := fun b hb => hl b (List.mem_cons_of_mem _ hb)
    have same : ∀ t : State, (∀ b ∈ as, storedAt t b = storedAt s b) → outcomesAt t as = outcomesAt s as := by
      intro t h
      refine List.map_congr_left fun b hb => ?_
      rw [h b hb]
    simp only [readWords]
    cases h : decodeStored (storedAt s a) a with
    | clean v => rw [readWord_clean h, ih s hn hl']; simp [outcomesAt, h, met]
    | corrected v =>
      rw [readWord_corrected h, ih _ hn hl', same (correct a v s) fun b hb => storedAt_correct v s
        ((hl' b hb).trans (hl a List.mem_cons_self).symm) (fun e => ha (e ▸ hb))]
      simp [outcomesAt, h, met]
    | uncorrectable raw =>
      rw [readWord_uncorrectable h, ih _ hn hl', same _ fun b _ => storedAt_report by_ a raw s]
      simp [outcomesAt, h, met]

/-- The words of a stretch that fits one line lie in that line, once each. -/
theorem wordsFrom_inLine (a n : Nat) (h : a % 256 + n ≤ 256) :
    (wordsFrom a n).Nodup ∧ ∀ b ∈ wordsFrom a n, b / 256 = a / 256 := by
  constructor
  · refine (List.nodup_range).map ?_
    intro x y hxy
    exact Nat.add_left_cancel hxy
  · intro b hb
    simp only [wordsFrom, List.mem_map, List.mem_range] at hb
    obtain ⟨i, hi, rfl⟩ := hb
    omega

/-- What the reads of a grant leave as it was. -/
theorem met_keeps (by_ : ReadBy) (rs : List (Nat × ReadOutcome)) (s : State) :
    (met by_ rs s).csr = s.csr ∧ (met by_ rs s).port = s.port ∧ (met by_ rs s).arb = s.arb ∧
    (met by_ rs s).regions = s.regions ∧ (met by_ rs s).scrub = s.scrub ∧ (met by_ rs s).spare.op = s.spare.op ∧
    (met by_ rs s).spare.remap = s.spare.remap ∧ (met by_ rs s).sig.committedKeys = s.sig.committedKeys ∧
    (met by_ rs s).sig.s = s.sig.s ∧ (met by_ rs s).sig.walk = s.sig.walk ∧ (met by_ rs s).sig.cursor = s.sig.cursor ∧
    (met by_ rs s).sig.acc = s.sig.acc ∧ (met by_ rs s).jnl = s.jnl ∧ (met by_ rs s).vote = s.vote ∧
    (met by_ rs s).link1 = s.link1 ∧ (met by_ rs s).link2 = s.link2 ∧ (met by_ rs s).repair = s.repair ∧
    (met by_ rs s).mgmt = s.mgmt ∧ (met by_ rs s).out = s.out ∧ (met by_ rs s).ev.faultLatch = s.ev.faultLatch ∧
    (met by_ rs s).ev.health = s.ev.health ∧ (met by_ rs s).pending = s.pending := by
  induction rs generalizing s with
  | nil => simp [met]
  | cons x rs ih =>
    obtain ⟨a, o⟩ := x
    cases o <;> simp [met, ih]

/-- With every word CLEAN the reads of a grant have done nothing. -/
theorem met_clean (by_ : ReadBy) (rs : List (Nat × ReadOutcome)) (s : State) (h : ∀ x ∈ rs, ∃ v, x.2 = .clean v) :
    met by_ rs s = s := by
  induction rs with
  | nil => rfl
  | cons x rs ih =>
    obtain ⟨a, o⟩ := x
    obtain ⟨v, rfl⟩ := h _ List.mem_cons_self
    exact ih fun y hy => h y (List.mem_cons_of_mem _ hy)

/-- An UNCORRECTABLE word in a VITAL region leaves S invalid. -/
theorem met_invalid (by_ : ReadBy) (rs : List (Nat × ReadOutcome)) (s : State) (a : Nat) (raw : Word)
    (h : (a, ReadOutcome.uncorrectable raw) ∈ rs) (hc : classOf s (a / 256) = some .vital) : (met by_ rs s).sig.valid = false := by
  have down : ∀ (rs : List (Nat × ReadOutcome)) (t : State), t.sig.valid = false → (met by_ rs t).sig.valid = false := by
    intro rs
    induction rs with
    | nil => exact fun t h => h
    | cons x rs ih =>
      obtain ⟨b, o⟩ := x
      intro t ht
      cases o with
      | clean v => exact ih t ht
      | corrected v => exact ih _ (by simp [ht])
      | uncorrectable r => refine ih _ ?_; simp only [reportUncorrectable]; split <;> simp [invalidateS, ht]
  induction rs generalizing s with
  | nil => simp at h
  | cons x rs ih =>
    obtain ⟨b, o⟩ := x
    rcases List.mem_cons.mp h with e | hm
    · obtain ⟨rfl, rfl⟩ := Prod.mk.inj e
      refine down rs _ ?_
      simp only [reportUncorrectable]
      rw [if_pos (by simpa using hc)]
      rfl
    · cases o with
      | clean v => exact ih s hm hc
      | corrected v => exact ih _ hm (by simpa [classOf, regionOf] using hc)
      | uncorrectable r => exact ih _ hm (by simpa [classOf, regionOf] using hc)

end Sys2Proof.Machine
end

