-- ==== Sys2Proof/Laws/Records.lean ====
section
/-! SUPPORT. What handing a record changes and depends on, and what a rollback requested with S invalid comes to. -/

namespace Sys2Proof.Machine

/-- A handed record changes the event unit only. -/
theorem hand_as_evAfter (k : EventKind) (d : Nat) (j : Subject) (v : Word) (s : State) :
    hand k d j v s = { s with ev := evAfter k d j v s } := by
  simp only [hand, handAt, handRecord, evAfter]
  split
  · rfl
  · split <;> rfl

/-- What a record does to the event unit depends on the state, the counter, the event unit and the committed table only. -/
theorem evAfter_of (k : EventKind) (d : Nat) (j : Subject) (v : Word) (s t : State) (hs : t.csr.state = s.csr.state)
    (hc : t.csr.counter = s.csr.counter) (hr : t.regions = s.regions) (he : t.ev = s.ev) :
    evAfter k d j v t = evAfter k d j v s := by
  have cap : eventCapacity t = eventCapacity s := by simp only [eventCapacity, eventsEntry, hr]
  have occ : occupancy t = occupancy s := by simp only [occupancy, unacknowledged, cap, he]
  simp only [evAfter, hand, handAt, handRecord, hs, hc, he, cap, occ]
  split
  · exact he
  · split <;> simp

/-- The tag of the open segment, as a rollback record holds it. -/
theorem tag_eq (x : Cycle) : BitVec.ofNat 16 ((x.toNat + 1) % 4294967296) = (x + 1#32).setWidth 16 := by
  apply BitVec.eq_of_toNat_eq
  simp

/-- A rollback requested with S invalid: it rolls with entries in an intact journal, and otherwise it ends at once. -/
theorem requestRollback_invalid (why : RollbackReason) (s : State) (hv : s.sig.valid = false) :
    requestRollback why s =
      if s.jnl.broken = false ∧ s.jnl.entries ≠ 0 then ({ s with jnl := { s.jnl with rb := requested why true s } }, none)
      else
        let t := setCounter s.csr.committed { s with jnl := { JournalUnit.reset with rb := requested why false s } }
        (if s.jnl.broken then { t with ev := evAfter .rollbackCheck 2 (.region (journalIndex s)) 0 t } else t,
          some (if s.jnl.broken then .broken else .unsigned)) := by
  obtain ⟨pe, me, csr, port, arb, reg, cou, scr, spa, ⟨k1, k2, k3, ss, va, wa, cu, ac, po, ov⟩, jnl, vote, l1, l2, rep, mg, ev, out⟩ := s
  obtain rfl : va = false := hv
  obtain ⟨hd, bo, ta, vc, oc, vp, vo, oo, pr, rb⟩ := jnl
  simp only [requestRollback, JournalUnit.broken, JournalUnit.entries]
  cases vo <;> cases oo
  · by_cases he : vc + oc = 0
    · by_cases hc : csr.committed = csr.counter <;>
        simp [he, hc, endRollback, requested, invalidateS, setCounter, emptySlots, emptyJournal, openCycle, JournalUnit.reset, tag_eq]
    · simp only [he]
      simp [requested, openCycle, tag_eq]
      omega
  all_goals
    by_cases hc : csr.committed = csr.counter <;>
      simp [hc, endRollback, requested, invalidateS, setCounter, emptySlots, emptyJournal, openCycle, wordOf,
        rollbackOverflowed, JournalUnit.reset, tag_eq, hand_as_evAfter]
    all_goals rfl

end Sys2Proof.Machine
end

