-- ==== Sys2Proof/Tests/Slice0.lean ====
section
/-! SUPPORT. Tests: ill-formed commands are refused, the manual's worked examples come out, and every obligation with
hypotheses has a state and operands that meet them, each clause at a boundary. -/

namespace Sys2Proof.Tests
open Sys2Proof Sys2Proof.Machine

set_option Elab.async false

/-! ### Ill-formed commands -/

theorem test_empty_read_is_ill_formed : (Instr.transactionAccept (.read 0 0)).wellFormed = false := by decide
theorem test_nine_words_are_ill_formed : (Instr.transactionAccept (.read 0 9)).wellFormed = false := by decide
theorem test_empty_write_is_ill_formed : (Instr.transactionAccept (.write 0 [])).wellFormed = false := by decide
theorem test_area_word_16_is_ill_formed : (Instr.apertureRegisterWrite 16 0 0xFF).wellFormed = false := by decide
theorem test_known_code_is_no_unknown_command : (Instr.unknownCommand 19).wellFormed = false := by decide
theorem test_other_kind_byte_is_ill_formed : (Instr.hailReceive .link1 [2]).wellFormed = false := by decide
theorem test_kind_byte_beyond_the_list_fits_every_row : (Instr.hailReceive .link1 [13]).wellFormed = true := by decide

/-! ### No word spells a command -/

theorem test_no_word_is_a_command : decodeTableWord 64 18 = none ∧ (State.reset.withFetchWord 64 18).pending = [] := by
  decide +kernel

/-! ### A small part: the configuration of the worked examples of chapters 4 and 5, with an EVENTS, a PLAIN and a FIXED line -/

/-- A valid entry. -/
def entry (base count : Nat) (cls : RegionClass) : RegionEntry :=
  { valid := true, base := base, count := count, cls := cls, scrub := false }

/-- VITAL lines 0 to 2, JOURNAL line 8, EVENTS line 9, PLAIN lines 10 and 11, FIXED line 12. -/
def table : List RegionEntry :=
  [entry 0 3 .vital, entry 10 2 .plain, entry 8 1 .journal, entry 9 1 .events, entry 12 1 .fixed] ++
    List.replicate 11 RegionEntry.cleared

/-- Channel C in a state, with keys 3, 5 and 7 and that table loaded and committed. -/
def part (st : ChannelState) : State :=
  { State.reset with
    csr := { ChannelRecord.reset with state := st, stateInv := ~~~ BitVec.ofNat 8 st.code }
    regions := { loaded := table, committed := table }
    sig := { SignatureUnit.reset with loadedKeys := ⟨3, 5, 7⟩, keysSet := true, committedKeys := ⟨3, 5, 7⟩ }
    mgmt.params.channelId := some .c }

/-- The field of the next state. -/
def after {α : Type} (c : Instr) (s : State) (f : State → α) : Option α :=
  match exec c s with
  | .next t => some (f t)
  | _ => none

/-! ### Worked examples -/

-- The check value of CRC-32 (11 section 11.1).
theorem test_crc32_check_value : crc32 [0x31, 0x32, 0x33, 0x34, 0x35, 0x36, 0x37, 0x38, 0x39] = 0xCBF43926 := by
  decide +kernel

-- Table 4-3 and sections 4.5.2 and 4.5.3.
theorem test_word_hashes : wordHash ⟨3, 5, 7⟩ 10 0 = 2046 ∧ wordHash ⟨3, 5, 7⟩ 10 0x200000001 = 2176 ∧
    wordHash ⟨3, 5, 7⟩ 11 0 = 2412 ∧ wordHash ⟨modulus - 1, 1, modulus - 2⟩ 0 0 = 1 ∧
    wordHash ⟨modulus - 1, 5, 7⟩ 10 11 = 0 := by decide +kernel

-- Section 4.5.1: the sum passes p twice.
theorem test_signature_wraps : foldChange ⟨3, 5, 7⟩ (modulus - 100) 10 0 0x200000001 = 30 := by decide +kernel

/-- The SIGN of Table 11-8. -/
def workedSign : Frame := ownFrame .b (.sign 1041 1040 (some .voting) 4588)

-- Table 11-8, but for the CRC, which the manual does not write out.
theorem test_worked_frame : workedSign.bytes.take 32 =
    [0x03, 0x00, 0x02, 0x02, 0x18, 0, 0, 0, 0x11, 0x04, 0, 0, 0x10, 0x04, 0, 0, 0x05, 0, 0, 0, 0, 0, 0, 0,
      0xEC, 0x11, 0, 0, 0, 0, 0, 0] ∧ workedSign.bytes.length = 36 := by decide +kernel

-- Table 11-8: A's copy.
theorem test_relayed_frame : ({ workedSign with relayed := true, sender := .a }).bytes.take 4 = [0x03, 0x04, 0x01, 0x02] := by
  decide +kernel

-- A damaged byte fails the check.
theorem test_damaged_frame : checkFrame (workedSign.bytes.set 9 0) = none := by decide +kernel

/-- The table of Table 1-3, in VOTING. -/
def exampleTable : State := { part .voting with
  regions.committed := [⟨true, 0, 2048, .fixed, true⟩, ⟨true, 8192, 16384, .vital, true⟩, ⟨true, 4096, 2048, .journal, false⟩,
    ⟨true, 6144, 16, .events, false⟩, ⟨true, 40960, 8192, .plain, false⟩, .cleared, ⟨true, 2048, 1024, .vital, true⟩] ++
    List.replicate 9 .cleared
  mgmt.params.memoryLines := 131072 }

/-- One word to write, all lanes. -/
def full (v : Word) : WriteWord := { data := v, enables := 0xFF }

-- Table 1-5.
theorem test_decoding_examples :
    checkTransaction (.read 0x00400100 4) exampleTable = none ∧
    checkTransaction (.write 0x010007F0 [full 0, full 0, full 0]) exampleTable = some .size ∧
    checkTransaction (.read 0x03000000 1) exampleTable = some .unmapped ∧
    checkTransaction (.write 0x00800000 [full 0]) exampleTable = some .class ∧
    checkTransaction (.write 0x00C00008 [full 0, full 0]) exampleTable = some .class ∧
    checkTransaction (.read 0x00C00008 1) exampleTable = none ∧
    checkTransaction (.write 0x00001000 [full 0]) exampleTable = some .state ∧
    checkTransaction (.read 0x10000088 1) exampleTable = none ∧
    checkTransaction (.write 0x10000300 [full 0]) exampleTable = some .aperture := by decide +kernel

-- Section 1.1.4: the ordinals.
theorem test_vital_ordinals : ordinalOf exampleTable.regions.committed 8192 = some 1024 ∧
    ordinalOf exampleTable.regions.committed 2048 = some 0 ∧ lineOf exampleTable.regions.committed 17407 = some 24575 ∧
    numVital exampleTable = 17408 ∧ eventCapacity exampleTable = 1024 := by decide +kernel

-- Section 1.6.1: the write at 0x1000_0070.
theorem test_aperture_routing :
    apertureAllows (.write 0x10000070 [full 0, full 0, full 0, full 0]) = false ∧
    apertureAllows (.write 0x10000070 [full 0, full 0, full 0, ⟨0, 0⟩]) = true ∧ apertureAllows (.read 0x10000200 2) = false := by
  decide +kernel

/-- The processor's write of one word is at the head and has the grant. -/
def writing (a : BitVec 29) (v : Word) (s : State) : State :=
  { s with port.queue := [.write a [full v]], arb.grant := some .processor }

/-- The word memory of the worked examples: word 10 and word 600 (sections 4.7 and 5.6.1). -/
def exampleMemory : Memory := [(10, goodWord 10 0x200000001), (600, goodWord 600 1)]

/-- Section 5.6.1: VOTING at committed cycle 6, the ring at 125, both peers voting. -/
def beforeWrites : State := { part .voting with
  mem := exampleMemory
  csr := { state := .voting, counter := 6, committed := 6, c := 2275554118, stateInv := ~~~ 5, counterInv := ~~~ 6
           committedInv := ~~~ 6, cInv := ~~~ 2275554118 }
  sig.s := 2275554118, sig.valid := true
  jnl.head := 125, jnl.boundary := 125, jnl.tail := 125
  vote.peer0.state := some .voting, vote.peer1.state := some .voting }

-- Table 4-8: the step for ordinal 0 of an all-zero line.
theorem test_rebuild_step : after .rebuildStep { part .sealing with sig.walk := .seal } (fun t => (t.sig.cursor, t.sig.acc)) =
    some (1, 85069056) := by decide +kernel

-- Table 4-8: W1 below the cursor, W2 at the cursor.
theorem test_write_in_sealing :
    after .processorWrite (writing 0x50 0x200000001 { part .sealing with sig.walk := .seal, sig.cursor := 1, sig.acc := 85069056 })
      (fun t => (t.sig.acc, t.jnl.entries)) = some (85069186, 0) ∧
    after .processorWrite (writing 0x12C0 1 { part .sealing with sig.walk := .seal, sig.cursor := 2, sig.acc := 675814018 })
      (fun t => (t.sig.acc, t.repair.dO)) = some (675814018, []) := by decide +kernel

-- Table 5-9, W1.
theorem test_vital_write : after .processorWrite (writing 0x50 0 beforeWrites)
    (fun t => (t.sig.s, t.jnl.tail, t.jnl.openCount, t.repair.dO, t.mem.read (8 * 256 + 250), t.mem.read (8 * 256 + 251))) =
    some (2275553988, 126, 1, [0], goodWord 2298 0x70000000A, goodWord 2299 0x200000001) := by decide +kernel

-- Table 5-9, the mark for cycle 7.
theorem test_mark : after .cycleMark { beforeWrites with jnl.tail := 127, jnl.openCount := 2, sig.s := 2275554323 }
    (fun t => (t.csr.counter, t.jnl.boundary, t.jnl.votingCount, t.jnl.openCount, t.vote.record.snapshot)) =
    some (7, 127, 2, 0, 2275554323) := by decide +kernel

-- Section 5.6.3: NO-MAJORITY with four entries held begins a rollback with the tags 7 and 8.
theorem test_no_majority : after .voteWindowExpiry { beforeWrites with
      csr.counter := 7, csr.counterInv := ~~~ 7, jnl.boundary := 127, jnl.tail := 1, jnl.votingCount := 2, jnl.openCount := 2
      vote.record := { VoteRecord.cleared with isOpen := true, cycle := 7, window := some 50 } }
    (fun t => (t.jnl.rb.rolling, t.jnl.rb.tagVoting, t.jnl.rb.tagOpen, t.jnl.rb.undone, t.csr.state)) =
    some (true, 7, 8, 0, .voting) := by decide +kernel

-- Section 5.6.3, step 1: entry 0 is undone.
theorem test_rollback_step : after .rollbackStep { beforeWrites with
      mem := [(10, goodWord 10 0x200000001), (8 * 256, goodWord 2048 0x800000258), (8 * 256 + 1, goodWord 2049 1)]
      sig.s := 2275551579, jnl.boundary := 127, jnl.tail := 1, jnl.votingCount := 2, jnl.openCount := 2
      jnl.rb := { rolling := true, reason := some .noMajority, validAtStart := true, tagVoting := 7, tagOpen := 8, undone := 0 } }
    (fun t => (t.sig.s, t.jnl.tail, t.jnl.openCount, t.jnl.rb.undone, t.mem.read 600)) =
    some (2275554591, 0, 1, 1, goodWord 600 1) := by decide +kernel

-- Section 3.1.3: slot 11 is evicted for line 40970.
theorem test_eviction : (victim ((List.range 16).map (fun i => some (Suspect.mk i
    (if i = 6 then 1 else if i = 11 then 1 else 3) (if i = 6 then 9 else if i = 11 then 14 else if i = 9 then 6 else
      if i = 14 then 11 else i) (decide (i < 4)))) ) 0).map Prod.fst = some 11 := by decide +kernel

/-! ### Witnesses: states and operands that meet the hypotheses of each obligation, clause by clause -/

/-- The head of the queue. -/
def head (t : Transaction) (s : State) : State := { s with port.queue := [t] }

/-- A stored word with one upset bit, and one with the poison code. -/
def upset (a : Nat) (v : Word) : Stored := { goodWord a v with flips := 1 }

theorem witness_StepTakesTheFrontCommand : (part .voting).pending = [] := by decide

theorem witness_PowerOnAndResetEndEveryTransaction :
    portIdle (part .configured) ∧ granted .rebuild { part .sealing with arb.grant := some .rebuild } ∧
    granted .rebuild { part .sealing with sig.walk := .seal } ∧ { part .sealing with mgmt.deferred := some .release }.arb.grant = none := by
  dsimp only [portIdle, granted]; decide +kernel

theorem witness_PortQueueTakesUpToEight :
    { part .voting with port.queue := List.replicate 7 (.read 0 1) }.port.queue.length < 8 ∧
    8 ≤ { part .voting with port.queue := List.replicate 8 (.read 0 1) }.port.queue.length := by decide

-- The last word that fits and the first that does not; both ends of the aperture; a line of each class and of none.
theorem witness_TransactionChecksFollowTheTables :
    256 < (Transaction.read 0x7C8 8).firstWord % 256 + 8 ∧ (Transaction.read 0x7C0 8).firstWord % 256 + 8 ≤ 256 ∧
    33554432 ≤ (Transaction.read 0x10000000 1).firstWord ∧ (Transaction.read 0x10000FF8 1).firstWord < 33554944 ∧
    33554944 ≤ (Transaction.read 0x10001000 1).firstWord ∧ (Transaction.read 0xFFFFFF8 1).firstWord < 33554432 ∧
    classOf (part .voting) 3 = none ∧ classOf (part .voting) 2 = some .vital ∧ classOf (part .voting) 8 = some .journal ∧
    classOf (part .voting) 9 = some .events ∧ classOf (part .voting) 11 = some .plain ∧ classOf (part .voting) 12 = some .fixed := by
  decide +kernel

-- An aperture read of the last result words and one beyond them; a write whose only enabled word is ISSUE, and the word behind.
theorem test_aperture_offsets : checkTransaction (.read 0x10000178 1) (part .voting) = none ∧
    checkTransaction (.read 0x10000178 2) (part .voting) = some .aperture ∧
    checkTransaction (.write 0x10000080 [full 0, ⟨0, 0⟩]) (part .voting) = none ∧
    checkTransaction (.write 0x10000080 [full 0, full 0]) (part .voting) = some .aperture := by decide +kernel

theorem witness_HeadIsRefusedHeldOrGranted_1 :
    checkTransaction (.write 0x6000 [full 0]) (head (.write 0x6000 [full 0]) (part .voting)) = some .state ∧
    (part .voting).arb.grant ≠ some .processor ∧ (part .voting).port.held = none := by decide +kernel

/-- A write to the mark word. -/
def markWrite : Transaction := .write 0x10000200 [full 0]

/-- A source role in a phase, serving A over link 1. -/
def source (ph : SourcePhase) : SourceRole :=
  { joiner := .a, link := .link1, base := none, phase := ph, cycles := 0, linesSent := 0, scan := 0, captured := none
    holdTimer := none, catchupTimer := none, verdictTimer := none, closeCycle := 0, target := 0 }

/-- VOTING with a vote open on cycle 1, the peers A and B expected. -/
def voteOpen : State := { part .voting with
  csr.counter := 1, csr.counterInv := ~~~ 1
  vote.record := { VoteRecord.cleared with isOpen := true, cycle := 1, window := some 50, expected0 := true, expected1 := true } }

theorem witness_HeadIsRefusedHeldOrGranted_2 :
    decideTransaction markWrite (head markWrite voteOpen) = .hold ⟨true, false, false⟩ ∧
    decideTransaction (.write 0 [full 0]) { part .voting with repair.role := .source (source .catchup) } =
      .hold ⟨false, true, false⟩ ∧
    decideTransaction (.read 0 1) { part .voting with jnl.rb.rolling := true } = .hold ⟨false, false, true⟩ ∧
    voteOpen.arb.grant ≠ some .processor ∧ voteOpen.port.held = none := by decide +kernel

theorem witness_HeadIsRefusedHeldOrGranted_3 :
    decideTransaction (.read 0 1) (head (.read 0 1) (part .voting)) = .memory ∧ (part .voting).arb.grant = none ∧
    (part .voting).mgmt.deferred = none ∧ (part .voting).port.held = none := by decide +kernel

theorem witness_HeadIsRefusedHeldOrGranted_4 :
    { head (.read 0 1) (part .out) with arb.grant := some .processor }.arb.grant = some .processor ∧ (part .out).port.held = none := by
  decide

-- A read; one word and eight; a word without an enable beside one with; the mark; ISSUE; no enable at all.
theorem witness_ApertureHeadIsCarriedOut :
    decideTransaction (.read 0x10000208 2) (part .voting) = .aperture ∧
    decideTransaction (.write 0x10000000 [full 1]) (part .voting) = .aperture ∧
    decideTransaction (.write 0x10000078 [full 1]) (part .voting) = .aperture ∧
    (0x10000078 : BitVec 29).toNat / 8 < 33554448 ∧
    decideTransaction markWrite (part .voting) = .aperture ∧ (0x10000200 : BitVec 29).toNat / 8 = 33554496 ∧
    decideTransaction (.write 0x10000080 [full 1]) (part .voting) = .aperture ∧ (0x10000080 : BitVec 29).toNat / 8 = 33554448 ∧
    (part .voting).arb.grant = none ∧ (part .voting).port.held = none ∧
    decideTransaction (.write 0x10000048 (List.replicate 7 ⟨2, 0⟩ ++ [full 1])) (part .voting) = .aperture ∧
    apertureRows 9 (List.replicate 7 ⟨2, 0⟩ ++ [full 1]) = [.issueDiscard] ∧
    apertureRows 14 [full 1, ⟨2, 0x0F⟩] = [.apertureRegisterWrite 14 1 0xFF, .apertureRegisterWrite 15 2 0x0F] ∧
    apertureRows 64 [full 1] = [.cycleMark] ∧ (List.replicate 7 (⟨2, 0⟩ : WriteWord) ++ [full 1]).length ≤ 8 ∧
    decideTransaction (.write 0x10000200 [⟨2, 0⟩, ⟨2, 0⟩]) (part .voting) = .aperture ∧
    (∀ w ∈ [(⟨2, 0⟩ : WriteWord), ⟨2, 0⟩], w.enables = 0) := by decide +kernel

theorem witness_HeldHeadIsDecidedAgain_1 :
    (holdFor markWrite (part .voting)).vote = false ∧ (holdFor (.write 0 [full 0]) (part .voting)).catchup = false ∧
    (holdFor (.read 0 1) (part .voting)).rollback = false ∧
    { head markWrite (part .voting) with port.held := some ⟨true, false, false⟩ }.port.queue = markWrite :: [] := by decide +kernel

/-- A mark is held for the open vote. -/
def markHeld : State := { head markWrite voteOpen with port.held := some ⟨true, false, false⟩ }

-- At the window's expiry the condition has ended; at a BEAT it has not.
theorem witness_HeldHeadIsDecidedAgain_2 : markHeld.arb.grant = none ∧ markHeld.port.held = some ⟨true, false, false⟩ ∧
    markHeld.port.queue = markWrite :: [] ∧ after .voteWindowExpiry markHeld (fun t => t.port.held) = some none ∧
    after (.beatReceive .link1 []) markHeld (fun t => t.port.held) = some (some ⟨true, false, false⟩) := by decide +kernel

-- The last word of a line.
theorem witness_ProcessorReadReturnsItsWordsOrABusError_1 :
    granted .processor (head (.read 0x50 1) beforeWrites) ∧
    decideTransaction (.read 0x50 1) (head (.read 0x50 1) beforeWrites) = .memory ∧
    cleanAt (head (.read 0x50 1) beforeWrites) 10 [0x200000001] ∧
    decideTransaction (.read 0x7C0 8) (head (.read 0x7C0 8) beforeWrites) = .memory ∧
    cleanAt (head (.read 0x7C0 8) beforeWrites) 248 [0, 0, 0, 0, 0, 0, 0, 0] := by
  dsimp only [granted, cleanAt]; decide +kernel

/-- VOTING with word 11 poisoned. -/
def poisoned : State := { beforeWrites with mem := [(11, poisonWord 7)] }

theorem witness_ProcessorReadReturnsItsWordsOrABusError_2 :
    granted .processor (head (.read 0x58 1) poisoned) ∧ decideTransaction (.read 0x58 1) (head (.read 0x58 1) poisoned) = .memory ∧
    decodeStored (storedAt (head (.read 0x58 1) poisoned) 11) 11 = .uncorrectable 7 := by
  dsimp only [granted]; decide +kernel

theorem witness_UntrackedWriteStoresItsData_1 :
    granted .processor (head (.write 0x5000 [full 1, ⟨2, 0⟩]) (part .voting)) ∧
    decideTransaction (.write 0x5000 [full 1, ⟨2, 0⟩]) (part .voting) = .memory ∧
    (∀ w ∈ [full 1, ⟨2, 0⟩], w.enables = 0 ∨ w.enables = 0xFF) ∧ classOf (part .voting) 10 ≠ some .vital ∧
    decideTransaction (.write 0 [full 1]) (part .configured) = .memory ∧ classOf (part .configured) 0 = some .vital := by
  dsimp only [granted]; decide +kernel

theorem witness_UntrackedWriteStoresItsData_2 :
    granted .processor (head (.write 0x5000 [⟨1, 0x80⟩]) (part .voting)) ∧
    decideTransaction (.write 0x5000 [⟨1, 0x80⟩]) (part .voting) = .memory ∧
    decodeStored (storedAt (part .voting) 2560) 2560 = .clean 0 ∧ classOf (part .voting) 10 ≠ some .vital := by
  dsimp only [granted]; decide +kernel

-- Below the pressure level, and at it with pressure reported; SEALED too.
theorem witness_VitalWriteIsTracked_1 :
    granted .processor (head (.write 0x50 [full 0]) beforeWrites) ∧ decideTransaction (.write 0x50 [full 0]) beforeWrites = .memory ∧
    ordinalOf beforeWrites.regions.committed 0 = some 0 ∧ decodeStored (storedAt beforeWrites 10) 10 = .clean 0x200000001 ∧
    beforeWrites.jnl.entries + 1 < pressureLevel beforeWrites ∧ beforeWrites.jnl.entries < journalCapacity beforeWrites ∧
    { beforeWrites with jnl.openCount := 127, jnl.pressure := true }.jnl.entries < journalCapacity beforeWrites ∧
    decideTransaction (.write 0x12C0 [⟨0, 1⟩]) { beforeWrites with csr.state := .sealed } = .memory ∧
    ordinalOf beforeWrites.regions.committed 2 = some 2 := by
  dsimp only [granted]; decide +kernel

/-- The journal holds some entries, and the head is a vital write. -/
def filled (n : Nat) (pressed full_ : Bool) : State := { head (.write 0x50 [full 0]) beforeWrites with
  jnl.openCount := n, jnl.pressure := pressed, jnl.openOver := full_ }

-- The overflowed segment, the full ring, and the entry that reaches the pressure level.
theorem witness_VitalWriteIsTracked_3 : granted .processor (filled 128 true true) ∧ granted .processor (filled 128 true false) ∧
    granted .processor (filled 95 false false) ∧ (full 0).enables ≠ 0 ∧ ordinalOf beforeWrites.regions.committed 0 = some 0 ∧
    decodeStored (storedAt (filled 128 true true) 10) 10 = .clean 0x200000001 ∧ (filled 128 true false).csr.state = .voting ∧
    journalCapacity (filled 128 true false) ≤ (filled 128 true false).jnl.entries ∧
    (filled 95 false false).jnl.entries < journalCapacity (filled 95 false false) ∧
    pressureLevel (filled 95 false false) ≤ (filled 95 false false).jnl.entries + 1 := by
  dsimp only [granted]; decide +kernel

theorem witness_VitalWriteIsTracked_2 :
    granted .processor (head (.write 0x50 [full 1]) (part .sealing)) ∧
    decideTransaction (.write 0x50 [full 1]) (part .sealing) = .memory ∧
    ordinalOf (part .sealing).regions.committed 0 = some 0 ∧ decodeStored (storedAt (part .sealing) 10) 10 = .clean 0 := by
  dsimp only [granted]; decide +kernel

-- A line that is being copied has two places.
theorem witness_WrittenWordReadsBack : beforeWrites.mem.wf = true ∧
    secondPlace { beforeWrites with spare.remap := (.copying 0) :: List.replicate 31 .untested, spare.op.cursor := 11 } 10 = some (32 * 256 + 10) := by
  decide +kernel

theorem witness_LanesAreReplacedWhereEnabled_1 : (7 : Nat) < 8 := by decide

theorem witness_LanesAreReplacedWhereEnabled_2 : (15 : Nat) < 16 := by decide

/-- A command is BUSY. -/
def busyPart : State := { part .configured with mgmt.phase := .busy }

theorem witness_IssueIsAcceptedOrDiscarded_1 : busyPart.mgmt.phase = .busy ∧ busyPart.port.held = none ∧
    commandOf .seal = some (9, []) ∧ commandOf (.unknownCommand 20) = none := by decide

/-- A part whose command area begins with a code. -/
def areaOf (code : Word) : State := { part .voting with mgmt.area := code :: List.replicate 15 0 }

theorem witness_IssueIsAcceptedOrDiscarded_2 : free (areaOf 18) ∧ ((areaOf 18).mgmt.area.getD 0 0).toNat = 18 ∧
    ((areaOf 0).mgmt.area.getD 0 0).toNat = 0 ∧ 19 < ((areaOf 20).mgmt.area.getD 0 0).toNat := by
  dsimp only [free]; decide

theorem witness_IssueIsAcceptedOrDiscarded_3 : free (part .voting) ∧ (0 : Word).toNat = 0 ∧ 19 < (20 : Word).toNat := by
  dsimp only [free]; decide

-- The last index, the greatest count and the last line; one beyond each.
theorem witness_RegionsAndKeysAreLoaded_1 : free (part .configured) ∧ (15 : Word).toNat ≤ 15 ∧
    (131072 : Word).toNat ≠ 0 ∧ (0 : Word).toNat + (131072 : Word).toNat ≤ 131072 ∧ (5 : Word).toNat = RegionClass.code .events ∧
    15 < (16 : Word).toNat ∧ 131072 < (131073 : Word).toNat ∧ 131072 < (131072 : Word).toNat + (1 : Word).toNat ∧
    5 < (6 : Word).toNat ∧ (part .voting).csr.state ≠ .configured := by
  dsimp only [free]; decide

theorem witness_RegionsAndKeysAreLoaded_2 : free (part .configured) ∧ 1 ≤ (1 : Word).toNat ∧
    (0x1FFFFFFFFFFFFFFE : Word).toNat ≤ 2 ^ 61 - 2 ∧ ¬ (0x1FFFFFFFFFFFFFFF : Word).toNat ≤ 2 ^ 61 - 2 ∧ ¬ 1 ≤ (0 : Word).toNat := by
  dsimp only [free]; decide

-- A parameter of each shape, a value of each side of its clauses.
theorem witness_SetParameterClampsAndStores : free (part .configured) ∧ free State.reset ∧
    (clampedParameter (3 : Word).toNat).isSome = true ∧ (clampedParameter (14 : Word).toNat).isSome = true ∧
    (clampedParameter 1).isNone = true ∧ (clampedParameter 15).isNone = true ∧ 17 < (18 : Word).toNat ∧
    State.reset.csr.state = .unconfigured ∧ 3 < (4 : Word).toNat ∧ (3 : Word).toNat = Identity.code .c ∧
    (63 : Word).toNat < 64 ∧ 131072 < (131073 : Word).toNat ∧ ChannelState.loading .voting = false := by
  dsimp only [free]; decide

theorem witness_LinkModeTakesALinkInAndOutOfService_1 : free (part .configured) ∧ (15 : Word).toNat = 14 + LinkId.code .link1 ∧
    (16 : Word).toNat = 14 + LinkId.code .link2 ∧ 3 < (4 : Word).toNat ∧ (1 : Word).toNat = LinkMode.code .off ∧
    (getLink (part .configured) .link2).mode = .active ∧ (getLink (part .configured) .link2).status ≠ .up ∧
    (3 : Word).toNat = LinkMode.code .active ∧ (2 : Word).toNat = LinkMode.code .passive ∧
    (getLink { part .configured with link1.mode := .off } .link1).status = .down := by
  dsimp only [free]; decide

/-- Link 1 is UP with A, and is in some mode. -/
def upIn (m : LinkMode) : State := { part .voting with
  link1 := { Link.reset with mode := m, status := .up, peer := some .a, silenceTimer := some 20, beatTimer := some 5 } }

theorem witness_LinkModeTakesALinkInAndOutOfService_2 : free (upIn .active) ∧ (15 : Word).toNat = 14 + LinkId.code .link1 ∧
    (upIn .active).mgmt.params.channelId = some .c ∧ (upIn .active).repair.role = .none ∧
    (getLink (upIn .active) .link1).peer = some .a ∧ (upIn .active).link1.mode ≠ .passive ∧ (upIn .passive).link1.mode ≠ .active ∧
    { upIn .active with link1.status := .mismatch }.link1.status = .mismatch ∧
    { upIn .passive with link1.status := .hailing }.link1.status = .hailing := by
  dsimp only [free]; decide

theorem witness_CommitIsValidatedOrRefused_2 : free (part .voting) ∧ (part .voting).csr.state ≠ .configured ∧
    { part .configured with scrub.proof.status := .running }.scrub.proof.status = .running ∧
    tableFault State.reset ≠ none ∧ State.reset.csr.state = .unconfigured := by
  dsimp only [free]; decide +kernel

theorem witness_table_fits : TablesFit (part .configured) :=
  ⟨(by decide +kernel : table.Pairwise (fun x y =>
      x.valid = false ∨ y.valid = false ∨ x.base + x.count ≤ y.base ∨ y.base + y.count ≤ x.base)), by decide +kernel, by decide +kernel, by decide +kernel, by decide +kernel,
    by decide +kernel, by decide +kernel, by decide +kernel, by decide +kernel, by decide +kernel⟩

-- With witness_table_fits.
theorem witness_CommitTablesTakesTheLoadedTables : free (part .configured) ∧ (part .configured).csr.state = .configured ∧
    (part .configured).scrub.proof.status ≠ .running ∧ (part .configured).scrub.init.status ≠ .running ∧
    portIdle (part .configured) ∧ (part .configured).repair.role = .none := by
  dsimp only [free, portIdle]; decide +kernel

/-- A grant is under way. -/
def portBusy : State := { part .configured with arb.grant := some .copy }

theorem witness_DeferredEffectsWaitForTheGrant_1 : free portBusy ∧ portBusy.arb.grant = some .copy ∧ tableFault portBusy = none ∧
    granted .copy portBusy ∧ granted .scrub { part .configured with scrub.allowance := 1 } := by
  dsimp only [free, granted]; decide +kernel

theorem witness_DeferredEffectsWaitForTheGrant_2 : free (part .configured) ∧ portIdle (part .configured) ∧
    (part .configured).mgmt.deferred = none ∧ tableFault (part .configured) = none := by
  dsimp only [free, portIdle]; decide +kernel

/-- A proof test, or an initialise, of the PLAIN lines runs. -/
def proving (ph : TestPhase) (pass : Pass) (pos : Nat) : State := { part .configured with
  scrub.proof := { ProofRecord.reset with status := .running, first := 10, count := 2, phase := ph, pass := pass, position := pos } }
def initialising (n : Nat) : State := { part .configured with
  scrub.init := { status := .running, first := 10, count := 2, written := n } }

theorem witness_EngineCommandsStartAndStop_2 :
    free (part .configured) ∧ portIdle (part .configured) ∧ (part .configured).scrub.proof.status ≠ .running ∧
    (part .configured).scrub.init.status ≠ .running ∧ free (proving .write .a 0) ∧ (proving .write .a 0).arb.grant = none ∧
    (proving .write .a 0).mgmt.deferred = none ∧ (proving .write .a 0).scrub.proof.status = .running ∧
    free (initialising 0) ∧ (initialising 0).arb.grant = none ∧ (initialising 0).mgmt.deferred = none ∧
    (initialising 0).scrub.init.status = .running ∧ (initialising 0).scrub.proof.status ≠ .running ∧
    { part .configured with mgmt.deferred := some .stopTest }.arb.grant = none := by
  dsimp only [free, portIdle]; decide +kernel

-- The whole of the PLAIN region; a range that is empty, one that runs into the next line but one, one over EVENTS.
theorem witness_EngineCommandsStartAndStop_1 : free (part .configured) ∧ (part .configured).csr.state = .configured ∧
    (part .configured).scrub.proof.status ≠ .running ∧ (part .configured).scrub.init.status ≠ .running ∧
    rangeOk (part .configured) 10 2 ∧ ¬ rangeOk (part .configured) 10 0 ∧ ¬ rangeOk (part .configured) 131072 1 ∧
    ¬ rangeOk (part .configured) 9 1 ∧ (proving .write .a 0).csr.state = .configured := by
  refine ⟨by dsimp only [free]; decide, by decide, by decide, by decide, ⟨by decide, by decide, ?_⟩, fun h => absurd h.1 (by decide),
    fun h => absurd h.2.1 (by decide), fun h => ?_, by decide⟩
  · intro l h1 h2
    obtain rfl | rfl : l = 10 ∨ l = 11 := by omega
    · exact ⟨.plain, by decide +kernel, by decide⟩
    · exact ⟨.plain, by decide +kernel, by decide⟩
  · obtain ⟨c, h1, h2⟩ := h.2.2 9 (by decide) (by decide)
    have : classOf (part .configured) 9 = some .events := by decide +kernel
    exact h2 (Option.some.inj (h1.symm.trans this))

theorem witness_SealStartsTheSealWalk : free (part .configured) ∧ (part .configured).csr.state = .configured ∧
    (part .configured).scrub.proof.status ≠ .running ∧ (initialising 0).scrub.init.status = .running ∧
    (part .voting).csr.state ≠ .configured := by
  dsimp only [free]; decide

/-- A joiner role in a phase, with A as its candidate or source over link 1. -/
def joiner (ph : JoinerPhase) : JoinerRole :=
  { freshJoiner false with phase := ph, candidate := some .a, source := some .a, link := some .link1, retry := 1 }

theorem witness_JoinAndResumeChangeTheState_1 : free (part .configured) ∧ (part .configured).sig.valid = false ∧
    (proving .write .a 0).scrub.proof.status = .running ∧ (part .voting).csr.state ≠ .configured ∧ (part .voting).csr.state ≠ .out ∧
    { part .out with repair.role := .joiner (joiner .preparing) }.repair.role = .joiner (joiner .preparing) ∧
    (joiner .preparing).phase = .preparing ∧ (joiner .requesting).phase = .requesting := by
  dsimp only [free]; decide

theorem witness_JoinAndResumeChangeTheState_2 : free (part .held) ∧ (part .held).csr.state = .held ∧
    (part .held).csr.counter = (part .held).csr.committed ∧ (part .voting).csr.state ≠ .held := by
  dsimp only [free]; decide

theorem witness_ReleaseReturnsToConfigured : free State.reset ∧ State.reset.csr.state = .unconfigured ∧ free (part .voting) ∧
    (part .voting).csr.state ≠ .unconfigured ∧ portIdle (part .voting) ∧
    { voteOpen with mgmt.deferred := some .release }.arb.grant = none := by
  dsimp only [free, portIdle]; decide +kernel

/-- A suspect table with one entry for line 10. -/
def suspecting (n : Nat) (pending : Bool) (st : ChannelState) : State :=
  { part st with spare.suspects := some { line := 10, count := n, recency := 0, pending := pending } :: List.replicate 15 none }

/-- A full suspect table of entries for lines that lie elsewhere. -/
def fullTable (pending : Bool) : State :=
  { part .voting with spare.suspects := (List.range 16).map (fun i => some ⟨20 + i, 1, i, pending⟩) }

theorem witness_RetireLineMakesTheLinePending_1 : free State.reset ∧ free (part .voting) ∧ regionOf (part .voting) 13 = none ∧
    regionOf (part .voting) 10 ≠ none ∧
    findSuspect (suspecting 1 true .voting).spare.suspects 10 = some ⟨10, 1, 0, true⟩ ∧
    findSuspect (suspecting 15 false .voting).spare.suspects 10 = some ⟨10, 15, 0, false⟩ ∧
    findSuspect (part .voting).spare.suspects 10 = none ∧ firstEmpty (part .voting).spare.suspects 0 = some 0 ∧
    firstEmpty (fullTable false).spare.suspects 0 = none ∧ victim (fullTable false).spare.suspects 0 = some (15, ⟨35, 1, 15, false⟩) ∧
    (fullTable true).spare.suspects.all (fun x => (x.map Suspect.pending).getD false) = true := by
  dsimp only [free]; decide +kernel

theorem witness_RetireLineMakesTheLinePending_2 :
    victim (fullTable false).spare.suspects 0 = some (15, ⟨35, 1, 15, false⟩) := by decide +kernel

-- Acknowledging to the producer and beyond it; the last index of the ring and one beyond; a SUMMARY that finds room, also while a
-- record is being written.
theorem witness_EventAckMovesTheConsumer :
    let s : State := { part .voting with ev.producer := 2, ev.kinds := [.vote, .repair], ev.withheld := 2 }
    free s ∧ eventCapacity s = 64 ∧ (2 + 64 - 0) % 64 ≤ (2 + 64 - 0) % 64 ∧ (2 + 64 - 0) % 64 < (3 + 64 - 0) % 64 ∧
      (63 : Word).toNat < 64 ∧ 64 ≤ (64 : Word).toNat ∧ s.ev.withheld ≠ 0 ∧
      free { s with arb.grant := some .eventWrite } := by
  refine ⟨by unfold free; decide, by decide +kernel, by decide, by decide, by decide, by decide, by decide, by unfold free; decide⟩

/-- A record. -/
def record : EventRecord := { kind := .vote, detail := 1, state := .voting, cycle := 1, subject := .peers false true false, value := 2 }

-- R185, last paragraph: the record under way is written first and raises INT; the SUMMARY follows it.
theorem test_record_under_way_comes_before_the_summary :
    let s : State := { part .voting with arb.grant := some .eventWrite, ev.producer := 2, ev.kinds := [.vote, .repair]
                                         ev.withheld := 2, ev.waiting := [record] }
    (after (.eventAck 2) s (fun t => after .eventWrite t (fun u => (u.ev.kinds, u.ev.waiting.map EventRecord.kind, u.ev.intLevel)))).join =
      some ([.vote], [.summary], true) := by decide +kernel

theorem witness_RecordsAreQueuedAndWritten_1 : State.reset.csr.state = .unconfigured ∧
    (part .voting).csr.state ≠ .unconfigured ∧ occupancy { part .voting with ev.producer := 62 } < eventCapacity (part .voting) - 1 ∧
    eventCapacity (part .voting) - 1 ≤ occupancy { part .voting with ev.producer := 63 } ∧
    8 ≤ { part .voting with ev.waiting := List.replicate 8 record }.ev.waiting.length := by decide +kernel

theorem witness_StatusPagesAndEntriesAreReturned_1 : free (part .voting) ∧ (1 : Word).toNat = 1 ∧ (9 : Word).toNat = 9 ∧ 9 < (10 : Word).toNat := by
  dsimp only [free]; decide

theorem witness_ReadCountersReturnsAndClears : free (part .voting) ∧ (1 : Word).toNat = 1 ∧ (2 : Word).toNat = 2 ∧
    (3 : Word).toNat ≠ 1 ∧ (3 : Word).toNat ≠ 2 := by dsimp only [free]; decide

theorem witness_StatusPagesAndEntriesAreReturned_2 : free (part .voting) ∧ (part .voting).regions.loaded[15]? = some RegionEntry.cleared ∧
    (suspecting 1 true .voting).spare.suspects[0]? = some (some ⟨10, 1, 0, true⟩) ∧
    { part .voting with spare.remap := List.replicate 31 RemapEntry.untested ++ [RemapEntry.copying 10] }.spare.remap[31]? = some (.copying 10) ∧
    (1 : Word).toNat < 2 ∧ 2 ≤ (2 : Word).toNat ∧ 4 < (5 : Word).toNat := by dsimp only [free]; decide +kernel

theorem witness_FaultCommandsDriveTheLatch : free (part .voting) := by unfold free; decide

theorem witness_TakenMarkOpensTheVote_1 : copiesAgree beforeWrites ∧ beforeWrites.csr.state = .voting ∧
    beforeWrites.vote.record.isOpen = false ∧ beforeWrites.jnl.rb.rolling = false ∧ (∀ r, beforeWrites.repair.role ≠ .source r) ∧
    beforeWrites.vote.peer0.state = some .voting ∧ beforeWrites.vote.peer0.slot = none ∧ beforeWrites.link1.status ≠ .up ∧
    { beforeWrites with link2.status := .up }.mgmt.params.channelId ≠ none ∧ beforeWrites.arb.grant ≠ some .processor := by
  refine ⟨by unfold copiesAgree; decide +kernel, by decide, by decide, by decide, fun r => nofun, ?_⟩; decide

/-- Both peers vote, and their SIGNs for cycle 7 are parked. -/
def bothParked : State := { beforeWrites with
  vote.peer0.slot := some { cycle := 7, signature := 5, arrival := .direct }
  vote.peer1.slot := some { cycle := 7, signature := 6, arrival := .relayed } }

theorem witness_TakenMarkOpensTheVote_2 : copiesAgree bothParked ∧ bothParked.csr.state = .voting ∧
    bothParked.arb.grant = none ∧ bothParked.vote.record.isOpen = false ∧ bothParked.jnl.rb.rolling = false ∧
    (∀ r, bothParked.repair.role ≠ .source r) ∧ bothParked.port.held = none ∧ bothParked.csr.counter + 1 = 7 ∧
    bothParked.vote.peer0.slot ≠ none ∧ bothParked.vote.peer1.slot ≠ none ∧
    ({ bothParked with vote.peer0.state := none, vote.peer1.state := none } : State).vote.peer1.state = none := by
  refine ⟨by unfold copiesAgree; decide +kernel, by decide, by decide, by decide, by decide, fun r => nofun, ?_⟩; decide

/-- A serves in PASS over link 1, UP, with some lines left and some cycles counted, and waits for A's SIGN at a mark. -/
def passing (cycles : Nat) (left : List Nat) : State := { beforeWrites with
  repair.role := .source { source .pass with cycles := cycles }, repair.r := left
  link1 := { Link.reset with status := .up, peer := some .a, silenceTimer := some 20, beatTimer := some 5 } }

-- The cycle at which the limit is passed and the one before; as many lines left as CATCHUP-LINES and one more; none left.
theorem witness_TakenMarkOpensTheVote_3 : copiesAgree (passing 32 [0]) ∧ (passing 32 [0]).csr.state = .voting ∧
    (passing 32 [0]).arb.grant = none ∧ (passing 32 [0]).vote.record.isOpen = false ∧
    (passing 32 [0]).jnl.rb.rolling = false ∧ (source .pass).phase = .pass ∧
    (passing 32 [0]).mgmt.params.channelId = some .c ∧ (getLink (passing 32 [0]) (source .pass).link).status = .up ∧
    (passing 32 [0]).vote.peer0.state = some .voting ∧ (passing 32 [0]).vote.peer0.slot = none ∧
    (passing 32 [0]).mgmt.params.repairCycleLimit ≤ 32 ∧ 0 < (passing 32 [0]).mgmt.params.repairCycleLimit ∧
    { (passing 0 [0, 1]) with mgmt.params.catchupLines := 1 }.mgmt.params.catchupLines < (passing 0 [0, 1]).repair.r.length ∧
    (passing 0 [0]).repair.r.length ≤ (passing 0 [0]).mgmt.params.catchupLines ∧ (passing 0 [0]).repair.r ≠ [] ∧
    (passing 0 []).repair.r = [] ∧ (source .pass).captured = none ∧ (source .awaitVerdict).phase = .awaitVerdict := by
  refine ⟨by unfold copiesAgree; decide +kernel, ?_⟩; decide

theorem witness_MarkElsewhereOrOnAnUpsetRecord_1 : (part .held).csr.state ≠ .sealed ∧ (part .held).csr.state ≠ .voting ∧
    (markHold (part .held)).any = false ∧ copiesAgree (part .held) ∧ State.reset.csr.state = .unconfigured ∧
    (part .held).arb.grant ≠ some .processor := by
  unfold copiesAgree; decide +kernel

theorem witness_MarkElsewhereOrOnAnUpsetRecord_2 :
    recordUpset { beforeWrites with csr.cInv := 0 } = some (4, 2275554118) ∧
    (markHold { beforeWrites with csr.cInv := 0 }).any = false ∧ beforeWrites.repair.role = .none ∧
    beforeWrites.sig.walk ≠ .seal ∧ beforeWrites.arb.grant = none ∧
    { part .configured with mgmt.deferred := some .commitTables, csr.cInv := 0 }.csr.state ≠ .unconfigured := by decide +kernel

/-- The open vote has these arrivals. -/
def arrived (a b : Option (Nat × Arrival)) : State :=
  { voteOpen with vote.record.arrival0 := a, vote.record.arrival1 := b, sig.valid := true }

theorem witness_AgreeCommitsTheCycle : (arrived none (some (0, .relayed))).vote.record.isOpen = true ∧
    (arrived none (some (0, .relayed))).vote.record.window ≠ none ∧ copiesAgree (arrived none (some (0, .relayed))) ∧
    (arrived none (some (0, .relayed))).vote.record.snapshot = 0 ∧ (arrived none (some (0, .relayed))).arb.grant = none := by
  dsimp only [copiesAgree]; decide +kernel

theorem witness_VotesWithoutAgreement_1 : copiesAgree (arrived (some (5, .direct)) (some (5, .relayed))) ∧
    (5 : Nat) < 2 ^ 61 - 1 ∧ 0 < (arrived none none).mgmt.params.rejoinRetries ∧ (5 : Nat) ≠ (arrived (some (5, .direct)) (some (5, .relayed))).vote.record.snapshot ∧
    (arrived (some (5, .direct)) (some (5, .relayed))).arb.grant = none ∧
    (arrived none none).repair.role = .none ∧ (arrived none none).jnl.entries = 0 ∧ (arrived none none).jnl.broken = false ∧
    (arrived none none).sig.valid = true ∧ (arrived none none).sig.s = (arrived none none).csr.c ∧
    otherIds (arrived none none).mgmt.params.channelId = some (.a, .b) ∧
    eligible { Peer.reset with link := some .link1, state := some .voting } = true := by
  dsimp only [copiesAgree]; decide +kernel

/-- An open vote without arrivals, while both peers report VOTING and these committed cycles. -/
def reporting (m n : Cycle) : State := { arrived none none with
  vote.peer0 := { Peer.reset with state := some .voting, committed := m }
  vote.peer1 := { Peer.reset with state := some .voting, committed := n } }

-- No peer ahead, one of them ahead, and both, at the ends of the range.
theorem witness_VotesWithoutAgreement_2 : copiesAgree (arrived none none) ∧ (arrived none none).vote.record.isOpen = true ∧
    (arrived none none).vote.record.window ≠ none ∧ (∀ r, (arrived none none).repair.role ≠ .source r) ∧
    ¬ bothAhead (arrived none none) ∧ ¬ bothAhead (reporting 0 1) ∧ bothAhead (reporting 1 0x7FFFFFFF) ∧
    ¬ bothAhead (reporting 1 0x80000000) ∧ copiesAgree (reporting 1 1) ∧ (reporting 1 1).vote.record.isOpen = true ∧
    (arrived none none).arb.grant = none ∧ noMajorityIn (arrived none none).vote.record ∧
    noMajorityIn (arrived (some (2 ^ 61 - 1, .direct)) (some (2 ^ 61 - 1, .direct))).vote.record := by
  refine ⟨by unfold copiesAgree; decide +kernel, by decide, by decide, fun r => nofun, by unfold bothAhead; decide,
    by unfold bothAhead; decide, by unfold bothAhead; decide, by unfold bothAhead; decide, by unfold copiesAgree; decide +kernel,
    by decide, by decide, ⟨fun how => by cases how <;> decide +kernel, fun v h0 h1 h => nofun⟩, ⟨fun how => by cases how <;> decide +kernel, fun v h0 h1 h _ => ?_⟩⟩
  injection h with h; injection h with h _; exact h ▸ Nat.le_refl _

theorem witness_WordsReadOutsideCleanAreReported_1 :
    let s : State := { suspecting 15 false .voting with mem := [(2560, upset 2560 1)] }
    let u : State := { suspecting 3 false .voting with mem := [(2815, upset 2815 1)] }
    decodeStored (storedAt s 2560) 2560 = .corrected 1 ∧ regionOf s 10 = some (1, entry 10 2 .plain) ∧
      findSuspect s.spare.suspects 10 = some ⟨10, 15, 0, false⟩ ∧ decodeStored (storedAt u 2815) 2815 = .corrected 1 ∧
      findSuspect u.spare.suspects 10 = some ⟨10, 3, 0, false⟩ := by decide +kernel

-- The first empty slot; the victim of a full table; a table whose entries are all pending.
theorem witness_CorrectedErrorEntersANewLine :
    let correcting (t : State) : State := { t with mem := [(2560, upset 2560 1)] }
    (∀ t ∈ [part .voting, fullTable false, fullTable true], decodeStored (storedAt (correcting t) 2560) 2560 = .corrected 1) ∧
    regionOf (correcting (part .voting)) 10 = some (1, entry 10 2 .plain) ∧
      (part .voting).spare.suspects.all (fun y => decide (y = none)) = true ∧
      (fullTable false).spare.suspects.all (fun y => y.all (fun y => decide (y.line ≠ 10 ∧ y.recency ≤ 15 ∧ y.pending = false))) = true ∧
      victim (fullTable false).spare.suspects 0 = some (15, ⟨35, 1, 15, false⟩) ∧ none ∉ (fullTable false).spare.suspects ∧
      (fullTable true).spare.suspects.all (fun y => y.any (fun y => decide (y.line ≠ 10 ∧ y.recency ≤ 15) && y.pending)) = true := by
  decide +kernel

theorem witness_WordsReadOutsideCleanAreReported_2 : decodeStored (storedAt poisoned 11) 11 = .uncorrectable 7 ∧
    classOf poisoned 0 = some .vital := by decide +kernel

/-- The scrub walk stands at a word of a line, with one unit of allowance. -/
def scrubbing (l w : Nat) (st : ChannelState) : State := { part st with scrub.line := l, scrub.word := w, scrub.allowance := 1 }

theorem witness_ScrubWalkReadsTheCoveredLines : runs .scrub (scrubbing 0 0 .voting) ∧ runs .scrub (scrubbing 0 255 .voting) ∧
    runs .scrub (scrubbing 9 255 .voting) ∧ scrubPlace (scrubbing 0 255 .voting) = some (0, 255) ∧
    nextCovered (part .voting).regions.committed 1 = some 1 ∧ scrubPlace (scrubbing 9 255 .voting) = some (9, 255) ∧
    nextCovered (part .voting).regions.committed 10 = none ∧ nextCovered (part .voting).regions.committed 0 = some 0 ∧
    decodeStored (storedAt (part .voting) 255) 255 = .clean 0 := by
  dsimp only [runs, granted]; decide +kernel

theorem witness_UncorrectableVitalWordWithdrawsTheChannel_1 :
    let s : State := { scrubbing 0 11 .voting with mem := [(11, poisonWord 7)] }
    runs .scrub s ∧ runs .scrub { scrubbing 0 11 .sealed with mem := [(11, poisonWord 7)] } ∧
      runs .scrub { scrubbing 0 11 .held with mem := [(11, poisonWord 7)] } ∧ scrubPlace s = some (0, 11) ∧ decodeStored (storedAt s 11) 11 = .uncorrectable 7 ∧
      classOf s 0 = some .vital ∧ s.repair.role = .none ∧ s.jnl.entries = 0 ∧ s.jnl.broken = false ∧ s.jnl.rb.rolling = false := by
  unfold runs granted; decide +kernel

theorem witness_EngineStepsWriteAndCheckTheirRange :
    (runs .proof (proving .write .a 0) ∧ 510 + 1 < 2 * 256 ∧ runs .proof (proving .read .a 510) ∧ runs .proof (proving .read .b 511) ∧
    decodeStored (storedAt (proving .read .a 0) 2560) 2560 = .clean 0 ∧ testPattern .a 2560 ≠ 0 ∧
    decodeStored (storedAt { proving .read .b 511 with mem := [(3071, goodWord 3071 (testPattern .b 3071))] } 3071) 3071 =
      .clean (testPattern .b 3071) ∧
    decodeStored (storedAt { proving .read .a 0 with mem := [(2560, upset 2560 1)] } 2560) 2560 = .corrected 1 ∧
    decodeStored (storedAt { proving .read .a 0 with mem := [(2560, poisonWord 7)] } 2560) 2560 = .uncorrectable 7 ∧
    regionOf (proving .read .a 0) 10 = some (1, entry 10 2 .plain) ∧ (proving .read .a 0).csr.state = .configured ∧
    classOf (proving .read .a 0) 10 ≠ some .journal ∧
    runs .proof (proving .write .b 511) ∧ runs .proof (proving .read .a 511) ∧ 2 * 256 ≤ 511 + 1 ∧
    ({ proving .read .b 511 with scrub.proof.loop := true } : State).scrub.proof.loop = true ∧
    runs .init (initialising 0) ∧ runs .init (initialising 511)) ∧
    runs .proof { proving .write .a 0 with csr.state := .halted, scrub.proof.first := 0 } ∧
    runs .init { initialising 0 with csr.state := .halted, scrub.init.first := 0 } ∧
    classOf { proving .write .a 0 with csr.state := .halted } 0 = some .vital ∧
    runs .proof { proving .read .a 0 with csr.state := .halted } := by
  dsimp only [runs, granted]; constructor <;> decide +kernel

-- R37, R40: every word of the range is written, a VITAL word in HALTED too (log entry 37).
theorem test_engines_write_vital_words_in_halted :
    after .initStep { initialising 0 with csr.state := .halted, scrub.init.first := 0, mem := [(0, poisonWord 7)] }
      (fun t => (t.mem.read 0, t.scrub.init.written)) = some (goodWord 0 0, 1) ∧
    after .proofStep { proving .write .b 1 with csr.state := .halted, scrub.proof.first := 0 } (fun t => t.mem.read 1) =
      some (goodWord 1 0xFFFFFFFEFFFFFFFE) := by decide +kernel

/-- The spare pool with the first spare in a state. -/
def pool (e : RemapEntry) (s : State) : State := { s with spare.remap := e :: List.replicate 31 .bad }

theorem witness_SparePendingLineIsServed : firstPending (suspecting 4 true .voting).spare.suspects = some 10 ∧
    (suspecting 4 true .voting).spare.op.kind = .idle ∧
    findRemap (fun e => decide (e = .ready)) (pool .ready (part .voting)).spare.remap 0 = some 0 ∧
    findRemap (fun e => decide (e = .untested)) (pool .untested (part .voting)).spare.remap 0 = some 0 ∧
    findRemap (fun e => decide (e = .ready)) (pool .untested (part .voting)).spare.remap 0 = none ∧
    findRemap (fun e => decide (e = .untested)) (pool .bad (part .voting)).spare.remap 0 = none ∧
    activeSpare { part .voting with spare.remap := List.replicate 31 .bad ++ [.active 10] } 10 = some 31 := by decide +kernel

/-- Spare 0 is tested for line 10. -/
def testing (ph : TestPhase) (pass : Pass) (w : Nat) : State := { suspecting 4 true .voting with
  spare.op := { SpareOp.reset with kind := .testing, phase := ph, pass := pass, word := w, serving := 10 } }

theorem witness_SparesAreTestedAndCopiedInto_1 : runs .spareTest (testing .write .a 254) ∧
    decodeStored ((testing .read .a 0).mem.read 8192) 8192 = .clean 0 ∧ testPattern .a 8192 ≠ 0 ∧
    decodeStored ({ testing .read .b 255 with mem := [(8447, goodWord 8447 (testPattern .b 8447))] }.mem.read 8447) 8447 =
      .clean (testPattern .b 8447) ∧ copyingSpare (testing .read .b 255) 10 = none ∧ activeSpare (testing .read .b 255) 10 = none ∧
    findRemap (fun e => decide (e = .ready)) ((testing .read .b 255).spare.remap.set 0 .ready) 0 = some 0 ∧
    findRemap (fun e => decide (e = .untested)) ((testing .read .a 0).spare.remap.set 0 .bad) 0 = some 1 ∧
    findRemap (fun e => decide (e = .ready)) ((testing .read .a 0).spare.remap.set 0 .bad) 0 = none := by
  dsimp only [runs, granted]; decide +kernel

/-- Line 10 is copied to spare 0. -/
def copying (w : Nat) : State := { suspecting 4 true .voting with
  spare.op := { SpareOp.reset with kind := .copying, target := 10, source := 10, cursor := w }
  spare.remap := .copying 10 :: List.replicate 31 .untested }

theorem witness_SparesAreTestedAndCopiedInto_2 : runs .copy (copying 254) ∧ runs .copy (copying 255) ∧
    decodeStored (storedAt (copying 254) 2814) 2814 = .clean 0 ∧ decodeStored (storedAt (copying 255) 2815) 2815 = .clean 0 := by
  dsimp only [runs, granted]; decide +kernel

theorem witness_IncrementalUpdateKeepsTheSum : [10, 11].Nodup ∧ 11 ∈ [10, 11] := by decide

theorem witness_VitalOrdinalsAreABijection :
    table.Pairwise apart ∧ vitalLines table = 3 ∧ lineOf table 2 = some 2 ∧ ordinalOf table 2 = some 2 :=
  ⟨witness_table_fits.disjoint, by decide +kernel⟩

theorem witness_WordHashIsTheProductOfTwoRemainders : (2 ^ 25 - 1 : Nat) < 2 ^ 25 ∧
    ((11 : Word).toNat % 2 ^ 32 + (modulus - 1) * (10 + 1)) % (2 ^ 61 - 1) = 0 := by decide +kernel

/-- A line's words as they are read, one by one. -/
theorem cleanAt_of_reads (s : State) (vs : List Word) : ∀ a,
    (∀ i v, vs[i]? = some v → decodeStored (storedAt s (a + i)) (a + i) = .clean v) → cleanAt s a vs := by
  induction vs with
  | nil => exact fun _ _ => trivial
  | cons v vs ih =>
    exact fun a h => ⟨h 0 v rfl, ih (a + 1) (fun i w hw => by
      have := h (i + 1) w hw
      rwa [show a + 1 + i = a + (i + 1) by omega])⟩

/-- A line of zeros. -/
theorem zeros_read (s : State) (a : Nat) (h : ∀ i, i < 256 → storedAt s (a + i) = goodWord (a + i) 0) :
    cleanAt s a (List.replicate 256 0) :=
  cleanAt_of_reads s _ a (fun i v hv => by
    rw [List.getElem?_replicate] at hv
    split at hv
    · cases hv; rw [h i ‹_›]; exact decode_goodWord ..
    · cases hv)

/-- The seal walk stands at an ordinal. -/
def walking (o : Nat) : State := { part .sealing with sig.walk := .seal, sig.cursor := o }

theorem witness_RebuildStepSumsOneLine_1 : runs .rebuild (walking 1) ∧ lineOf (walking 1).regions.committed 1 = some 1 ∧
    cleanAt (walking 1) 256 (List.replicate 256 0) ∧ 1 + 1 < numVital (walking 1) ∧
    runs .rebuild (walking 2) ∧ lineOf (walking 2).regions.committed 2 = some 2 ∧
    cleanAt (walking 2) 512 (List.replicate 256 0) ∧ numVital (walking 2) ≤ 2 + 1 := by
  refine ⟨by unfold runs granted; decide +kernel, by decide +kernel, zeros_read _ _ (by decide +kernel), by decide +kernel,
    by unfold runs granted; decide +kernel, by decide +kernel, zeros_read _ _ (by decide +kernel), by decide +kernel⟩

/-- The seal walk meets poison in word 7 of line 1. -/
def sealPoisoned : State := { walking 1 with mem := [(263, poisonWord 9)] }

theorem witness_RebuildStepSumsOneLine_2 : runs .rebuild sealPoisoned ∧
    lineOf sealPoisoned.regions.committed sealPoisoned.sig.cursor = some 1 ∧ sealPoisoned.csr.state = .sealing ∧
    classOf sealPoisoned 1 = some .vital ∧ decodeStored (storedAt sealPoisoned 263) 263 = .uncorrectable 9 ∧
    (∀ i, i < 256 → i ≠ 7 → decodeStored (storedAt sealPoisoned (1 * 256 + i)) (1 * 256 + i) = .clean 0) := by
  refine ⟨by unfold runs granted; decide +kernel, by decide +kernel, by decide, by decide +kernel, by decide +kernel,
    fun i hi hn => ?_⟩
  have : storedAt sealPoisoned (1 * 256 + i) = goodWord (1 * 256 + i) 0 := by
    revert i; decide +kernel
  rw [this]; exact decode_goodWord ..

/-- The preparation walk of a joiner in OUT stands at an ordinal. -/
def preparing (o : Nat) : State := { part .out with
  sig := { SignatureUnit.reset with committedKeys := ⟨3, 5, 7⟩, walk := .preparation, cursor := o }
  repair.role := .joiner (joiner .preparing)
  link1 := { Link.reset with status := .up, peer := some .a, silenceTimer := some 20, beatTimer := some 5 }
  vote.peer0 := { Peer.reset with link := some .link1, state := some .voting } }

/-- The same, with the scrub walk at word 7 of a vital line that holds poison. -/
def scrubbedIn (l o : Nat) : State := { preparing o with
  mem := [(256 * l + 7, poisonWord 9)], scrub.line := l, scrub.word := 7, arb.grant := some .scrub }

-- The walk's own poison below the last line; the scrub walk's poison at the cursor and below it; the last line.
theorem witness_RebuildStepSumsOneLine_3 :
    (let s : State := { preparing 1 with mem := [(263, poisonWord 9)] }
    runs .rebuild s ∧ lineOf s.regions.committed s.sig.cursor = some 1 ∧ s.csr.state = .out ∧ classOf s 1 = some .vital ∧
      s.sig.cursor + 1 < numVital s ∧ decodeStored (storedAt s 263) 263 = .uncorrectable 9 ∧
      (List.replicate 256 (0 : Word)).getD 7 0 = 0 ∧
      (∀ i, i < 256 → i ≠ 7 → storedAt s (1 * 256 + i) = goodWord (1 * 256 + i) 0) ∧ s.sig.cursor ∉ s.sig.poisoned ∧
      s.sig.acc < modulus) ∧
    runs .scrub (scrubbedIn 1 1) ∧ scrubPlace (scrubbedIn 1 1) = some (1, 7) ∧
    decodeStored (storedAt (scrubbedIn 1 1) 263) 263 = .uncorrectable 9 ∧ classOf (scrubbedIn 1 1) 1 = some .vital ∧
    ordinalOf (scrubbedIn 1 1).regions.committed 1 = some 1 ∧ (scrubbedIn 1 1).sig.cursor ≤ 1 ∧
    runs .scrub (scrubbedIn 1 2) ∧ 1 < (scrubbedIn 1 2).sig.cursor ∧
    runs .rebuild (preparing 2) ∧ lineOf (preparing 2).regions.committed (preparing 2).sig.cursor = some 2 ∧
    cleanAt (preparing 2) 512 (List.replicate 256 0) ∧ numVital (preparing 2) ≤ 2 + 1 ∧
    (preparing 2).mgmt.params.channelId = some .c ∧ otherIds (some .c) = some (.a, .b) ∧
    eligible (preparing 2).vote.peer0 = true ∧ (preparing 2).vote.peer0.link = some .link1 ∧
    (getLink (preparing 2) .link1).status = .up := by
  refine ⟨⟨by unfold runs granted; decide +kernel, ?_⟩, by unfold runs granted; decide +kernel, by decide +kernel,
    by decide +kernel, by decide +kernel, by decide +kernel, by decide, by unfold runs granted; decide +kernel, by decide,
    by unfold runs granted; decide +kernel, by decide +kernel, zeros_read _ _ (by decide +kernel), by decide +kernel, ?_⟩ <;>
    decide +kernel

/-- Section 5.6.3 before its step 1, with the tag of entry 0 as given. -/
def undoing (tag : Word) : State := { beforeWrites with
  mem := [(10, goodWord 10 0x200000001), (2048, goodWord 2048 (tag <<< 32 ||| 600)), (2049, goodWord 2049 1)]
  sig.s := 2275551579, jnl.boundary := 127, jnl.tail := 1, jnl.votingCount := 2, jnl.openCount := 2
  jnl.rb := { rolling := true, reason := some .noMajority, validAtStart := true, tagVoting := 7, tagOpen := 8, undone := 0 } }

theorem witness_RollbackStepUndoesTheNewestEntry_1 : runs .rollback (undoing 8) ∧ (undoing 8).jnl.broken = false ∧
    journalSlot (undoing 8) ((1 + 128 - 1) % 128) = 2048 ∧ cleanAt (undoing 8) 2048 [0x800000258, 1] ∧
    (0x800000258 : Word).toNat % 2 ^ 25 = 600 ∧ ordinalOf (undoing 8).regions.committed 2 = some 2 ∧
    decodeStored (storedAt (undoing 8) 600) 600 = .clean 0 ∧ (undoing 8).jnl.rb.tagOpen = 8 ∧
    cleanAt (undoing 9) 2048 [0x900000258, 1] ∧ runs .rollback (undoing 9) ∧
    (undoing 9).repair.role = .none ∧ (undoing 9).sig.walk ≠ .seal ∧ (undoing 9).csr.state ≠ .halted ∧
    runs .rollback { undoing 9 with
      jnl.rb.reason := some .dissent, csr.state := .out, csr.stateInv := ~~~ 7, repair.role := .joiner (joiner .preparing) } := by
  dsimp only [runs, granted, cleanAt]; decide +kernel

theorem witness_RecordsAreQueuedAndWritten_2 :
    runs .eventWrite { part .voting with ev.waiting := [record], ev.producer := 63 } := by
  unfold runs granted; decide +kernel

/-! The links and the repair: A is the peer on link 1. -/

/-- Link 1 is UP with A; the peer table says so, and that A votes. -/
def linked (st : ChannelState) : State := { part st with
  link1 := { Link.reset with status := .up, peer := some .a, silenceTimer := some 20, beatTimer := some 5 }
  vote.peer0 := { Peer.reset with link := some .link1, state := some .voting } }

/-- Link 1 is in a state. -/
def linkIn (k : LinkStatus) : State :=
  { part .configured with link1.status := k, link1.hailTimer := some 1, link1.quietTimer := some 4 }

theorem witness_LinkTimersActAndRestart_1 : (linkIn .hailing).mgmt.params.channelId = some .c ∧
    (getLink (linkIn .hailing) .link1).hailTimer ≠ none ∧ (getLink (linkIn .mismatch) .link1).status = .mismatch ∧
    (getLink (part .configured) .link1).hailTimer = none ∧ (getLink (linkIn .quiet) .link1).quietTimer ≠ none ∧
    (getLink (linked .voting) .link1).silenceTimer ≠ none ∧ (getLink (linked .voting) .link1).peer = some .a ∧
    (linked .voting).repair.role = .none ∧ (getLink (linked .voting) .link1).beatTimer ≠ none ∧
    (getLink (linked .voting) .link1).status = .up := by decide

theorem witness_LinkTimersActAndRestart_2 :
    let s : State := { linked .voting with repair.role := .source (source .pass) }
    let j : JoinerRole := { joiner .receiving with source := some .a, link := some .link1 }
    (getLink s .link1).silenceTimer ≠ none ∧ (getLink s .link1).peer = some .a ∧ s.arb.grant = none ∧
      (source .pass).link = .link1 ∧ s.mgmt.params.channelId = some .c ∧
      (joiner .requesting).phase = .requesting ∧ (joiner .requesting).candidate = some .a ∧
      (∀ i : Identity, i ≠ .c → i ∈ { joiner .requesting with tried := [.a, .b] }.tried) ∧ 0 < (joiner .requesting).retry ∧
      j.phase = .receiving ∧ j.link = some .link1 ∧ j.source = some .a ∧
      { linked .receiving with sig.valid := true }.sig.valid = true := by
  refine ⟨by decide, by decide, by decide, by decide, by decide, by decide, by decide, fun i => by cases i <;> decide, ?_⟩
  decide

/-- A frame from a sender. -/
def from_ (x : Identity) (pl : Payload) : Frame := ownFrame x pl

theorem witness_ReceptionsDropWhatTheyMustNotTake : (part .configured).port.held = none ∧
    (getLink (part .configured) .link1).status = .down ∧ checkFrame [] = none ∧ (getLink (linkIn .hailing) .link1).status ≠ .down ∧
    checkFrame (from_ .b .hold).bytes = some (from_ .b .hold) ∧ (from_ .b .hold).kind = .hold ∧
    (getLink (linked .voting) .link1).peer ≠ some .b := by decide +kernel

/-- A HAIL of A in CONFIGURED, with a digest. -/
def hailOf (d : BitVec 32) : Frame := from_ .a (.hail d (some .configured) 0 0)

-- Another digest, this channel's own identity, the peer of the other link; the MISMATCH flag; no flag; ACK with its sender heard, with
-- another heard and with none; a PASSIVE link.
theorem witness_HailBringsALinkUp_1 : (getLink (linkIn .hailing) .link1).status = .hailing ∧
    (linkIn .hailing).mgmt.params.channelId = some .c ∧ (linkIn .hailing).csr.state ≠ .held ∧
    checkFrame (from_ .c (.hail 0 none 0 0)).bytes = some (from_ .c (.hail 0 none 0 0)) ∧
    checkFrame ({ hailOf 0 with mismatch := true }).bytes = some { hailOf 0 with mismatch := true } ∧
    (let s : State := { linkIn .hailing with link2.status := .up, link2.peer := some .a }
    (getLink s .link2).status = .up ∧ (getLink s .link2).peer = some .a) ∧
    (getLink { linkIn .hailing with link1.heard := some .b } .link1).heard ≠ some .a ∧ (getLink (linkIn .hailing) .link1).heard = none ∧
    (getLink { linkIn .hailing with link1.mode := .passive } .link1).mode = .passive ∧
    (getLink { linkIn .hailing with link1.mode := .passive } .link1).status = .hailing ∧
    checkFrame (hailOf 1).bytes = some (hailOf 1) ∧ (1 : BitVec 32) ≠ (linkIn .hailing).mgmt.digest ∧
    checkFrame (hailOf 0).bytes = some (hailOf 0) ∧ (0 : BitVec 32) = (linkIn .hailing).mgmt.digest ∧ (hailOf 0).sender ≠ .c ∧
    (getLink (linkIn .hailing) .link2).status ≠ .up ∧ (hailOf 0).mismatch = false ∧
    checkFrame ({ hailOf 0 with ack := true }).bytes = some { hailOf 0 with ack := true } ∧
    (getLink { linkIn .hailing with link1.heard := some .a } .link1).heard = some .a := by decide +kernel

theorem witness_HailBringsALinkUp_2 : (upIn .passive).arb.grant = none ∧ (upIn .passive).mgmt.params.channelId = some .c ∧
    (upIn .passive).csr.state ≠ .held ∧ checkFrame (hailOf 1).bytes = some (hailOf 1) ∧
    checkFrame (hailOf 0).bytes = some (hailOf 0) ∧ (upIn .passive).mgmt.digest = 0 ∧
    checkFrame ({ hailOf 0 with ack := true }).bytes = some { hailOf 0 with ack := true } ∧
    (getLink (linkIn .mismatch) .link1).status = .mismatch ∧ (getLink (linkIn .mismatch) .link1).mode ≠ .passive ∧
    { linkIn .mismatch with link1.mode := .passive }.link1.mode = .passive ∧
    (getLink (linkIn .mismatch) .link2).peer ≠ some .a ∧ (hailOf 0).sender ≠ .c ∧ (hailOf 0).mismatch = false ∧
    (upIn .passive).link1.status = .up ∧ (upIn .passive).link1.peer = some .a ∧ (upIn .passive).link1.mode = .passive ∧
    (upIn .passive).repair.role = .none ∧ (getLink (upIn .passive) .link2).peer ≠ some .a := by decide +kernel

/-- A SIGN of A for a cycle. -/
def signOf (m : Cycle) : Frame := from_ .a (.sign m 0 (some .voting) 5)

-- Every distance at its ends; a SIGN in HELD while the other peer lags; B's SIGN relayed; an arrival already counted; a SIGN whose
-- originator is this channel.
theorem witness_BeatAndSignAreUsedByTheVoteUnit_1 :
    accepts .link1 (signOf 1).bytes (signOf 1) (linked .held) ∧ (linked .held).vote.peer1.state ≠ some .voting ∧
    accepts .link1 ({ from_ .b (.sign 0 0 (some .voting) 5) with relayed := true, sender := .a }).bytes
      { from_ .b (.sign 0 0 (some .voting) 5) with relayed := true, sender := .a } (linked .voting) ∧
    peerSlot (linked .voting) .b = some true ∧ peerSlot (linked .voting) .c = none ∧
    accepts .link1 ({ from_ .c (.sign 0 0 (some .voting) 5) with relayed := true, sender := .a }).bytes
      { from_ .c (.sign 0 0 (some .voting) 5) with relayed := true, sender := .a } (linked .voting) ∧
    ({ linked .voting with vote.record.expected0 := true, vote.record.arrival0 := some (5, .direct) } : State).vote.record.arrival0 ≠ none ∧
    accepts .link1 (from_ .a (.beat (some .voting) 1 1)).bytes (from_ .a (.beat (some .voting) 1 1)) (linked .voting) ∧
    accepts .link1 (signOf 1).bytes (signOf 1) (linked .voting) ∧ accepts .link1 (signOf 2).bytes (signOf 2) (linked .voting) ∧
    accepts .link1 (signOf 0x7FFFFFFF).bytes (signOf 0x7FFFFFFF) (linked .voting) ∧
    accepts .link1 (signOf 0x80000000).bytes (signOf 0x80000000) (linked .voting) ∧
    accepts .link1 (signOf 0).bytes (signOf 0) (linked .voting) ∧ peerSlot (linked .voting) .a = some false ∧
    { linked .voting with vote := voteOpen.vote }.vote.record.expected1 = true ∧ (linked .out).csr.state ≠ .voting ∧
    (linked .voting).vote.skewReported = false := by
  dsimp only [accepts]; decide +kernel

/-- A vote is open on cycle 1, and only one SIGN is still to come. -/
def oneMissing (a b : Option (Nat × Arrival)) : State := { linked .voting with
  csr.counter := 1, csr.counterInv := ~~~ 1
  vote.record := { VoteRecord.cleared with
    isOpen := true, cycle := 1, window := some 50, expected0 := true, expected1 := true, arrival0 := a, arrival1 := b } }

/-- B's SIGN, as A relays it. -/
def relayedSign : Frame := { from_ .b (.sign 1 0 (some .voting) 5) with relayed := true, sender := .a }

theorem witness_BeatAndSignAreUsedByTheVoteUnit_2 :
    let s := oneMissing none (some (5, .direct))
    let u := oneMissing (some (5, .direct)) none
    accepts .link1 (signOf 1).bytes (signOf 1) s ∧ peerSlot s .a = some false ∧ s.mgmt.params.channelId = some .c ∧
      s.csr.state = .voting ∧ s.jnl.rb.rolling = false ∧ s.arb.grant = none ∧ s.csr.counter = 1 ∧
      s.vote.record.isOpen = true ∧ s.vote.record.window ≠ none ∧ s.vote.record.expected0 = true ∧
      s.vote.record.arrival0 = none ∧ s.vote.record.arrival1 ≠ none ∧
      accepts .link1 relayedSign.bytes relayedSign u ∧ relayedSign.originator = .b ∧ peerSlot u .b = some true ∧
      u.vote.record.expected1 = true ∧ u.vote.record.arrival1 = none ∧ u.vote.record.arrival0 ≠ none := by
  dsimp only [accepts]; decide +kernel

/-- HELD, with B's report already ahead. -/
def watching : State := { linked .held with
  vote.peer1 := { Peer.reset with link := some .link2, state := some .voting, committed := 0x7FFFFFFF } }

/-- A BEAT of A that reports VOTING and a committed cycle. -/
def beatOf (n : Cycle) : Frame := from_ .a (.beat (some .voting) n n)

-- The least and the greatest distance ahead, none, and one beyond; a record whose copies disagree; a source role.
theorem witness_VotesWithoutAgreement_3 :
    accepts .link1 (beatOf 1).bytes (beatOf 1) watching ∧ accepts .link1 (beatOf 0x7FFFFFFF).bytes (beatOf 0x7FFFFFFF) watching ∧
    accepts .link1 (beatOf 0).bytes (beatOf 0) watching ∧ accepts .link1 (beatOf 0x80000000).bytes (beatOf 0x80000000) watching ∧
    watching.arb.grant = none ∧ watching.csr.state = .held ∧ peerSlot watching .a = some false ∧
    (getPeer watching true).state = some .voting ∧ ((getPeer watching true).committed - watching.csr.committed).toNat < 2 ^ 31 ∧
    ¬ copiesAgree { watching with csr.cInv := 0 } ∧ copiesAgree watching ∧ watching.jnl.entries = 0 ∧ watching.jnl.broken = false ∧
    { watching with sig.valid := true }.sig.s = watching.csr.c ∧
    { watching with repair.role := .source (source .pass) }.mgmt.params.channelId = some .c ∧
    (getLink watching (source .pass).link).status = .up := by
  dsimp only [accepts, copiesAgree]; decide +kernel

/-- A REQUEST of A. -/
def requestOf (base : Option Cycle) (need : List (BitVec 32)) : Frame := from_ .a (.request base need)

-- No base and 0, the cycle before the committed one, none of them; a joiner that holds; HELD with R empty and not.
theorem witness_RequestIsRefusedOrAccepted :
    accepts .link1 (requestOf (some 0) []).bytes (requestOf (some 0) []) (linked .held) ∧ (linked .held).repair.role = .none ∧
    setUnion (setUnion (linked .held).repair.dv (linked .held).repair.dO) [] = [] ∧ (linked .held).csr.committed = 0 ∧
    accepts .link1 (requestOf (some 0) [2, 3]).bytes (requestOf (some 0) [2, 3]) (linked .held) ∧
    setUnion [] (([2, 3] : List (BitVec 32)).map BitVec.toNat |>.filter (fun o => decide (o < numVital (linked .held)))) = [2] ∧
    (let s : State := { linked .held with link1.peerHolding := true }
    accepts .link1 (requestOf (some 0) []).bytes (requestOf (some 0) []) s ∧ (getLink s .link1).peerHolding = true) ∧
    accepts .link1 (requestOf none []).bytes (requestOf none []) (linked .voting) ∧
    accepts .link1 (requestOf (some 0) [2, 3]).bytes (requestOf (some 0) [2, 3]) (linked .voting) ∧
    accepts .link1 (requestOf (some 0xFFFFFFFF) []).bytes (requestOf (some 0xFFFFFFFF) []) (linked .voting) ∧
    (0xFFFFFFFF : Cycle) + 1 = (linked .voting).csr.committed ∧ { linked .voting with repair.dcValid := true }.repair.dcValid = true ∧
    (linked .out).csr.state ≠ .held ∧ { linked .held with repair.role := .source (source .pass) }.repair.role ≠ .none ∧
    (getLink (linked .voting) .link1).peerHolding = false := by
  dsimp only [accepts]; decide +kernel

/-- A joiner in OUT or RECEIVING, in a phase. -/
def joining (st : ChannelState) (ph : JoinerPhase) : State := { linked st with
  repair.role := .joiner { joiner ph with
    replyTimer := some 50, retryTimer := some 500, receiveTimer := some 500, tried := [.a, .b] } }

/-- A's frames to a joiner. -/
def acceptOf : Frame := from_ .a (.accept none 3)
def refuseOf (why : RefuseReason) : Frame := from_ .a (.refuse why)
def closeOf : Frame := from_ .a (.close 9 3 5)

theorem witness_JoinerFollowsItsRequest_1 :
    accepts .link1 acceptOf.bytes acceptOf (joining .out .requesting) ∧
    accepts .link1 acceptOf.bytes acceptOf (linked .out) ∧ (linked .out).repair.role = .none ∧
    accepts .link1 (refuseOf .tooOld).bytes (refuseOf .tooOld) (joining .out .requesting) ∧
    accepts .link1 (refuseOf .busy).bytes (refuseOf .busy) (joining .out .requesting) ∧
    peerSlot (joining .out .requesting) .a = some false ∧ (getPeer (joining .out .requesting) false).link = some .link1 ∧
    (∀ i : Identity, i ≠ .c → i ∈ [Identity.a, .b]) ∧ 0 < (joiner .requesting).retry ∧
    (joiner .requesting).phase = .requesting ∧ (joiner .requesting).candidate = some .a ∧
    accepts .link1 closeOf.bytes closeOf (joining .receiving .receiving) ∧ (joiner .receiving).source = some .a ∧
    (joiner .preparing).phase ≠ .receiving ∧
    (joining .out .requesting).repair.role = .joiner { joiner .requesting with
      replyTimer := some 50, retryTimer := some 500, receiveTimer := some 500, tried := [.a, .b] } ∧
    otherIds (some .c) = some (.a, .b) ∧ eligible { Peer.reset with link := some .link2, state := some .voting } = true ∧
    (getLink { linked .out with link2.status := .up } .link2).status = .up := by
  refine ⟨?_, ?_, by decide, ?_, ?_, by decide, by decide, fun i => by cases i <;> decide, by decide, by decide, by decide, ?_,
    by decide, by decide, by decide, by decide, by decide, by decide⟩ <;> (unfold accepts; decide +kernel)

theorem witness_JoinerFollowsItsRequest_2 : (joining .out .retryWait).mgmt.params.channelId = some .c ∧
    otherIds (some .c) = some (.a, .b) ∧ eligible (joining .out .retryWait).vote.peer0 = true ∧
    (joining .out .retryWait).vote.peer0.link = some .link1 ∧ (getLink (joining .out .retryWait) .link1).status = .up ∧
    (joining .receiving .receiving).csr.state = .receiving ∧ (joining .receiving .receiving).arb.grant = none ∧
    (joiner .receiving).source = some .a ∧ (joiner .receiving).link = some .link1 ∧
    (getLink (joining .receiving .receiving) .link1).status = .up ∧ (joining .receiving .receiving).sig.valid = false ∧
    { joining .receiving .receiving with sig.valid := true }.sig.valid = true ∧
    eligible Peer.reset = false ∧ 0 < (joiner .retryWait).retry := by decide

theorem test_joiner_takes_an_abort : accepts .link1 (from_ .a (.abort .stalled)).bytes (from_ .a (.abort .stalled))
    (joining .receiving .closing) := by unfold accepts; decide +kernel

/-- A LINE of ordinal 2 as it waits in a buffer, and as A sends it. -/
def lineOne : LineFrame := { ordinal := 2, words := List.replicate 256 0 }
def lineSent : Frame := from_ .a (.line 2 (List.replicate 256 0))

/-- A joiner whose buffer holds some frames. -/
def buffered (n : Nat) : State := { joining .receiving .receiving with link1.buffer := List.replicate n lineOne }

/-- A joiner in CLOSING whose buffer holds some frames, the last few of them late. -/
def closingWith (n late : Nat) : State := { joining .receiving .closing with
  link1.buffer := List.replicate n lineOne ++ List.replicate late { lineOne with late := true } }

theorem line_is_accepted (s : State) (hs : (getLink s .link1).status = .up) (hp : (getLink s .link1).peer = some .a) :
    accepts .link1 lineSent.bytes lineSent s :=
  ⟨hs, checkFrame_of_parts lineSent (by simp only [lineSent, from_, ownFrame, Payload.bytes, List.length_append, leBytes_length,
      flatMap_length, List.length_replicate]; decide) (parse_line 2 _ (List.length_replicate ..)) rfl rfl, hp⟩

theorem test_line_is_accepted : accepts .link1 lineSent.bytes lineSent (buffered 4) ∧
    accepts .link1 lineSent.bytes lineSent (closingWith 4 0) ∧ accepts .link1 lineSent.bytes lineSent (linked .voting) :=
  ⟨line_is_accepted _ rfl rfl, line_is_accepted _ rfl rfl, line_is_accepted _ rfl rfl⟩

/-- A source whose peer holds, with a captured frame that waits. -/
def paused (st : ChannelState) (ph : SourcePhase) (r : List Nat) : State := { linked st with
  link1 := { (linked st).link1 with peerHolding := true }
  repair := { (linked st).repair with r := r, role := .source { source ph with captured := some lineOne } } }

-- With line_is_accepted: 1, 2, 3 and 4 frames held; CLOSING with none, 2 and 4 held; no joiner; GO with a frame that waits.
theorem witness_ReceiveBufferHoldsAndReleases : (getLink (buffered 3) .link1).buffer.length < 4 ∧
    4 ≤ (getLink (buffered 4) .link1).buffer.length ∧ ((getLink (buffered 1) .link1).buffer ++ [lineOne]).length < 3 ∧
    3 ≤ ((getLink (buffered 2) .link1).buffer ++ [lineOne]).length ∧
    (∀ x ∈ (getLink (buffered 2) .link1).buffer ++ [lineOne], x.ordinal < numVital (buffered 2) ∧ x.late = false) ∧
    (joiner .closing).phase = .closing ∧ (joiner .closing).link = some .link1 ∧ (getLink (closingWith 0 0) .link1).buffer = [] ∧
    4 ≤ (getLink (closingWith 4 0) .link1).buffer.length ∧ (getLink (closingWith 2 0) .link1).buffer.length + 1 = 3 ∧
    (∀ x ∈ (getLink (closingWith 4 0) .link1).buffer, x.ordinal < numVital (closingWith 4 0) ∧ x.late = false) ∧
    receivingLink (linked .voting) ≠ some .link1 ∧ (getLink (linked .voting) .link1).buffer = [] ∧
    accepts .link1 (from_ .a .hold).bytes (from_ .a .hold) (linked .voting) ∧
    accepts .link1 (from_ .a .go).bytes (from_ .a .go) { linked .voting with link1.peerHolding := true } ∧
    (source .pass).phase ≠ .awaitVerdict ∧ (source .pass).captured = none ∧ (source .pass).link = .link1 ∧
    (∀ s ∈ [paused .voting .catchup [], paused .voting .catchup [0], paused .held .pass [], paused .voting .pass []],
      accepts .link1 (from_ .a .go).bytes (from_ .a .go) s ∧ s.mgmt.params.channelId = some .c ∧
      (getLink s .link1).peerHolding = true) ∧
    (paused .voting .catchup []).repair.role = .source { source .catchup with captured := some lineOne } ∧
    (paused .voting .catchup []).repair.r = [] ∧ (paused .voting .catchup [0]).repair.r ≠ [] := by
  dsimp only [accepts]; decide +kernel

/-- A serves as source. -/
def serving (st : ChannelState) (ph : SourcePhase) : State := { linked st with repair.role := .source (source ph) }

/-- The event's own step gets the grant's requester: a step that meets no UNCORRECTABLE word leaves its counter. -/
def counted (r : Requester) (s : State) : Option Nat := after (stepOf r s) s (fun u => u.counters.uncorrectable)

/-- A scrub grant is under way on a clean word while the vote is open. -/
def scrubDuringVote : State := { arrived none none with scrub.line := 10, scrub.allowance := 1, arb.grant := some .scrub }

/-- A copy grant is under way in a record whose copies of C disagree. -/
def copyDuringUpset : State := { copying 5 with arb.grant := some .copy, csr.cInv := 0 }

/-- A scrub grant is under way on a poisoned vital word, and the window of the open vote is about to expire. -/
def scrubAtExpiry (a0 a1 : Option (Nat × Arrival)) : State := { arrived a0 a1 with
  scrub.line := 1, scrub.word := 7, scrub.allowance := 1, arb.grant := some .scrub, mem := [(263, poisonWord 9)] }

/-- Both peers sent another signature. -/
def scrubDuringDissent : State := scrubAtExpiry (some (5, .direct)) (some (5, .relayed))

/-- A line capture is under way in the catch-up, with these lines left. -/
def captureInCatchup (r : List Nat) : State := { serving .voting .catchup with
  arb.grant := some .lineCapture
  repair := { (serving .voting .catchup).repair with r := r, role := .source { source .catchup with catchupTimer := some 1 } } }

-- Over the last line's capture (R163): LINE, then ABORT, and no CLOSE. A capture that leaves a line meets the timers' premise.
theorem test_catchup_expires_over_the_last_capture :
    ((captureInCatchup [2]).arb.grant = some .lineCapture ∧ nextCapture (captureInCatchup [2]).repair.r 0 = some 2 ∧
      (captureInCatchup [2]).repair.role = .source { source .catchup with catchupTimer := some 1 } ∧
      lineOf (captureInCatchup [2]).regions.committed 2 = some 2 ∧ (captureInCatchup [2]).mgmt.params.channelId = some .c ∧
      (getLink (captureInCatchup [2]) .link1).status = .up ∧ (getLink (captureInCatchup [2]) .link1).peerHolding = false) ∧
    cleanAt (captureInCatchup [2]) 512 (List.replicate 256 0) ∧
    after .catchupTimerExpiry (captureInCatchup [2]) (fun t => t.out.tx1.map Frame.kind) = some [.line, .abort] ∧
    counted .lineCapture (captureInCatchup [0, 2]) = some 0 ∧
    after .lineCapture (captureInCatchup [0, 2]) (fun u => u.repair.r) = some [2] :=
  ⟨by decide +kernel, zeros_read _ _ (by decide +kernel), by decide +kernel, by decide +kernel, by decide +kernel⟩

-- The window, receive, hold and catch-up timers; the mark; the dissent; no majority, with the journal empty and with two entries.
theorem witness_DeferredEffectsWaitForTheGrant_3 :
    ((counted .scrub scrubDuringVote = some 0 ∧ scrubDuringVote.port.held = none ∧ scrubDuringVote.counters.uncorrectable = 0 ∧
      scrubDuringVote.vote.record.isOpen = true ∧ scrubDuringVote.vote.record.window ≠ none) ∧
    (let s : State := { joining .receiving .receiving with arb.grant := some .scrub, scrub.line := 10, scrub.allowance := 1 }
    counted .scrub s = some 0 ∧ s.csr.state = .receiving ∧ (joiner .receiving).phase = .receiving) ∧
    (let s : State := { serving .voting .catchup with arb.grant := some .scrub, scrub.line := 10, scrub.allowance := 1 }
    counted .scrub s = some 0 ∧ { source .pass with holdTimer := some 1 }.holdTimer ≠ none ∧
      { source .catchup with catchupTimer := some 1 }.catchupTimer ≠ none) ∧
    (counted .copy copyDuringUpset = some 0 ∧ copyDuringUpset.port.held = none ∧ recordUpset copyDuringUpset ≠ none ∧
      after .copyStep copyDuringUpset (fun u => (decide (u.csr.state = .voting), recordUpset u, (markHold u).any)) =
        some (true, recordUpset copyDuringUpset, false) ∧ (markHold copyDuringUpset).any = false) ∧
    scrubPlace scrubDuringDissent = some (1, 7) ∧ decodeStored (storedAt scrubDuringDissent 263) 263 = .uncorrectable 9 ∧
    classOf scrubDuringDissent 1 = some .vital ∧ scrubDuringDissent.csr.state = .voting ∧ copiesAgree scrubDuringDissent ∧
    scrubDuringDissent.vote.record.arrival0 = some (5, .direct) ∧ scrubDuringDissent.vote.record.arrival1 = some (5, .relayed) ∧
    (5 : Nat) ≠ scrubDuringDissent.vote.record.snapshot ∧ (5 : Nat) < 2 ^ 61 - 1 ∧ (part .voting).vote.record.isOpen = false) ∧
    noMajorityIn (scrubAtExpiry none none).vote.record ∧ scrubPlace (scrubAtExpiry none none) = some (1, 7) ∧
    decodeStored (storedAt (scrubAtExpiry none none) 263) 263 = .uncorrectable 9 ∧
    copiesAgree (scrubAtExpiry none none) ∧ (scrubAtExpiry none none).vote.record.isOpen = true ∧
    (scrubAtExpiry none none).vote.record.window ≠ none ∧
    after .voteWindowExpiry (scrubAtExpiry none none) (fun t => (t.csr.state, t.jnl.rb.rolling)) = some (.out, false) ∧
    after .voteWindowExpiry { scrubAtExpiry none none with jnl.votingCount := 2, jnl.tail := 2, jnl.boundary := 2 }
      (fun t => (t.csr.state, t.jnl.rb.rolling)) = some (.out, true) := by
  dsimp only [copiesAgree]
  refine ⟨by decide +kernel, ⟨fun how => by cases how <;> decide +kernel, fun _ _ _ h => nomatch h⟩, by decide +kernel⟩


/-- A's frames to a source. -/
def verdictOf_ (v : Verdict) : Frame := from_ .a (.verdict v)
def abortOf : Frame := from_ .a (.abort .stalled)

theorem witness_SourceRoleEnds :
    accepts .link1 (verdictOf_ .matched).bytes (verdictOf_ .matched) (serving .held .awaitVerdict) ∧
    (serving .voting .pass).arb.grant = none ∧ (serving .held .awaitVerdict).csr.counter = (serving .held .awaitVerdict).csr.committed ∧
    accepts .link1 (verdictOf_ .mismatch).bytes (verdictOf_ .mismatch) (serving .voting .awaitVerdict) ∧
    accepts .link1 (verdictOf_ .matched).bytes (verdictOf_ .matched) (serving .voting .pass) ∧
    (source .pass).phase ≠ .awaitVerdict ∧ accepts .link1 abortOf.bytes abortOf (serving .voting .pass) ∧
    (getLink (serving .voting .pass) (source .pass).link).status = .up ∧
    { source .catchup with catchupTimer := some 20 }.catchupTimer ≠ none ∧
    { source .pass with holdTimer := some 50 }.holdTimer ≠ none ∧
    { source .awaitVerdict with verdictTimer := some 50 }.verdictTimer ≠ none := by
  dsimp only [accepts]; decide +kernel

/-- The source's capture of ordinal 2. -/
def capturing : State := { serving .voting .pass with repair.r := [2] }

-- A line of several and the last, with the peer holding; frames left behind one with HOLD sent, one and two.
theorem witness_LinesAreCapturedAndWritten :
    (let s : State := { serving .voting .catchup with repair.r := [0, 2] }
    runs .lineCapture s ∧ nextCapture s.repair.r 0 = some 0 ∧ 2 ∈ s.repair.r) ∧
    (let s : State := { captureInCatchup [2] with link1.peerHolding := true }
    runs .lineCapture s ∧ nextCapture s.repair.r 0 = some 2 ∧ cleanAt s 512 (List.replicate 256 0) ∧
      (getLink s .link1).peerHolding = true) ∧
    (let s (n : Nat) : State := { buffered n with link1.holdSent := true }
    runs .receiveWrite (s 2) ∧ runs .receiveWrite (s 3) ∧ (getLink (s 2) .link1).buffer = lineOne :: [lineOne] ∧
      (getLink (s 3) .link1).buffer = lineOne :: [lineOne, lineOne] ∧ (getLink (s 2) .link1).holdSent = true ∧
      (getLink (s 2) .link1).status = .up ∧ cleanAt (s 2) 512 (List.replicate 256 0)) ∧
    runs .lineCapture capturing ∧ nextCapture capturing.repair.r 0 = some 2 ∧
    lineOf capturing.regions.committed 2 = some 2 ∧ cleanAt capturing 512 (List.replicate 256 0) ∧
    (getLink capturing .link1).peerHolding = false ∧ runs .receiveWrite (buffered 1) ∧
    (getLink (buffered 1) .link1).buffer = lineOne :: [] ∧ (getLink (buffered 1) .link1).holdSent = false ∧
    cleanAt (buffered 1) 512 (List.replicate 256 0) ∧ lineOne.words.length = 256 ∧
    runs .lineCapture { serving .voting .catchup with repair.r := [2] } ∧
    runs .lineCapture { serving .held .pass with repair.r := [2] } ∧ runs .receiveWrite (closingWith 1 3) ∧
    (getLink (closingWith 1 3) .link1).buffer = lineOne :: List.replicate 3 { lineOne with late := true } ∧
    (∀ x ∈ List.replicate 3 { lineOne with late := true }, numVital (closingWith 1 3) ≤ x.ordinal ∨ x.late = true) := by
  refine ⟨by unfold runs granted; decide +kernel,
    ⟨by unfold runs granted; decide +kernel, by decide, zeros_read _ _ (by decide +kernel), by decide⟩,
    ⟨by unfold runs granted; decide +kernel, by unfold runs granted; decide +kernel, rfl, rfl, rfl, rfl,
      zeros_read _ _ (by decide +kernel)⟩,
    by unfold runs granted; decide +kernel, by decide, by decide +kernel, zeros_read _ _ (by decide +kernel), by decide,
    by unfold runs granted; decide +kernel, rfl, rfl, zeros_read _ _ (by decide +kernel), List.length_replicate ..,
    by unfold runs granted; decide +kernel, by unfold runs granted; decide +kernel, by unfold runs granted; decide +kernel, rfl,
    by decide +kernel⟩

theorem witness_JoinerGivesItsVerdict :
    let s : State := { joining .receiving .closing with sig.valid := true }
    s.sig.s = (joiner .closing).closeTarget ∧ (joiner .closing).linesWritten = (joiner .closing).closeLines ∧
      (getLink s .link1).buffer = [] ∧ (getLink s .link1).status = .up ∧ (joining .receiving .closing).sig.valid = false ∧
      s.csr.state = .receiving ∧ (joiner .closing).source = some .a ∧ (joiner .closing).link = some .link1 ∧
      { joiner .closing with closeTarget := 1 }.closeTarget ≠ s.sig.s := by decide

theorem witness_FramesReadBackAsTheyWereSent : workedSign.wellFormed = true ∧ (linked .voting).link1.status = .up ∧
    (requestOf (some 0xFFFFFFFF) [0, 1, 2, 3, 4, 5, 6, 7]).wellFormed = true := by decide +kernel

theorem witness_EveryStepKeepsTheMemoryForm : beforeWrites.mem.wf = true ∧
    step { part .voting with pending := [.forceFault] } = exec .forceFault (part .voting) := ⟨by decide +kernel, rfl⟩

theorem witness_EveryStepKeepsCopiesAndBounds : copiesAgree (part .voting) ∧ InBounds (part .voting) ∧ CountersFit (part .voting) :=
  ⟨by unfold copiesAgree; decide +kernel, ⟨by decide, by decide, by decide, by decide, by decide, by decide, by decide, by decide,
      fun e he => absurd (show some e = none from List.eq_of_mem_replicate (n := 16) he) (Option.some_ne_none e), by decide, by decide, by decide, by decide, by decide, fun _ => nofun⟩,
    ⟨by decide, by decide, by decide, by decide, by decide, by decide, by decide, by decide, fun _ => nofun, fun _ => nofun⟩⟩

-- No head held; a mark held in an open vote.
theorem witness_HealthStandsStillWhileTheLatchIsSet : (part .voting).ev.faultLatch = true ∧ holdsStand (part .voting) ∧
    holdsStand { markHeld with ev.faultLatch := true } ∧
    (∀ x ∈ { markHeld with ev.faultLatch := true }.port.queue, x.wellFormed = true) ∧
    (∃ t, exec .voteWindowExpiry { markHeld with ev.faultLatch := true } = .next t) ∧
    (∀ x ∈ (head markWrite (part .voting)).port.queue, x.wellFormed = true) ∧
    exec .voteWindowExpiry (part .voting) = .next (settle (part .voting)) :=
  ⟨by decide, fun _ _ _ h => (Option.some_ne_none _ h.symm).elim, fun h x rest hh hq => by
    cases hh; cases hq; decide +kernel, by decide, ⟨_, rfl⟩, by decide, rfl⟩

/-! ### Links, roles and rollbacks, further forms -/

/-- Link 1 is OFF. -/
def offIn (st : ChannelState) : State := { part st with link1.mode := .off }

-- A mode from OFF; OFF with each role; no other peer left to ask.
theorem witness_LinkModeTakesALinkInAndOutOfService_3 : free (offIn .voting) ∧ (15 : Word).toNat = 14 + LinkId.code .link1 ∧
    (offIn .voting).mgmt.params.channelId = some .c ∧ (getLink (offIn .voting) .link1).mode = .off ∧
    (getLink (offIn .voting) .link1).status = .down ∧ (offIn .unconfigured).csr.state = .unconfigured ∧
    (getLink (linked .voting) .link1).status = .up ∧ (getLink (linked .voting) .link1).mode ≠ .off ∧
    (getLink (linked .voting) .link1).peer = some .a ∧ (linked .voting).arb.grant = none ∧ (source .pass).link = .link1 ∧
    (joining .out .requesting).repair.role = .joiner { joiner .requesting with
      replyTimer := some 50, retryTimer := some 500, receiveTimer := some 500, tried := [.a, .b] } ∧
    (∀ i : Identity, i ≠ .c → i ∈ [Identity.a, .b]) ∧ 0 < (joiner .requesting).retry ∧
    { joining .receiving .closing with sig.valid := true }.sig.valid = true := by
  refine ⟨by unfold free; decide, by decide, by decide, by decide, by decide, by decide, by decide, by decide, by decide, by decide,
    by decide, by decide, fun i => by cases i <;> decide, by decide, by decide⟩

/-- A part of 65536 lines, with its loaded table replaced from the front. -/
def loading (es : List RegionEntry) : State := { part .configured with
  regions.loaded := es ++ List.replicate (16 - es.length) RegionEntry.cleared, mgmt.params.memoryLines := 65536 }

-- One table for each check: the details and the indices that they report.
theorem witness_CommitIsValidatedOrRefused_3 :
    tableFault (loading [entry 0 3 .vital, entry 2 1 .journal]) = some (1, 1) ∧
    tableFault { loading [entry 0 1 .vital] with mgmt.params.memoryLines := 32 } = some (2, 0) ∧
    tableFault (loading [entry 0 1 .journal, entry 1 1 .journal]) = some (3, 1) ∧ tableFault (loading []) = some (3, 16) ∧
    tableFault (loading [entry 0 4097 .journal]) = some (4, 0) ∧
    tableFault (loading [entry 0 4096 .journal, entry 5000 1 .events, entry 5001 1 .events]) = some (5, 2) ∧
    tableFault (loading [entry 0 4096 .journal]) = some (5, 16) ∧
    tableFault (loading [entry 0 1 .journal, entry 1 65 .events]) = some (6, 1) ∧
    tableFault (loading [entry 0 1 .journal, entry 1 64 .events]) = some (7, 16) ∧
    tableFault (loading [entry 0 1 .journal, entry 1 64 .events, entry 100 32768 .vital, entry 40000 1 .vital]) = some (8, 3) ∧
    tableFault { part .configured with sig.keysSet := false } = some (9, 16) ∧
    tableFault { part .configured with mgmt.params.channelId := none } = some (10, 16) := by decide +kernel

theorem witness_IssueIsAcceptedOrDiscarded_4 :
    free { part .configured with mgmt.area := placed 9 [] (part .configured).mgmt } ∧ commandOf .seal = some (9, []) ∧
    (part .configured).port.held = none ∧
    (let s := { writing 0x50 0 beforeWrites with arb.grant := some .processor }
    s.arb.grant = some .processor ∧ exec (stepOf .processor s) s = .next (processorBody { s with arb.grant := none })) := by
  refine ⟨by unfold free; decide, rfl, rfl, rfl, ?_⟩
  rfl

-- A peer in GAVE-UP or RETRY-WAIT: A eligible; only B eligible; neither.
theorem witness_JoinAndResumeChangeTheState_3 : free (joining .out .gaveUp) ∧ (joining .out .retryWait).csr.state = .out ∧
    (joining .out .gaveUp).mgmt.params.channelId = some .c ∧ otherIds (some .c) = some (.a, .b) ∧
    eligible (joining .out .gaveUp).vote.peer0 = true ∧ (joining .out .gaveUp).vote.peer0.link = some .link1 ∧
    (getLink (joining .out .gaveUp) .link1).status = .up ∧ eligible Peer.reset = false ∧
    eligible { Peer.reset with link := some .link2, state := some .held } = true ∧
    0 < (joining .out .retryWait).mgmt.params.rejoinRetries := by
  unfold free; decide

/-- A source in a phase takes the mark for which both peers' SIGNs are parked. -/
def sourceParked (ph : SourcePhase) : State := { bothParked with repair.role := .source (source ph), repair.r := [0] }

theorem witness_TakenMarkOpensTheVote_4 : copiesAgree (sourceParked .pass) ∧ (sourceParked .pass).csr.state = .voting ∧
    (sourceParked .awaitVerdict).arb.grant = none ∧ (sourceParked .pass).vote.record.isOpen = false ∧
    (sourceParked .pass).jnl.rb.rolling = false ∧ (sourceParked .pass).port.held = none ∧
    (source .awaitVerdict).phase ≠ .catchup ∧ (sourceParked .pass).csr.counter + 1 = 7 ∧
    (sourceParked .pass).vote.peer0.slot ≠ none ∧ (sourceParked .pass).vote.peer1.slot ≠ none := by
  refine ⟨by unfold copiesAgree; decide +kernel, ?_⟩; decide

/-- An open vote with these arrivals, one voting entry in the journal, and perhaps the segment overflowed. -/
def journaled (broke : Bool) (a b : Option (Nat × Arrival)) : State :=
  { arrived a b with jnl.votingCount := 1, jnl.tail := 1, jnl.boundary := 1, jnl.votingOver := broke, jnl.votingPresent := true }

theorem witness_VotesWithoutAgreement_4 : copiesAgree (journaled false none none) ∧ (journaled false none none).arb.grant = none ∧
    (journaled true none none).vote.record.isOpen = true ∧ (journaled true none none).vote.record.window ≠ none ∧
    (∀ r, (journaled true none none).repair.role ≠ .source r) ∧ (journaled false none none).jnl.openOver = false ∧
    1 ≤ (journaled false none none).jnl.votingCount + (journaled false none none).jnl.openCount ∧
    noMajorityIn (journaled true none none).vote.record ∧ (2 ^ 61 - 2 : Nat) < 2 ^ 61 - 1 ∧
    (2 ^ 61 - 2 : Nat) ≠ (journaled true none none).vote.record.snapshot := by
  refine ⟨by unfold copiesAgree; decide +kernel, by decide, by decide, by decide, fun r => nofun, by decide, by decide,
    ⟨fun how => by cases how <;> decide +kernel, fun v h0 h1 h => nofun⟩, by decide, by decide⟩

-- The turns at word 255; a mismatch, a CORRECTED and an UNCORRECTABLE read; another spare left and none; both ends of a copy.
theorem witness_SparesAreTestedAndCopiedInto_3 : runs .spareTest (testing .write .b 255) ∧ runs .spareTest (testing .read .a 255) ∧
    runs .spareTest (testing .read .b 0) ∧ decodeStored ((testing .read .a 0).mem.read 8192) 8192 = .clean 0 ∧
    testPattern .a 8192 ≠ 0 ∧ decodeStored (upset 8192 1) 8192 = .corrected 1 ∧
    decodeStored (poisonWord 7) 8192 = .uncorrectable 7 ∧
    decodeStored (goodWord 8447 (testPattern .a 8447)) 8447 = .clean (testPattern .a 8447) ∧
    findRemap (fun e => decide (e = .ready)) ((testing .read .a 0).spare.remap.set 0 .bad) 0 = none ∧
    findRemap (fun e => decide (e = .untested)) ((testing .read .a 0).spare.remap.set 0 .bad) 0 = some 1 ∧
    findRemap (fun e => decide (e = .untested)) ((pool .untested (testing .read .a 0)).spare.remap.set 0 .bad) 0 = none ∧
    (let s : State := { copying 254 with mem := [(2814, poisonWord 7)] }
    runs .copy s ∧ decodeStored (storedAt s 2814) 2814 = .uncorrectable 7 ∧ classOf s 10 = some .plain) ∧
    (let s : State := { copying 0 with mem := [(2560, upset 2560 1)] }
    runs .copy s ∧ decodeStored (storedAt s 2560) 2560 = .corrected 1 ∧ regionOf s 10 = some (1, entry 10 2 .plain)) ∧
    (let s : State := { copying 0 with
      spare.op.target := 2, spare.op.source := 2, spare.remap := .copying 2 :: List.replicate 31 .untested, mem := [(512, poisonWord 7)] }
    runs .copy s ∧ decodeStored (storedAt s 512) 512 = .uncorrectable 7 ∧ classOf s 2 = some .vital ∧ s.csr.state = .voting) := by
  dsimp only [runs, granted]; decide +kernel

/-- A scrub grant meets poison in word 254 of a vital line. -/
def meetsPoison (s : State) : State := { s with
  arb.grant := some .scrub, scrub.line := 1, scrub.word := 254, mem := [(510, poisonWord 7)] }

theorem witness_UncorrectableVitalWordWithdrawsTheChannel_2 :
    (∀ s ∈ [meetsPoison (serving .voting .catchup), meetsPoison (serving .held .pass), meetsPoison (joining .receiving .closing)],
      runs .scrub s ∧ scrubPlace s = some (1, 254) ∧ decodeStored (storedAt s 510) 510 = .uncorrectable 7 ∧
      classOf s 1 = some .vital ∧ s.mgmt.params.channelId = some .c ∧ (getLink s .link1).status = .up ∧
      s.jnl.entries = 0 ∧ s.jnl.broken = false ∧ s.jnl.rb.rolling = false) ∧
    (serving .voting .catchup).repair.role = .source (source .catchup) ∧ (joiner .closing).phase = .closing ∧
    (joiner .closing).source = some .a ∧ (joiner .closing).link = some .link1 := by
  dsimp only [runs, granted]; decide +kernel

/-- The state of `undoing` with these counts and reason, the grant under way. -/
def ending (tag : Word) (voting open_ : Nat) (why : RollbackReason) : State := { undoing tag with
  arb.grant := some .rollback, jnl.votingCount := voting, jnl.openCount := open_, jnl.rb.reason := some why
  vote.peer0 := Peer.reset }

/-- The same as a joiner that prepares in OUT. -/
def endingInOut (tag : Word) (voting open_ : Nat) : State := { ending tag voting open_ .withdrawal with
  csr.state := .out, csr.stateInv := ~~~ 7, repair.role := .joiner (joiner .preparing) }

/-- The last entry before NO-MAJORITY's end, while both peers report VOTING and these distances ahead of cycle 6. -/
def endingAhead (m n : Cycle) : State := { ending 7 1 0 .noMajority with
  vote.peer0 := { Peer.reset with state := some .voting, committed := 6 + m }
  vote.peer1 := { Peer.reset with state := some .voting, committed := 6 + n } }

-- Two voting entries and one; both peers ahead at the ends of the range; one open entry, with S equal to C after it and not; a current word and an entry that are poison.
theorem witness_RollbackStepUndoesTheNewestEntry_2 :
    (¬ bothAhead (ending 7 1 0 .noMajority) ∧ bothAhead (endingAhead 1 0x7FFFFFFF) ∧ ¬ bothAhead (endingAhead 0 0x80000000) ∧
      runs .rollback (endingAhead 7 8) ∧ cleanAt (endingAhead 7 8) 2048 [0x700000258, 1] ∧ copiesAgree (endingAhead 7 8)) ∧
    (∀ s ∈ [ending 7 2 0 .noMajority, ending 7 1 0 .noMajority, ending 8 0 1 .dissent, endingInOut 8 0 1],
      runs .rollback s ∧ s.jnl.broken = false ∧ journalSlot s ((1 + 128 - 1) % 128) = 2048 ∧
      ordinalOf s.regions.committed 2 = some 2 ∧ decodeStored (storedAt s 600) 600 = .clean 0) ∧
    cleanAt (ending 7 2 0 .noMajority) 2048 [0x700000258, 1] ∧ cleanAt (endingInOut 8 0 1) 2048 [0x800000258, 1] ∧
    (0x700000258 : Word).toNat % 2 ^ 25 = 600 ∧ (ending 7 1 0 .noMajority).jnl.rb.tagVoting = 7 ∧
    (endingInOut 8 0 1).jnl.rb.validAtStart = true ∧
    (let s : State := { endingInOut 8 1 1 with mem := (endingInOut 8 1 1).mem.write 600 (poisonWord 3) }
    runs .rollback s ∧ decodeStored (storedAt s 600) 600 = .uncorrectable 3 ∧ s.sig.walk ≠ .preparation ∧ cleanAt s 2048 [0x800000258, 1]) ∧
    (let s : State := { ending 8 1 1 .noMajority with mem := (ending 8 1 1 .noMajority).mem.write 600 (poisonWord 3) }
    runs .rollback s ∧ decodeStored (storedAt s 600) 600 = .uncorrectable 3 ∧ s.csr.state = .voting ∧ s.repair.role = .none) ∧
    (let s : State := { endingInOut 8 1 1 with mem := (endingInOut 8 1 1).mem.write 2049 (poisonWord 3) }
    runs .rollback s ∧ decodeStored (storedAt s 2049) 2049 = .uncorrectable 3 ∧
      decodeStored (storedAt s 2048) 2048 = .clean 0x800000258 ∧ classOf s 8 = some .journal) := by
  refine ⟨by dsimp only [runs, granted, cleanAt, bothAhead, copiesAgree]; decide +kernel, ?_⟩
  dsimp only [runs, granted, cleanAt]; decide +kernel

-- Log entry 53: a RELEASE that waits for the grant of the last rollback step comes after the result and its record.
theorem test_last_rollback_step_comes_before_release :
    (after .rollbackStep { endingInOut 8 0 1 with mgmt.deferred := some .release, mgmt.phase := .busy, jnl.rb.tagOpen := 9 }
      (fun t => after .deferredCommandEffect t (fun u => (u.csr.state, u.ev.waiting.map EventRecord.kind)))).join =
      some (.configured, [.rollbackCheck, .repair, .stateChange]) := by decide +kernel

/-! Words that do not read CLEAN, roles held at a vote, and links that restart. -/

/-- Word 10 upset, and word 11 as given. -/
def upsetBefore (w : Stored) (st : ChannelState) : State := { part st with mem := [(10, upset 10 5), (11, w)] }

-- CLEAN and CORRECTED words, up to the last word of a line; an UNCORRECTABLE word behind a CORRECTED one, in each state; a PLAIN line.
theorem witness_ProcessorReadReturnsItsWordsOrABusError_3 :
    (let s : State := { head (.read 0x7C0 8) (part .voting) with mem := [(255, upset 255 1)] }
    granted .processor s ∧ 248 % 256 + 8 ≤ 256 ∧ badWords (outcomesAt s (wordsFrom 248 8)) = [] ∧
      (outcomesAt s (wordsFrom 248 8)).map (fun x => x.2.value) = ([0, 0, 0, 0, 0, 0, 0, 1] : List Word).map some) ∧
    (∀ st ∈ [ChannelState.configured, .sealing, .sealed, .voting, .held],
      let s := head (.read 0x48 3) (upsetBefore (poisonWord 7) st)
      granted .processor s ∧ badWords (outcomesAt s (wordsFrom 9 3)) = [11] ∧ classOf s 0 = some .vital ∧
        s.jnl.rb.rolling = false) ∧
    (let s : State := { head (.read 0x5000 2) (part .voting) with mem := [(2561, poisonWord 7)] }
    granted .processor s ∧ badWords (outcomesAt s (wordsFrom 2560 2)) = [2561] ∧ classOf s 10 = some .plain) := by
  dsimp only [granted]; decide +kernel

-- Two words merged, one of them upset, beside one without enables; the second one poison; a VITAL line in CONFIGURED.
theorem witness_UntrackedWriteStoresItsData_3 :
    (let ws : List WriteWord := [⟨1, 0x0F⟩, ⟨2, 0⟩, ⟨3, 0x80⟩]
    let s (w : Stored) : State := { head (.write 0x57E8 ws) (part .voting) with mem := [(2813, upset 2813 1), (2815, w)] }
    let seen (s : State) := outcomesAt s (((takingPart 2813 ws).filter (fun x => decide (x.2.enables ≠ 0xFF))).map Prod.fst)
    granted .processor (s (upset 2815 1)) ∧ 2813 % 256 + ws.length ≤ 256 ∧ classOf (s (upset 2815 1)) 10 = some .plain ∧
      badWords (seen (s (upset 2815 1))) = [] ∧ granted .processor (s (poisonWord 7)) ∧
      badWords (seen (s (poisonWord 7))) = [2815]) ∧
    (let s := head (.write 0x50 [⟨1, 1⟩, ⟨2, 1⟩]) (upsetBefore (poisonWord 7) .configured)
    granted .processor s ∧ badWords (outcomesAt s [10, 11]) = [11] ∧ classOf s 0 ≠ some .journal) := by
  dsimp only [granted]; decide +kernel

-- No word takes part; SEALING, SEALED and VOTING with a word upset and with one that is poison.
theorem witness_VitalWriteIsTracked_4 :
    (let s := head (.write 0x7F8 [⟨1, 0⟩]) (part .voting)
    granted .processor s ∧ takingPart 255 [⟨1, 0⟩] = [] ∧ 255 % 256 + 1 ≤ 256) ∧
    (∀ st ∈ [ChannelState.sealing, .sealed, .voting],
      let s (w : Stored) := head (.write 0x50 [full 1, ⟨2, 1⟩]) (upsetBefore w st)
      granted .processor (s (upset 11 6)) ∧ badWords (outcomesAt (s (upset 11 6)) [10, 11]) = [] ∧
        granted .processor (s (poisonWord 7)) ∧ badWords (outcomesAt (s (poisonWord 7)) [10, 11]) = [11] ∧
        (s (poisonWord 7)).jnl.rb.rolling = false ∧ ordinalOf (s (poisonWord 7)).regions.committed 0 = some 0) := by
  dsimp only [granted]; decide +kernel

-- Three words where two entries fit, where the second reaches the pressure level, and with the segment overflowed.
theorem witness_VitalWriteIsTracked_5 :
    ∀ n ∈ [94, 126, 128], ∀ full_ ∈ [false, true],
      let s : State := { filled n false full_ with port.queue := [.write 0x50 [full 1, ⟨2, 1⟩, full 3]] }
      granted .processor s ∧ badWords (outcomesAt s [10, 11, 12]) = [] ∧ s.csr.state = .voting ∧
        takingPart 10 [full 1, ⟨2, 1⟩, full 3] ≠ [] ∧ ordinalOf s.regions.committed 0 = some 0 := by
  dsimp only [granted]; decide +kernel

-- C's copies, and the state's, disagree at a vote that would else agree or not.
theorem witness_AgreeCommitsTheCycle_2 :
    ∀ s ∈ [{ arrived none (some (0, .relayed)) with csr.cInv := 0 }, { arrived none none with csr.stateInv := 0 }],
      recordUpset s ≠ none ∧ s.arb.grant = none ∧ s.vote.record.isOpen = true ∧ s.vote.record.window ≠ none ∧
      s.repair.role = .none ∧ s.sig.walk ≠ .seal ∧ s.csr.state ≠ .halted := by decide +kernel

/-- A source role is held when the window of a vote with these arrivals expires. -/
def servingVote (a b : Option (Nat × Arrival)) : State := { arrived a b with
  link1 := (linked .voting).link1, repair.role := .source (source .pass), repair.r := [1] }

theorem witness_VotesWithoutAgreement_5 : (servingVote none none).arb.grant = none ∧
    (servingVote none none).vote.record.isOpen = true ∧ (servingVote none none).vote.record.window ≠ none ∧
    copiesAgree (servingVote none none) ∧ (servingVote none none).repair.role = .source (source .pass) ∧
    (servingVote none none).mgmt.params.channelId = some .c ∧ (getLink (servingVote none none) (source .pass).link).status = .up ∧
    (servingVote (some (5, .direct)) (some (5, .relayed))).vote.record.snapshot ≠ 5 ∧
    copiesAgree (servingVote (some (5, .direct)) (some (5, .relayed))) := by
  unfold copiesAgree; decide +kernel

-- With witness_VotesWithoutAgreement_2: the same arrivals are a NO-MAJORITY.
theorem test_a_source_is_aborted_at_a_vote :
    after .voteWindowExpiry (servingVote none none) (fun t => (t.out.tx1, t.ev.waiting.map EventRecord.kind)) =
      some ([ownFrame .c (.abort .sourceState)], [.repair, .vote, .stateChange]) ∧
    after .voteWindowExpiry (servingVote (some (5, .direct)) (some (5, .relayed)))
      (fun t => (t.out.tx1, (t.ev.waiting.map EventRecord.kind).take 2)) =
      some ([ownFrame .c (.abort .sourceState)], [.repair, .vote]) := by decide +kernel

-- A CORRECTED word at 0 and at 254; a cursor on a line not covered, without allowance; the three pauses.
theorem witness_ScrubWalkReadsTheCoveredLines_2 :
    (∀ w ∈ [0, 254], let s : State := { scrubbing 0 w .voting with mem := [(w, upset w 1)] }
      runs .scrub s ∧ scrubPlace s = some (0, w) ∧ decodeStored (storedAt s w) w = .corrected 1) ∧
    (let s : State := { scrubbing 3 200 .voting with scrub.allowance := 0 }
    scrubPlace s = some (8, 0) ∧ s.arb.grant ≠ some .scrub) ∧
    (part .unconfigured).csr.state = .unconfigured ∧ (part .unconfigured).arb.grant ≠ some .scrub ∧
    (proving .write .a 0).scrub.proof.status = .running ∧ (initialising 0).scrub.init.status = .running ∧
    (initialising 0).arb.grant ≠ some .scrub := by
  dsimp only [runs, granted]; decide +kernel

-- A joiner in OUT whose step 3 of preparation is past.
theorem witness_UncorrectableVitalWordWithdrawsTheChannel_3 :
    ∀ ph ∈ [JoinerPhase.requesting, .retryWait, .gaveUp],
      let s := meetsPoison (joining .out ph)
      runs .scrub s ∧ scrubPlace s = some (1, 254) ∧ decodeStored (storedAt s 510) 510 = .uncorrectable 7 ∧
        classOf s 1 = some .vital ∧ s.mgmt.params.channelId = some .c ∧ s.csr.state = .out ∧ s.sig.walk ≠ .preparation ∧
        (joiner ph).phase = ph := by
  dsimp only [runs, granted]; decide +kernel

-- Another tag on the last entry and on a voting one; an entry that names no vital word; a word that cannot be read behind one that
-- is upset; each before NO-MAJORITY's end and in OUT.
theorem witness_RollbackStepUndoesTheNewestEntry_3 :
    ∀ f ∈ [fun (t : Word) v o => ending t v o .noMajority, endingInOut],
      (∀ s ∈ [f 9 0 1, f 8 1 0, f 8 2 0], runs .rollback s ∧ s.jnl.broken = false ∧ journalSlot s 0 = 2048 ∧
        BitVec.ofNat 16 (((outcomesAt s [2048, 2049]).map (fun x => (x.2.value.getD 0).toNat / 2 ^ 32)).getD 0 0) ≠
          (if s.jnl.openCount = 0 then s.jnl.rb.tagVoting else s.jnl.rb.tagOpen)) ∧
      (let s := { f 8 0 1 with mem := [(2048, goodWord 2048 0x800000A00), (2049, upset 2049 1)] }
      runs .rollback s ∧ (outcomesAt s [2048, 2049]).map (fun x => x.2.value) = [some 0x800000A00, some 1] ∧
        (0x800000A00 : Word).toNat % 2 ^ 25 / 256 = 10 ∧ ordinalOf s.regions.committed 10 = none) ∧
      (∀ v ∈ [0, 1], let s := { f 7 1 v with mem := [(2048, upset 2048 0x800000258), (2049, poisonWord 3)] }
      runs .rollback s ∧ badWords (outcomesAt s [2048, 2049]) = [2049] ∧ classOf s 8 = some .journal ∧ s.jnl.broken = false) := by
  dsimp only [runs, granted]; decide +kernel

-- The quiet timer of a link of each mode.
theorem witness_LinkTimersActAndRestart_3 : ∀ m ∈ [LinkMode.active, .passive],
    (getLink { linkIn .quiet with link1.mode := m } .link1).quietTimer ≠ none ∧
    (linkIn .quiet).mgmt.params.channelId = some .c := by decide

-- An ACTIVE link in MISMATCH; in UP a HAIL without ACK, with another digest and of another sender.
theorem witness_HailBringsALinkUp_3 : (linkIn .mismatch).arb.grant = none ∧ (linkIn .mismatch).mgmt.params.channelId = some .c ∧
    (getLink (linkIn .mismatch) .link1).status = .mismatch ∧ (linkIn .mismatch).mgmt.digest = 0 ∧ (hailOf 0).sender ≠ .c ∧
    (getLink (linkIn .mismatch) .link2).status ≠ .up ∧ checkFrame (hailOf 0).bytes = some (hailOf 0) ∧
    (∀ f ∈ [hailOf 0, { hailOf 1 with ack := true }, { hailOf 0 with ack := true, mismatch := true },
        { ownFrame .b (.hail 0 none 0 0) with ack := true }], checkFrame f.bytes = some f ∧
      (f.sender ≠ .a ∨ f.payload = .hail 1 (some .configured) 0 0 ∨ f.ack = false ∨ f.mismatch = true)) := by decide +kernel

-- An UP link: with no role, with a role over the other link, as a source, as a joiner with a try or receiving over it.
theorem witness_HailBringsALinkUp_4 :
    (∀ s ∈ [linked .voting, serving .held .pass, joining .out .requesting, joining .receiving .receiving,
        joining .receiving .closing], s.arb.grant = none ∧ s.mgmt.params.channelId = some .c ∧
      (getLink s .link1).status = .up ∧ (getLink s .link1).peer = some .a) ∧
    (source .pass).link = .link1 ∧ { source .pass with link := .link2 }.link ≠ .link1 ∧
    (joiner .requesting).phase = .requesting ∧ (joiner .requesting).candidate = some .a ∧
    after .replyTimerExpiry (linkGone .link1 .a (joining .out .requesting)) (fun _ => true) = some true ∧
    { joiner .requesting with candidate := some .b }.candidate ≠ some .a ∧ (joiner .requesting).receiving = false ∧
    (joining .receiving .closing).csr.state = .receiving ∧ (joiner .closing).source = some .a ∧
    (joiner .closing).link = some .link1 := by decide +kernel

-- Upset words at both ends of a line, and poison in its last word: a capture in VOTING and HELD, and a receive-write.
theorem witness_LinesAreCapturedAndWritten_2 :
    (∀ st ∈ [ChannelState.voting, .held],
      let s (w : Stored) : State := { serving st .pass with repair.r := [2], mem := [(512, upset 512 1), (767, w)] }
      runs .lineCapture (s (upset 767 1)) ∧ badWords (outcomesAt (s (upset 767 1)) (lineWords 2)) = [] ∧
        (s (upset 767 1)).mem.wf = true ∧ runs .lineCapture (s (poisonWord 7)) ∧
        badWords (outcomesAt (s (poisonWord 7)) (lineWords 2)) ≠ [] ∧ classOf (s (poisonWord 7)) 2 = some .vital ∧
        (s (poisonWord 7)).jnl.rb.rolling = false) ∧
    (∀ b ∈ [buffered 1, { buffered 2 with link1.holdSent := true }, closingWith 1 3],
      let s (w : Stored) : State := { b with mem := [(512, upset 512 1), (767, w)] }
      runs .receiveWrite (s (upset 767 1)) ∧ badWords (outcomesAt (s (upset 767 1)) (lineWords 2)) = [] ∧
        (s (upset 767 1)).mem.wf = true ∧ runs .receiveWrite (s (poisonWord 7)) ∧
        badWords (outcomesAt (s (poisonWord 7)) (lineWords 2)) ≠ [] ∧ classOf (s (poisonWord 7)) 2 = some .vital ∧
        (s (poisonWord 7)).csr.state = .receiving ∧ (getLink (s (poisonWord 7)) .link1).status = .up) := by
  dsimp only [runs, granted]; decide +kernel

end Sys2Proof.Tests
end

section
/-! The suspect table at a corrected error on a line that no slot holds (R44): what each search of the table answers, where
the new entry goes, and what the read leaves. -/

namespace Sys2Proof.Machine

/-! ### The searches of the table -/

/-- A line is found in no table whose entries are all of other lines. -/
theorem findSuspect_eq_none {t : List (Option Suspect)} {l : Nat} (h : ∀ y, some y ∈ t → y.line ≠ l) :
    findSuspect t l = none := by
  induction t with
  | nil => rfl
  | cons o t ih =>
    have tail := ih fun y hy => h y (List.mem_cons_of_mem _ hy)
    cases o with
    | none => exact tail
    | some y => simp [findSuspect, h y List.mem_cons_self, tail]

/-- A slot that is empty, with none empty below it, is the lowest empty slot. -/
theorem firstEmpty_eq_some {t : List (Option Suspect)} {k : Nat} (i : Nat) (hk : t[k]? = some none)
    (below : ∀ m, m < k → t[m]? ≠ some none) : firstEmpty t i = some (i + k) := by
  induction t generalizing i k with
  | nil => simp at hk
  | cons o t ih =>
    cases k with
    | zero =>
      obtain rfl : o = none := by simpa using hk
      rfl
    | succ k =>
      cases o with
      | none => exact absurd rfl (below 0 (by omega))
      | some y =>
        have tail := ih (i + 1) (by simpa using hk) fun m hm => by simpa using below (m + 1) (by omega)
        rw [firstEmpty, tail]
        congr 1
        omega

/-- A table with no empty slot has no lowest one. -/
theorem firstEmpty_eq_none {t : List (Option Suspect)} (i : Nat) (h : none ∉ t) : firstEmpty t i = none := by
  induction t generalizing i with
  | nil => rfl
  | cons o t ih =>
    obtain ⟨ho, ht⟩ := not_or.mp (mt List.mem_cons.mpr h)
    cases o with
    | none => exact absurd rfl ho
    | some y => exact ih (i + 1) ht

/-- The entry to evict stands at its index, with spare-pending clear. -/
theorem victim_stands {t : List (Option Suspect)} {i j : Nat} {x : Suspect} (h : victim t i = some (j, x)) :
    ∃ m, j = i + m ∧ t[m]? = some (some x) ∧ x.pending = false := by
  induction t generalizing i with
  | nil => simp [victim] at h
  | cons o t ih =>
    have later (h' : victim t (i + 1) = some (j, x)) :
        ∃ m, j = i + m ∧ (o :: t)[m]? = some (some x) ∧ x.pending = false := by
      obtain ⟨m, rfl, hm, hp⟩ := ih h'
      exact ⟨m + 1, by omega, by simpa using hm, hp⟩
    cases o with
    | none => exact later h
    | some y =>
      have here (hp : y.pending = false) (e : (i, y) = (j, x)) :
          ∃ m, j = i + m ∧ (some y :: t)[m]? = some (some x) ∧ x.pending = false := by
        obtain ⟨rfl, rfl⟩ := Prod.mk.inj e
        exact ⟨0, rfl, rfl, hp⟩
      rw [victim] at h
      split at h
      · exact later h
      · rename_i hp
        split at h
        · exact here (by simpa using hp) (Option.some.inj h)
        · rename_i hv
          split at h
          · exact later (hv.trans h)
          · exact here (by simpa using hp) (Option.some.inj h)

/-- An entry with spare-pending clear that precedes every other such entry in the order of eviction is the one evicted. -/
theorem victim_eq_some {t : List (Option Suspect)} {k : Nat} {z : Suspect} (i : Nat) (hk : t[k]? = some (some z))
    (hz : z.pending = false)
    (least : ∀ m y, t[m]? = some (some y) → y.pending = false → m = k ∨ evictedFirst z y = true) :
    victim t i = some (i + k, z) := by
  induction t generalizing i k with
  | nil => simp at hk
  | cons o t ih =>
    cases k with
    | zero =>
      obtain rfl : o = some z := by simpa using hk
      rw [victim, if_neg (by simp [hz])]
      split
      · rfl
      · rename_i j x hv
        obtain ⟨m, rfl, hm, hx⟩ := victim_stands hv
        have first : evictedFirst z x = true := (least (m + 1) x (by simpa using hm) hx).resolve_left (by omega)
        have kept : ¬ evictedFirst x z = true := by
          simp only [evictedFirst, decide_eq_true_eq] at first ⊢
          omega
        rw [if_neg kept]
        rfl
    | succ k =>
      have tail : victim t (i + 1) = some (i + (k + 1), z) := by
        rw [ih (i + 1) (by simpa using hk) fun m y hm hy => by simpa using least (m + 1) y (by simpa using hm) hy,
          Nat.add_right_comm, Nat.add_assoc]
      cases o with
      | none => exact tail
      | some y =>
        rw [victim, tail]
        split
        · rfl
        · rename_i hy
          exact if_pos ((least 0 y rfl (by simpa using hy)).resolve_left (by omega))

/-- A table whose entries are all spare-pending has none to evict. -/
theorem victim_eq_none {t : List (Option Suspect)} (i : Nat) (h : ∀ y, some y ∈ t → y.pending = true) :
    victim t i = none := by
  induction t generalizing i with
  | nil => rfl
  | cons o t ih =>
    have tail := ih (i + 1) fun y hy => h y (List.mem_cons_of_mem _ hy)
    cases o with
    | none => exact tail
    | some y => rw [victim, if_pos (h y List.mem_cons_self), tail]

/-- Moving down the entries more recent than `r` moves those that a test tells to be so. -/
theorem moveDown_eq_map {t : List (Option Suspect)} {r : Nat} (down : Suspect → Bool)
    (h : ∀ y, some y ∈ t → down y = decide (y.recency < r)) :
    moveDown r t = t.map (Option.map fun y => if down y then { y with recency := y.recency + 1 } else y) := by
  refine List.map_congr_left fun o ho => ?_
  cases o with
  | none => rfl
  | some y => simp [h y ho]

/-! ### The place of a new entry -/

/-- With an empty slot the entry takes the lowest, and every other entry moves one place down. -/
theorem placeSuspect_empty {t : List (Option Suspect)} {k : Nat} (x : Suspect) (hk : t[k]? = some none)
    (below : ∀ m, m < k → t[m]? ≠ some none) : placeSuspect x t = some ((moveDown 16 t).set k (some x)) := by
  simp [placeSuspect, firstEmpty_eq_some 0 hk below]

/-- With every slot taken the entry takes the evicted one's, and the entries more recent than that one move down. -/
theorem placeSuspect_evict {t : List (Option Suspect)} {k : Nat} {z : Suspect} (x : Suspect) (full : none ∉ t)
    (hk : t[k]? = some (some z)) (hz : z.pending = false)
    (least : ∀ m y, t[m]? = some (some y) → y.pending = false → m = k ∨ evictedFirst z y = true) :
    placeSuspect x t = some ((moveDown z.recency t).set k (some x)) := by
  simp [placeSuspect, firstEmpty_eq_none 0 full, victim_eq_some 0 hk hz least]

/-- With every slot taken by a spare-pending entry there is no place. -/
theorem placeSuspect_none {t : List (Option Suspect)} (x : Suspect) (h : ∀ y ∈ t, ∃ z, y = some z ∧ z.pending = true) :
    placeSuspect x t = none := by
  have full : none ∉ t := fun hn => by simpa using h none hn
  have pending : ∀ y, some y ∈ t → y.pending = true := fun y hy => by simpa using h _ hy
  simp [placeSuspect, firstEmpty_eq_none 0 full, victim_eq_none 0 pending]

/-! ### The read -/

/-- A first correction crosses the threshold exactly when RETIRE-THRESHOLD is 1. -/
theorem crosses_first (thr : Nat) : crosses thr 0 1 false = decide (thr = 1) := by
  simp only [crosses, Bool.not_false, Bool.and_true, decide_eq_decide]
  omega

/-- The entry of a line at its first correction (R44). -/
def firstEntry (l : Nat) (s : State) : Suspect :=
  { line := l, count := 1, recency := 0, pending := decide (s.mgmt.params.retireThreshold = 1) }

/-- The event unit after a line has entered: ENTERED, and THRESHOLD behind it when the entry is spare-pending (R44). -/
def evEntered (l : Nat) (s : State) : EventUnit :=
  let entered := evAfter .lineSuspect 1 (.line l) 1 s
  if (firstEntry l s).pending then evAfter .lineSuspect 2 (.line l) 1 { s with ev := entered } else entered

/-- The records of an entry depend on the channel state, the cycle counter, the regions, the event unit and the management unit
only. -/
theorem evEntered_of (l : Nat) (s t : State) (hs : t.csr.state = s.csr.state) (hc : t.csr.counter = s.csr.counter)
    (hr : t.regions = s.regions) (he : t.ev = s.ev) (hm : t.mgmt = s.mgmt) : evEntered l t = evEntered l s := by
  have entered := evAfter_of .lineSuspect 1 (.line l) 1 s t hs hc hr he
  have threshold := evAfter_of .lineSuspect 2 (.line l) 1
    { s with ev := evAfter .lineSuspect 1 (.line l) 1 s } { t with ev := evAfter .lineSuspect 1 (.line l) 1 s } hs hc hr rfl
  have entry : firstEntry l t = firstEntry l s := by simp only [firstEntry, hm]
  simp only [evEntered, entry, entered, threshold]

/-- A line that no slot holds enters where there is a place for it. -/
theorem suspectError_enters {l : Nat} {s : State} {t : List (Option Suspect)} (hf : findSuspect s.spare.suspects l = none)
    (hp : placeSuspect (firstEntry l s) s.spare.suspects = some t) :
    suspectError l s = { s with spare.suspects := t, ev := evEntered l s } := by
  rw [← evEntered_of l s { s with spare.suspects := t } rfl rfl rfl rfl rfl]
  rw [firstEntry] at hp
  simp only [suspectError, hf, crosses_first, hp, hand_as_evAfter, evEntered, firstEntry]
  by_cases threshold : s.mgmt.params.retireThreshold = 1 <;> simp [threshold]

/-- A line that no slot holds and that has no place leaves everything as it was. -/
theorem suspectError_stays {l : Nat} {s : State} (hf : findSuspect s.spare.suspects l = none)
    (hp : placeSuspect (firstEntry l s) s.spare.suspects = none) : suspectError l s = s := by
  rw [firstEntry] at hp
  simp [suspectError, hf, crosses_first, hp]

/-- The state with a corrected word written back where it was read and counted in region `i` (R24). -/
def counted (i a : Nat) (v : Word) (s : State) : State :=
  { s with
    mem := s.mem.write (readPlace s a) (goodWord a v)
    counters.corrected := s.counters.corrected.set i (satSucc (s.counters.corrected.getD i 0)) }

/-- A correction in a region writes the word back, counts it and passes the line to the suspect table. -/
theorem correct_inRegion {a i : Nat} {e : RegionEntry} {s : State} (v : Word) (hr : regionOf s (a / 256) = some (i, e)) :
    correct a v s = suspectError (a / 256) (counted i a v s) := by
  simp only [correct, hr]
  rfl

section
variable {by_ : ReadBy} {a i : Nat} {v : Word} {s : State} {e : RegionEntry}
  (hd : decodeStored (storedAt s a) a = .corrected v) (hr : regionOf s (a / 256) = some (i, e))
  (hf : findSuspect s.spare.suspects (a / 256) = none)
include hd hr hf

/-- A corrected read of a line that no slot holds, with a place for it. -/
theorem readWord_enters {t : List (Option Suspect)}
    (hp : placeSuspect (firstEntry (a / 256) s) s.spare.suspects = some t) :
    readWord by_ a s =
      (.corrected v, { counted i a v s with spare.suspects := t, ev := evEntered (a / 256) s }) := by
  have records : evEntered (a / 256) (counted i a v s) = evEntered (a / 256) s := evEntered_of _ _ _ rfl rfl rfl rfl rfl
  rw [readWord_corrected hd, correct_inRegion v hr, suspectError_enters (s := counted i a v s) hf hp, records]

/-- A corrected read of a line that no slot holds, with no place for it. -/
theorem readWord_stays (hp : placeSuspect (firstEntry (a / 256) s) s.spare.suspects = none) :
    readWord by_ a s = (.corrected v, counted i a v s) := by
  rw [readWord_corrected hd, correct_inRegion v hr, suspectError_stays (s := counted i a v s) hf hp]

end

/-- Settles O35, from the place that each of R44's three clauses finds for the new entry. -/
theorem correctedErrorEntersANewLine : Obligations.CorrectedErrorEntersANewLine := by
  intro by_ a v s i e hd hr others
  have hf : findSuspect s.spare.suspects (a / 256) = none := findSuspect_eq_none fun y hy => (others y hy).1
  refine ⟨fun k hk below => ?empty, fun k z hk full hz least => ?evict, fun pending => ?stays⟩
  case empty =>
    have place := placeSuspect_empty (firstEntry (a / 256) s) hk below
    rw [moveDown_eq_map (fun _ => true) fun y hy => (decide_eq_true (Nat.lt_succ_of_le (others y hy).2)).symm] at place
    exact readWord_enters hd hr hf place
  case evict =>
    have place := placeSuspect_evict (firstEntry (a / 256) s) full hk hz fun m y hm hy =>
      (least m y hm hy).imp_right decide_eq_true
    rw [moveDown_eq_map (fun y => decide (y.recency < z.recency)) fun _ _ => rfl] at place
    exact readWord_enters hd hr hf place
  case stays => exact readWord_stays hd hr hf (placeSuspect_none _ pending)

end Sys2Proof.Machine
end

section
/-! The word hash of R61: its two factors, its range and where it vanishes. -/

namespace Sys2Proof.Machine

theorem modulus_eq : modulus = 2 ^ 61 - 1 := rfl

theorem modulus_pos : 0 < modulus := by decide

/-- The factor x of the word hash (R61), from the low half of the value. -/
def lowFactor (k : Keys) (a : Nat) (v : Word) : Nat := (v.toNat % 2 ^ 32 + k.k1 * (a + 1)) % modulus

/-- The factor y of the word hash (R61), from the high half of the value. -/
def highFactor (k : Keys) (a : Nat) (v : Word) : Nat := (v.toNat / 2 ^ 32 + k.k2 * (a + 1) + k.k3) % modulus

section
variable (k : Keys) (a : Nat) (v : Word)

theorem wordHash_eq_factors : wordHash k a v = lowFactor k a v * highFactor k a v % modulus := rfl

theorem lowFactor_le : lowFactor k a v ≤ modulus - 1 := Nat.le_pred_of_lt (Nat.mod_lt _ modulus_pos)

theorem highFactor_le : highFactor k a v ≤ modulus - 1 := Nat.le_pred_of_lt (Nat.mod_lt _ modulus_pos)

theorem factors_mul_le : lowFactor k a v * highFactor k a v ≤ (modulus - 1) ^ 2 :=
  calc lowFactor k a v * highFactor k a v
      ≤ (modulus - 1) * (modulus - 1) := Nat.mul_le_mul (lowFactor_le k a v) (highFactor_le k a v)
    _ = (modulus - 1) ^ 2 := (sq _).symm

theorem wordHash_lt : wordHash k a v < modulus := Nat.mod_lt _ modulus_pos

end

section
variable {k : Keys} {a : Nat} {v : Word}

theorem wordHash_eq_zero (h : lowFactor k a v = 0 ∨ highFactor k a v = 0) : wordHash k a v = 0 := by
  rw [wordHash_eq_factors, Nat.mul_eq_zero.mpr h, Nat.zero_mod]

/-- A hash of 0 leaves a reduced sum as it was, whether it is added or, as p − h, taken away. -/
theorem sum_unchanged_of_wordHash_eq_zero {sum : Nat} (h : wordHash k a v = 0) (hs : sum < modulus) :
    (sum + wordHash k a v) % modulus = sum ∧ (sum + (modulus - wordHash k a v)) % modulus = sum := by
  rw [h, Nat.add_zero, Nat.sub_zero, Nat.add_mod_right]
  exact ⟨Nat.mod_eq_of_lt hs, Nat.mod_eq_of_lt hs⟩

end

/-- Settles O41, from the hash as the reduced product of its two factors. -/
theorem wordHashIsTheProductOfTwoRemainders : Obligations.WordHashIsTheProductOfTwoRemainders := by
  intro k a v _
  rw [← modulus_eq]
  have square_fits : (modulus - 1) ^ 2 < 2 ^ 122 := by decide
  refine ⟨wordHash_eq_factors k a v, factors_mul_le k a v, square_fits, Nat.le_pred_of_lt (wordHash_lt k a v), fun zero => ?_⟩
  have hash_zero : wordHash k a v = 0 := wordHash_eq_zero zero
  exact ⟨hash_zero, fun _ hs => sum_unchanged_of_wordHash_eq_zero hash_zero hs⟩

end Sys2Proof.Machine
end

section
namespace Sys2Proof.Machine
-- One proof after the other: side by side they pass the memory that the check allows.
set_option Elab.async false

/-- From `s` to `t` every invariant of the state has been kept: the form of memory, the agreement of the record's copies, and the
bounds of lists and counters. -/
structure Kept (s t : State) : Prop where
  memory : s.mem.wf = true → t.mem.wf = true
  copies : copiesAgree s → copiesAgree t
  bounds : InBounds s → InBounds t
  counters : InBounds s → CountersFit s → CountersFit t

/-- `Kept`, with the FAULT latch set it has stayed set and HEALTH has not moved, and no transaction has joined the queue. -/
structure Steady (s t : State) : Prop extends Kept s t where
  latched : s.ev.faultLatch = true → t.ev.faultLatch = true ∧ t.ev.health = s.ev.health
  queued : ∀ x ∈ t.port.queue, x ∈ s.port.queue

theorem Kept.refl (s : State) : Kept s s := ⟨id, id, id, fun _ h => h⟩

theorem Kept.trans {s t u : State} (h : Kept s t) (k : Kept t u) : Kept s u :=
  ⟨k.memory ∘ h.memory, k.copies ∘ h.copies, k.bounds ∘ h.bounds, fun b c => k.counters (h.bounds b) (h.counters b c)⟩

theorem Steady.refl (s : State) : Steady s s := ⟨Kept.refl s, fun h => ⟨h, rfl⟩, fun _ h => h⟩

theorem Steady.trans {s t u : State} (h : Steady s t) (k : Steady t u) : Steady s u :=
  ⟨h.toKept.trans k.toKept, fun l => ⟨(k.latched (h.latched l).1).1, (k.latched (h.latched l).1).2.trans (h.latched l).2⟩,
    fun x e => h.queued x (k.queued x e)⟩

/-- The items of the state that the invariants speak of. -/
def tracked (s : State) :=
  (s.mem, s.csr, (s.port.queue, s.port.refused), (s.mgmt.area, s.mgmt.issued, s.mgmt.results),
    (s.link1.buffer, s.link1.badFrames, s.link1.discards), (s.link2.buffer, s.link2.badFrames, s.link2.discards),
    s.sig.poisoned, (s.spare.suspects, s.spare.remap), s.regions, s.counters, s.jnl.entries, s.repair.role,
    s.scrub.proof.loops, (s.ev.faultLatch, s.ev.health))

section
variable {s t u : State}

theorem Steady.same (h : Steady s t) (e : tracked u = tracked t) : Steady s u := by
  refine h.trans ?_
  obtain ⟨pe, me, csr, ⟨q, he, lr, rf, rr⟩, arb, reg, cou, ⟨sl, sw, pc, al, pr, ini⟩, ⟨su, rm, op, ex⟩, sig, jnl, vote, l1, l2, rep, mg, ev, out⟩ := u
  simp only [tracked, Prod.mk.injEq] at e
  obtain ⟨rfl, rfl, ⟨rfl, rfl⟩, ⟨e1, e2, e3⟩, ⟨e4, e5, e6⟩, ⟨e7, e8, e9⟩, e10, ⟨rfl, rfl⟩, rfl, rfl, e11, e12, e13, e14, e15⟩ := e
  refine ⟨⟨id, id, fun b => ?_, fun _ c => ?_⟩, fun l => ⟨e14.trans l, e15⟩, fun _ e => e⟩
  · exact ⟨b.queue, e1 ▸ b.area, e2 ▸ b.issued, e3 ▸ b.results, e4 ▸ b.buffer1, e7 ▸ b.buffer2, e10 ▸ b.poisoned, b.suspects,
      b.suspectCounts, b.remap, b.loaded, b.committed, b.corrected, by have := b.journal; simp only [e11]; exact this,
      fun j hj => b.need j (e12 ▸ hj)⟩
  · exact ⟨c.corrected, c.uncorrectable, c.refused, e5 ▸ c.bad1, e8 ▸ c.bad2, e6 ▸ c.discards1, e9 ▸ c.discards2,
      e13 ▸ c.loops, fun r hr => c.sent r (e12 ▸ hr), fun j hj => c.written j (e12 ▸ hj)⟩

theorem Steady.setMem (h : Steady s t) {m : Memory} (hm : t.mem.wf = true → m.wf = true) : Steady s { t with mem := m } :=
  h.trans ⟨⟨hm, id, fun b => { b with }, fun _ c => { c with }⟩, fun l => ⟨l, rfl⟩, fun _ e => e⟩

theorem Steady.setCsr (h : Steady s t) {c : ChannelRecord} (hc : copiesAgree t → copiesAgree { t with csr := c }) :
    Steady s { t with csr := c } :=
  h.trans ⟨⟨id, hc, fun b => { b with }, fun _ c => { c with }⟩, fun l => ⟨l, rfl⟩, fun _ e => e⟩

theorem Steady.setPort (h : Steady s t) {p : PortUnit} (hq : p.queue.Sublist t.port.queue)
    (hr : t.port.refused ≤ counterMax → p.refused ≤ counterMax) : Steady s { t with port := p } :=
  h.trans ⟨⟨id, id, fun b => { b with queue := hq.length_le.trans b.queue },
    fun _ c => { c with refused := hr c.refused }⟩, fun l => ⟨l, rfl⟩, fun _ e => hq.subset e⟩

theorem Steady.setMgmt (h : Steady s t) {m : MgmtUnit} (ha : t.mgmt.area.length = 16 → m.area.length = 16)
    (hi : t.mgmt.area.length = 16 → t.mgmt.issued.length = 16 → m.issued.length = 16)
    (hr : t.mgmt.results.length = 16 → m.results.length = 16) : Steady s { t with mgmt := m } :=
  h.trans ⟨⟨id, id, fun b => { b with area := ha b.area, issued := hi b.area b.issued, results := hr b.results },
    fun _ c => { c with }⟩, fun l => ⟨l, rfl⟩, fun _ e => e⟩

/-- What a change of a link may do to its bounded items. -/
structure LinkFits (k m : Link) : Prop where
  buffer : k.buffer.length ≤ 4 → m.buffer.length ≤ 4
  bad : k.badFrames ≤ counterMax → m.badFrames ≤ counterMax
  discards : k.discards ≤ counterMax → m.discards ≤ counterMax

theorem updLink_steady (l : LinkId) {f : Link → Link} (hf : LinkFits (getLink t l) (f (getLink t l))) (h : Steady s t) :
    Steady s (updLink l f t) := by
  refine h.trans ?_
  cases l with
  | link1 => exact ⟨⟨id, id, fun b => { b with buffer1 := hf.buffer b.buffer1 },
      fun _ c => { c with bad1 := hf.bad c.bad1, discards1 := hf.discards c.discards1 }⟩, fun l => ⟨l, rfl⟩, fun _ e => e⟩
  | link2 => exact ⟨⟨id, id, fun b => { b with buffer2 := hf.buffer b.buffer2 },
      fun _ c => { c with bad2 := hf.bad c.bad2, discards2 := hf.discards c.discards2 }⟩, fun l => ⟨l, rfl⟩, fun _ e => e⟩

theorem Steady.setSig (h : Steady s t) {g : SignatureUnit} (hp : t.sig.poisoned.length ≤ 8 → g.poisoned.length ≤ 8) :
    Steady s { t with sig := g } :=
  h.trans ⟨⟨id, id, fun b => { b with poisoned := hp b.poisoned }, fun _ c => { c with }⟩, fun l => ⟨l, rfl⟩, fun _ e => e⟩

theorem Steady.setSuspects (h : Steady s t) {x : List (Option Suspect)} (hl : x.length = t.spare.suspects.length)
    (hc : (∀ e, some e ∈ t.spare.suspects → e.count ≤ 15) → ∀ e, some e ∈ x → e.count ≤ 15) :
    Steady s { t with spare.suspects := x } :=
  h.trans ⟨⟨id, id, fun b => { b with suspects := hl.trans b.suspects, suspectCounts := hc b.suspectCounts },
    fun _ c => { c with }⟩, fun l => ⟨l, rfl⟩, fun _ e => e⟩

theorem Steady.setRemap (h : Steady s t) {x : List RemapEntry} (hl : x.length = t.spare.remap.length) :
    Steady s { t with spare.remap := x } :=
  h.trans ⟨⟨id, id, fun b => { b with remap := hl.trans b.remap }, fun _ c => { c with }⟩, fun l => ⟨l, rfl⟩, fun _ e => e⟩

theorem Steady.setLoaded (h : Steady s t) {x : List RegionEntry} (hl : x.length = t.regions.loaded.length) :
    Steady s { t with regions.loaded := x } :=
  h.trans ⟨⟨id, id, fun b => { b with loaded := hl.trans b.loaded }, fun _ c => { c with }⟩, fun l => ⟨l, rfl⟩, fun _ e => e⟩

theorem Steady.setCounters (h : Steady s t) {x : ErrorCounters} (hl : t.counters.corrected.length = 16 → x.corrected.length = 16)
    (hc : CountersFit t → (∀ n ∈ x.corrected, n ≤ counterMax) ∧ x.uncorrectable ≤ counterMax) :
    Steady s { t with counters := x } :=
  h.trans ⟨⟨id, id, fun b => { b with corrected := hl b.corrected },
    fun _ c => { c with corrected := (hc c).1, uncorrectable := (hc c).2 }⟩, fun l => ⟨l, rfl⟩, fun _ e => e⟩

theorem Steady.setJnl (h : Steady s t) {j : JournalUnit}
    (hj : j.entries ≤ t.jnl.entries ∨ j.entries ≤ journalCapacity t) : Steady s { t with jnl := j } :=
  h.trans ⟨⟨id, id, fun b => { b with journal := hj.elim (fun e => e.trans b.journal) id }, fun _ c => { c with }⟩, fun l => ⟨l, rfl⟩, fun _ e => e⟩

/-- The bounded items of a role. -/
structure RoleFits (s : State) (r : Role) : Prop where
  need : InBounds s → ∀ j, r = .joiner j → j.need.length ≤ 8
  sent : CountersFit s → ∀ x, r = .source x → x.linesSent ≤ counterMax
  written : CountersFit s → ∀ j, r = .joiner j → j.linesWritten ≤ counterMax

theorem Steady.setRole (h : Steady s t) {r : Role} (hr : RoleFits t r) : Steady s { t with repair.role := r } :=
  h.trans ⟨⟨id, id, fun b => { b with need := hr.need b }, fun _ c => { c with sent := hr.sent c, written := hr.written c }⟩,
    fun l => ⟨l, rfl⟩, fun _ e => e⟩

theorem Steady.setProof (h : Steady s t) {p : ProofRecord} (hp : t.scrub.proof.loops ≤ counterMax → p.loops ≤ counterMax) :
    Steady s { t with scrub.proof := p } :=
  h.trans ⟨⟨id, id, fun b => { b with }, fun _ c => { c with loops := hp c.loops }⟩, fun l => ⟨l, rfl⟩, fun _ e => e⟩

theorem Steady.setEv (h : Steady s t) {e : EventUnit}
    (he : t.ev.faultLatch = true → e.faultLatch = true ∧ e.health = t.ev.health) : Steady s { t with ev := e } :=
  h.trans ⟨⟨id, id, fun b => { b with }, fun _ c => { c with }⟩, he, fun _ e => e⟩

theorem Steady.ite {c : Prop} [Decidable c] (ht : Steady s t) (hu : Steady s u) : Steady s (if c then t else u) := by
  split <;> assumption

theorem satSucc_le (n : Nat) : satSucc n ≤ counterMax := by unfold satSucc; split <;> omega

/-! ### Memory, records and the channel state record -/

theorem poke_steady (a : Nat) (w : Stored) (h : Steady s t) : Steady s (poke a w t) := h.setMem (Memory.write_wf _ _ _)

theorem writeWord_steady (a : Nat) (v : Word) (h : Steady s t) : Steady s (writeWord a v t) := by
  rw [writeWord_frame]
  exact h.setMem (writeWord_wf a v t)

theorem writeWords_steady (ws : List (Nat × Word)) (h : Steady s t) : Steady s (writeWords ws t) := by
  rw [writeWords_frame]
  exact h.setMem (writeWords_wf ws t)

theorem handRecord_steady (e : EventRecord) (h : Steady s t) : Steady s (handRecord e t) := h.same (by simp [tracked])

theorem handAt_steady (k : EventKind) (d : Nat) (subj : Subject) (v : Word) (c : Cycle) (h : Steady s t) :
    Steady s (handAt k d subj v c t) := handRecord_steady _ h

theorem hand_steady (k : EventKind) (d : Nat) (subj : Subject) (v : Word) (h : Steady s t) :
    Steady s (hand k d subj v t) := handRecord_steady _ h

theorem copiesAgree_iff (s : State) : copiesAgree s ↔ s.csr.stateInv = ~~~ BitVec.ofNat 8 s.csr.state.code ∧
    s.csr.counterInv = ~~~ s.csr.counter ∧ s.csr.committedInv = ~~~ s.csr.committed ∧ s.csr.cInv = ~~~ wordOf s.csr.c := by
  simp only [copiesAgree, recordUpset]
  (repeat' split) <;> simp_all

theorem setState_steady (st : ChannelState) (h : Steady s t) : Steady s (setState st t) :=
  h.setCsr (c := { t.csr with state := st, stateInv := ~~~ BitVec.ofNat 8 st.code }) (by simp +contextual [copiesAgree_iff])

theorem setCommitted_steady (n : Cycle) (h : Steady s t) : Steady s (setCommitted n t) :=
  h.setCsr (c := { t.csr with committed := n, committedInv := ~~~ n }) (by simp +contextual [copiesAgree_iff])

theorem setC_steady (n : Nat) (h : Steady s t) : Steady s (setC n t) :=
  h.setCsr (c := { t.csr with c := n, cInv := ~~~ wordOf n }) (by simp +contextual [copiesAgree_iff])

theorem emptySlots_steady (h : Steady s t) : Steady s (emptySlots t) := h.same rfl

theorem setCounter_steady (n : Cycle) (h : Steady s t) : Steady s (setCounter n t) := by
  have k : Steady s { t with csr := { t.csr with counter := n, counterInv := ~~~ n } } :=
    h.setCsr (by simp +contextual [copiesAgree_iff])
  unfold setCounter
  split
  · exact k
  · exact k.same rfl

theorem handStateChange_steady (p : ChannelState) (c : Cause) (h : Steady s t) : Steady s (handStateChange p c t) :=
  hand_steady _ _ _ _ h

theorem changeState_steady (st : ChannelState) (c : Cause) (h : Steady s t) : Steady s (changeState st c t) :=
  handStateChange_steady _ _ (setState_steady st h)

theorem invalidateS_steady (h : Steady s t) : Steady s (invalidateS t) := h.same rfl

theorem setLatch_steady (h : Steady s t) : Steady s (setLatch t) :=
  h.setEv (e := { t.ev with faultLatch := true }) fun _ => ⟨rfl, rfl⟩

/-! ### Outputs, peers and links -/

theorem respond_steady (r : Response) (h : Steady s t) : Steady s (respond r t) := h.same rfl

theorem updPeer_steady (i : Identity) (f : Peer → Peer) (h : Steady s t) : Steady s (updPeer i f t) :=
  h.same (by simp [tracked])

theorem setRelation_steady (i : Identity) (r : Option Relation) (h : Steady s t) : Steady s (setRelation i r t) :=
  updPeer_steady _ _ h

theorem transmit_steady (l : LinkId) (f : Frame) (h : Steady s t) : Steady s (transmit l f t) := h.same (by simp [tracked])

/-- A change of a link that leaves its buffer and its counters. -/
theorem LinkFits.same {k m : Link} (hb : m.buffer = k.buffer := by rfl) (hf : m.badFrames = k.badFrames := by rfl)
    (hd : m.discards = k.discards := by rfl) : LinkFits k m := by
  refine ⟨?_, ?_, ?_⟩ <;> simp [hb, hf, hd]

/-- A change of a link that empties its buffer. -/
theorem LinkFits.empty {k m : Link} (hb : m.buffer = [] := by rfl) (hf : m.badFrames = k.badFrames := by rfl)
    (hd : m.discards = k.discards := by rfl) : LinkFits k m := by
  refine ⟨?_, ?_, ?_⟩ <;> simp [hb, hf, hd]

theorem sendFrame_steady (l : LinkId) (f : Frame) (h : Steady s t) : Steady s (sendFrame l f t) := by
  have sent := transmit_steady l f h
  unfold sendFrame
  (repeat' split) <;> first | exact h | exact sent | exact updLink_steady l .same sent

theorem send_steady (l : LinkId) (pl : Payload) (h : Steady s t) : Steady s (send l pl t) := by
  unfold send
  split
  · exact h
  · exact sendFrame_steady _ _ h

theorem sendHail_steady (l : LinkId) (h : Steady s t) : Steady s (sendHail l t) := by
  unfold sendHail
  split
  · exact h
  · exact sendFrame_steady _ _ h

/-! ### The suspect table -/

theorem moveDown_length (r : Nat) (x : List (Option Suspect)) : (moveDown r x).length = x.length := by simp [moveDown]

theorem moveUp_length (r : Nat) (x : List (Option Suspect)) : (moveUp r x).length = x.length := by simp [moveUp]

theorem updSuspect_length (l : Nat) (f : Suspect → Suspect) (x : List (Option Suspect)) :
    (updSuspect l f x).length = x.length := by simp [updSuspect]

/-- No count of a suspect table exceeds 15. -/
def CountsFit (x : List (Option Suspect)) : Prop := ∀ e, some e ∈ x → e.count ≤ 15

theorem CountsFit.map {x : List (Option Suspect)} (h : CountsFit x) {f : Suspect → Suspect}
    (hf : ∀ e, e.count ≤ 15 → (f e).count ≤ 15) : CountsFit (x.map (Option.map f)) := by
  intro e he
  obtain ⟨o, ho, e'⟩ := List.mem_map.mp he
  obtain ⟨d, rfl, rfl⟩ := Option.map_eq_some_iff.mp e'
  exact hf d (h d ho)

theorem CountsFit.set {x : List (Option Suspect)} (h : CountsFit x) (i : Nat) {d : Suspect} (hd : d.count ≤ 15) :
    CountsFit (x.set i (some d)) := by
  intro e he
  rcases List.mem_or_eq_of_mem_set he with m | e'
  · exact h e m
  · obtain rfl := Option.some.inj e'
    exact hd

theorem CountsFit.moveDown {x : List (Option Suspect)} (h : CountsFit x) (r : Nat) : CountsFit (moveDown r x) :=
  h.map fun e he => by split <;> exact he

theorem CountsFit.moveUp {x : List (Option Suspect)} (h : CountsFit x) (r : Nat) : CountsFit (moveUp r x) :=
  h.map fun e he => by split <;> exact he

theorem CountsFit.updSuspect {x : List (Option Suspect)} (h : CountsFit x) (l : Nat) {f : Suspect → Suspect}
    (hf : ∀ e, e.count ≤ 15 → (f e).count ≤ 15) : CountsFit (updSuspect l f x) :=
  h.map fun e he => by split <;> [exact hf e he; exact he]

theorem placeSuspect_length {e : Suspect} {x y : List (Option Suspect)} (h : placeSuspect e x = some y) :
    y.length = x.length := by
  unfold placeSuspect at h
  (repeat' split at h) <;> simp at h <;> subst h <;> simp [moveDown_length]

theorem CountsFit.place {e : Suspect} {x y : List (Option Suspect)} (h : CountsFit x) (he : e.count ≤ 15)
    (hp : placeSuspect e x = some y) : CountsFit y := by
  unfold placeSuspect at hp
  (repeat' split at hp) <;> simp at hp <;> subst hp <;> exact (h.moveDown _).set _ he

theorem findSuspect_mem {x : List (Option Suspect)} {l : Nat} {e : Suspect} (h : findSuspect x l = some e) : some e ∈ x := by
  induction x with
  | nil => simp [findSuspect] at h
  | cons o x ih =>
    cases o with
    | none => exact List.mem_cons_of_mem _ (ih h)
    | some d =>
      simp only [findSuspect] at h
      split at h
      · simp_all
      · exact List.mem_cons_of_mem _ (ih h)

theorem suspectError_steady (l : Nat) (h : Steady s t) : Steady s (suspectError l t) := by
  unfold suspectError
  dsimp only
  split
  · rename_i e he
    generalize hn : (if e.count < 15 then e.count + 1 else e.count) = n
    have raised := h.setSuspects (x := updSuspect l (fun d => { d with
        count := n, recency := 0, pending := d.pending || crosses t.mgmt.params.retireThreshold e.count n e.pending })
        (moveDown e.recency t.spare.suspects)) (by rw [updSuspect_length, moveDown_length]) fun c => by
      have := c e (findSuspect_mem he)
      exact (CountsFit.moveDown c _).updSuspect _ fun _ _ => by dsimp only; subst hn; split <;> omega
    exact .ite (hand_steady _ _ _ _ raised) raised
  · split
    · rename_i x hx
      have entered := hand_steady .lineSuspect 1 (.line l) 1 (h.setSuspects (placeSuspect_length hx) fun c =>
        CountsFit.place c (Nat.one_le_ofNat (n := 15)) hx)
      exact .ite (hand_steady _ _ _ _ entered) entered
    · exact h

/-! ### Reads through the check coder -/

theorem set_counters_le {x : List Nat} (i n : Nat) (h : ∀ m ∈ x, m ≤ counterMax) (hn : n ≤ counterMax) :
    ∀ m ∈ x.set i n, m ≤ counterMax := by
  intro m hm
  rcases List.mem_or_eq_of_mem_set hm with e | rfl
  · exact h m e
  · exact hn

theorem correct_steady (a : Nat) (v : Word) (h : Steady s t) : Steady s (correct a v t) := by
  have k := poke_steady (readPlace t a) (goodWord a v) h
  refine suspectError_steady _ ?_
  split
  · exact k.setCounters (x := { t.counters with corrected := _ }) (fun e => by simpa using e)
      fun c => ⟨set_counters_le _ _ c.corrected (satSucc_le _), c.uncorrectable⟩
  · exact k

theorem reportUncorrectable_steady (by_ : ReadBy) (a : Nat) (raw : Word) (h : Steady s t) :
    Steady s (reportUncorrectable by_ a raw t) := by
  have k : Steady s { t with counters.uncorrectable := satSucc t.counters.uncorrectable } :=
    h.setCounters (x := { t.counters with uncorrectable := _ }) id fun c => ⟨c.corrected, satSucc_le _⟩
  have r := hand_steady .uncorrectable by_.code (.word a) raw k
  unfold reportUncorrectable
  dsimp only
  split
  · exact invalidateS_steady r
  · exact r

theorem readWord_steady (by_ : ReadBy) (a : Nat) (h : Steady s t) : Steady s (readWord by_ a t).2 := by
  unfold readWord
  split
  · exact h
  · exact correct_steady _ _ h
  · exact reportUncorrectable_steady _ _ _ h

theorem readWords_steady (by_ : ReadBy) (as : List Nat) (h : Steady s t) : Steady s (readWords by_ as t).2 := by
  induction as generalizing t with
  | nil => exact h
  | cons a as ih => exact ih (readWord_steady by_ a h)

theorem listPoisoned_steady (o : Nat) (h : Steady s t) : Steady s (listPoisoned o t) := by
  unfold listPoisoned
  split
  · exact h
  · split
    · rename_i hl
      exact h.setSig (g := { t.sig with poisoned := t.sig.poisoned ++ [o] }) fun _ => by simp; exact hl
    · exact h.same rfl

/-! ### Signature and journal -/

theorem updateS_steady (a : Nat) (old new : Word) (h : Steady s t) : Steady s (updateS a old new t) := by
  unfold updateS
  split
  · exact h.same rfl
  · exact h

theorem updateWordsS_steady (ws : List (Nat × Word × Word)) (h : Steady s t) : Steady s (updateWordsS ws t) := by
  induction ws generalizing t with
  | nil => exact h
  | cons w ws ih => exact ih (updateS_steady _ _ _ h)

theorem updateWordsAcc_steady (ws : List (Nat × Word × Word)) (h : Steady s t) : Steady s (updateWordsAcc ws t) := by
  induction ws generalizing t with
  | nil => exact h
  | cons w ws ih => exact ih (h.same rfl)

theorem addHash_steady (a : Nat) (v : Word) (h : Steady s t) : Steady s (addHash a v t) := h.same rfl

theorem startWalk_steady (w : Walk) (h : Steady s t) : Steady s (startWalk w t) := h.setSig fun _ => by simp

theorem stopWalk_steady (h : Steady s t) : Steady s (stopWalk t) := h.same rfl

theorem emptyJournal_steady (h : Steady s t) : Steady s (emptyJournal t) := h.setJnl (.inl (Nat.zero_le _))

theorem rearmPressure_steady (h : Steady s t) : Steady s (rearmPressure t) := by
  unfold rearmPressure
  split
  · exact h.same rfl
  · exact h

theorem appendEntry_steady (tag : BitVec 16) (opn : Cycle) (a : Nat) (old : Word) (h : Steady s t) :
    Steady s (appendEntry tag opn a old t) := by
  simp only [appendEntry]
  split
  · exact h
  · split
    · exact hand_steady _ _ _ _ (h.same rfl)
    · rename_i room
      have k := writeWord_steady (journalSlot t t.jnl.tail + 1) old (writeWord_steady (journalSlot t t.jnl.tail) (journalWord a tag) h)
      have fits : t.jnl.votingCount + (t.jnl.openCount + 1) ≤ journalCapacity t := by
        simp only [JournalUnit.entries] at room; omega
      split
      · exact hand_steady _ _ _ _ (k.setJnl (.inr (by simpa [JournalUnit.entries, journalCapacity, journalEntry] using fits)))
      · exact k.setJnl (.inr (by simpa [JournalUnit.entries, journalCapacity, journalEntry] using fits))

theorem appendEntries_steady (tag : BitVec 16) (opn : Cycle) (ws : List (Nat × Word)) (h : Steady s t) :
    Steady s (appendEntries tag opn ws t) := by
  induction ws generalizing t with
  | nil => exact h
  | cons w ws ih => exact ih (appendEntry_steady _ _ _ _ h)

theorem moveBoundary_steady (h : Steady s t) : Steady s (moveBoundary t) :=
  h.setJnl (.inl (by simp [JournalUnit.entries]))

theorem discardVoting_steady (h : Steady s t) : Steady s (discardVoting t) :=
  rearmPressure_steady (h.setJnl (.inl (by simp [JournalUnit.entries])))

theorem markSegment_steady (a : Nat) (h : Steady s t) : Steady s (markSegment a t) := by
  unfold markSegment
  dsimp only
  (repeat' split) <;> first | exact h | exact h.same rfl

theorem markNewest_steady (h : Steady s t) : Steady s (markNewest t) := by
  unfold markNewest
  split <;> exact h.same rfl

theorem abandonRollback_steady (h : Steady s t) : Steady s (abandonRollback t) := h.same rfl

theorem endRollback_steady (stop : Option Nat) (h : Steady s t) : Steady s (endRollback stop t).1 := by
  have kept : ∀ (c : Prop) [Decidable c], Steady s (if c then t else invalidateS t) := fun _ _ => .ite h (invalidateS_steady h)
  have emptied (u : State) (hu : Steady s u) : Steady s (setCounter u.csr.committed (emptyJournal u)) :=
    setCounter_steady _ (emptyJournal_steady hu)
  cases stop with
  | some d => exact abandonRollback_steady (hand_steady _ _ _ _ (emptied _ (kept _)))
  | none => exact abandonRollback_steady (.ite (hand_steady _ _ _ _ (emptied _ (kept _))) (emptied _ (kept _)))

theorem requestRollback_steady (why : RollbackReason) (h : Steady s t) : Steady s (requestRollback why t).1 := by
  unfold requestRollback
  dsimp only
  split
  · dsimp only
    exact endRollback_steady _ (h.same rfl)
  · split
    · dsimp only
      exact endRollback_steady _ (h.same rfl)
    · exact h.same rfl
end
end Sys2Proof.Machine
end

section
namespace Sys2Proof.Machine
-- One proof after the other: side by side they pass the memory that the check allows.
set_option Elab.async false
section
variable {s t u : State}

/-! ### The repair unit -/

theorem getLink_buffer_le (l : LinkId) (b : InBounds s) : (getLink s l).buffer.length ≤ 4 := by
  cases l <;> [exact b.buffer1; exact b.buffer2]

theorem goIfDrained_steady (l : LinkId) (h : Steady s t) : Steady s (goIfDrained l t) :=
  .ite (updLink_steady l .same (send_steady l .go h)) h

theorem leaveBuffer_steady (l : LinkId) (rest : List LineFrame) (h : Steady s t) : Steady s (leaveBuffer l rest t) := by
  unfold leaveBuffer
  split
  · rename_i less
    exact goIfDrained_steady l (updLink_steady l ⟨fun e => (Nat.le_of_lt less).trans e, id, id⟩ h)
  · exact h

theorem dropLines_steady (l : LinkId) (h : Steady s t) : Steady s (dropLines l t) :=
  .ite (leaveBuffer_steady l _ h) (leaveBuffer_steady l _ h)

theorem settleBuffers_steady (h : Steady s t) : Steady s (settleBuffers t) := dropLines_steady _ (dropLines_steady _ h)

theorem RoleFits.ofJoiner {k : JoinerRole} (hn : InBounds t → k.need.length ≤ 8)
    (hw : CountersFit t → k.linesWritten ≤ counterMax) : RoleFits t (.joiner k) where
  need b _ e := Role.joiner.inj e ▸ hn b
  sent _ _ e := by cases e
  written c _ e := Role.joiner.inj e ▸ hw c

theorem RoleFits.ofSource {x : SourceRole} (hs : CountersFit t → x.linesSent ≤ counterMax) : RoleFits t (.source x) where
  need _ _ e := by cases e
  sent c _ e := Role.source.inj e ▸ hs c
  written _ _ e := by cases e

theorem RoleFits.none (t : State) : RoleFits t .none where
  need _ _ e := by cases e
  sent _ _ e := by cases e
  written _ _ e := by cases e

/-- A joiner role whose need list and count of lines are those of the role held. -/
theorem RoleFits.joiner {j k : JoinerRole} (hr : t.repair.role = .joiner j) (hn : k.need = j.need := by rfl)
    (hw : k.linesWritten = j.linesWritten := by rfl) : RoleFits t (.joiner k) :=
  .ofJoiner (fun b => hn ▸ b.need j hr) fun c => hw ▸ c.written j hr

/-- A source role whose count of lines is that of the role held. -/
theorem RoleFits.source {r x : SourceRole} (hr : t.repair.role = .source r) (hs : x.linesSent = r.linesSent := by rfl) :
    RoleFits t (.source x) :=
  .ofSource fun c => hs ▸ c.sent r hr

theorem sendRequest_steady (i : Identity) (h : Steady s t) : Steady s (sendRequest i t) := by
  unfold sendRequest
  split
  · rename_i j hr
    have asked := setRelation_steady i (some .joinerOf) (h.setRole (.joiner (k := { j with
      phase := .requesting, candidate := some i, replyTimer := some t.mgmt.params.voteWindow }) hr))
    dsimp only
    split
    · exact send_steady _ _ asked
    · exact asked
  · exact h

theorem endSequence_steady (h : Steady s t) : Steady s (endSequence t) := by
  unfold endSequence
  split
  · exact .ite (h.setRole (.joiner ‹_›)) (hand_steady _ _ _ _ (h.setRole (.joiner ‹_›)))
  · exact h

theorem tryNext_steady (h : Steady s t) : Steady s (tryNext t) := by
  unfold tryNext
  split
  · split
    · exact sendRequest_steady _ (h.setRole (.joiner ‹_›))
    · exact endSequence_steady h
  · exact h

theorem beginSequence_steady (h : Steady s t) : Steady s (beginSequence t) := by
  unfold beginSequence
  split
  · exact tryNext_steady (h.setRole (.joiner ‹_›))
  · exact h

theorem failTry_steady (h : Steady s t) : Steady s (failTry t) := by
  unfold failTry
  split
  · rename_i j hr
    have ended := h.setRole (.joiner (k := { j with replyTimer := none }) hr)
    refine tryNext_steady ?_
    split
    · exact setRelation_steady _ _ ended
    · exact ended
  · exact h

theorem baseFor_need_le (j : JoinerRole) (b : InBounds t) : (baseFor j t).2.length ≤ 8 := by
  have := b.poisoned
  unfold baseFor
  (repeat' split) <;> simp [this]

theorem finishPreparation_steady (h : Steady s t) : Steady s (finishPreparation t) := by
  unfold finishPreparation
  split
  · rename_i j hr
    exact beginSequence_steady (h.setRole (.ofJoiner (baseFor_need_le j) fun c => c.written j hr))
  · exact h

theorem prepareSignature_steady (h : Steady s t) : Steady s (prepareSignature t) :=
  .ite (finishPreparation_steady h) (startWalk_steady _ h)

theorem prepareResult_steady (r : RollbackResult) (h : Steady s t) : Steady s (prepareResult r t) := by
  unfold prepareResult
  split
  · exact prepareSignature_steady (h.setRole (.joiner ‹_›))
  · exact h

theorem beginPreparation_steady (r : Option RollbackResult) (h : Steady s t) : Steady s (beginPreparation r t) := by
  have taken := h.setRole (.ofJoiner (k := freshJoiner false) (fun _ => Nat.zero_le _) fun _ => Nat.zero_le _)
  cases r with
  | none => exact taken
  | some res => exact prepareResult_steady res taken

theorem restartPreparation_steady (h : Steady s t) : Steady s (restartPreparation t) := by
  unfold restartPreparation
  split
  · rename_i j hr
    refine prepareSignature_steady ?_
    split
    · exact (setRelation_steady _ _ h).setRole (.ofJoiner (fun _ => Nat.zero_le _) fun c => c.written j (by simpa using hr))
    · exact h.setRole (.ofJoiner (fun _ => Nat.zero_le _) fun c => c.written j hr)
  · exact h

theorem joinerReturn_steady (c : Cause) (h : Steady s t) : Steady s (joinerReturn c t) := by
  unfold joinerReturn
  split
  · rename_i j hr
    have out := emptySlots_steady (changeState_steady .out c h)
    refine prepareSignature_steady (settleBuffers_steady ?_)
    split
    · exact (setRelation_steady _ _ out).setRole (.ofJoiner (fun _ => Nat.zero_le _) fun _ => Nat.zero_le _)
    · exact out.setRole (.ofJoiner (fun _ => Nat.zero_le _) fun _ => Nat.zero_le _)
  · exact h

theorem handJoinerAbort_steady (why : AbortReason) (p : Option Identity) (n : Nat) (h : Steady s t) :
    Steady s (handJoinerAbort why p n t) := hand_steady _ _ _ _ h

theorem sendAbort_steady (l : Option LinkId) (why : AbortReason) (h : Steady s t) : Steady s (sendAbort l why t) := by
  cases l <;> [exact h; exact send_steady _ _ h]

theorem abortReceiving_steady (why : AbortReason) (tell : Bool) (h : Steady s t) : Steady s (abortReceiving why tell t) := by
  unfold abortReceiving
  split
  · refine .ite (joinerReturn_steady _ (handJoinerAbort_steady _ _ _ ?_)) h
    exact .ite (sendAbort_steady _ _ h) h
  · exact h

theorem endJoiner_steady (why : AbortReason) (h : Steady s t) : Steady s (endJoiner why t) := by
  unfold endJoiner
  split
  · refine settleBuffers_steady (handJoinerAbort_steady _ _ _ (Steady.setRole ?_ (.none _)))
    split
    · exact setRelation_steady _ _ (sendAbort_steady _ _ h)
    · exact sendAbort_steady _ _ h
  · exact h

theorem endSource_steady (r : SourceRole) (h : Steady s t) : Steady s (endSource r t) := by
  refine setRelation_steady _ _ ?_
  exact (h.setRole (.none t)).same rfl

theorem abortSource_steady (why : AbortReason) (tell : Bool) (h : Steady s t) : Steady s (abortSource why tell t) := by
  unfold abortSource
  split
  · exact hand_steady _ _ _ _ (endSource_steady _ (.ite (send_steady _ _ h) h))
  · exact h

theorem sendClose_steady {r : SourceRole} (cyc : Cycle) (target : Nat) (hr : t.repair.role = .source r) (h : Steady s t) :
    Steady s (sendClose r cyc target t) :=
  setRelation_steady _ _ ((send_steady _ _ h).setRole (.source (by simpa using hr)))

theorem closeIfDone_steady (h : Steady s t) : Steady s (closeIfDone t) := by
  unfold closeIfDone
  split
  · rename_i r hr
    refine .ite ?_ h
    split
    · exact sendClose_steady _ _ hr h
    · exact .ite (sendClose_steady _ _ hr h) h
    · exact h
  · exact h

theorem sendLine_steady (r : SourceRole) (f : LineFrame) (h : Steady s t) : Steady s (sendLine r f t) :=
  (send_steady _ _ h).setRole (.ofSource fun _ => satSucc_le _)

theorem clearDirty_steady (h : Steady s t) : Steady s (clearDirty t) := h.same rfl

theorem markLine_steady (o : Nat) (h : Steady s t) : Steady s (markLine o t) := by
  unfold markLine
  split <;> exact h.same rfl

/-! ### Changes of the channel state -/

theorem cancelVote_steady (h : Steady s t) : Steady s (cancelVote t) := emptySlots_steady (h.same rfl)

theorem endWalk_steady (h : Steady s t) : Steady s (endWalk t) := by
  unfold endWalk
  split
  · exact hand_steady _ _ _ _ (stopWalk_steady h)
  · exact stopWalk_steady h
  · exact h

theorem enterHalted_steady (c : Cause) (h : Steady s t) : Steady s (enterHalted c t) := by
  have record := setCounter_steady t.csr.committed (setC_steady t.csr.c (setCommitted_steady t.csr.committed
    (setState_steady .halted h)))
  have emptied := emptyJournal_steady (invalidateS_steady (setLatch_steady record))
  have ended := endJoiner_steady .joinerFault (abortSource_steady .sourceFault true
    (endWalk_steady (abandonRollback_steady (cancelVote_steady emptied))))
  have cleared := clearDirty_steady (ended.same (u := { endJoiner _ _ with repair.r := [] }) rfl)
  exact .ite cleared (handStateChange_steady _ _ cleared)

theorem recordFault_steady (u : Nat × Word) (h : Steady s t) : Steady s (recordFault u t) :=
  enterHalted_steady _ (setLatch_steady (hand_steady _ _ _ _ h))

theorem withdraw_steady (h : Steady s t) : Steady s (withdraw t) := by
  have out := abortSource_steady .sourceFault true
    (cancelVote_steady (emptySlots_steady (changeState_steady .out .withdrawal (setLatch_steady h))))
  exact .ite (beginPreparation_steady none (out.same rfl)) (beginPreparation_steady _ (requestRollback_steady _ out))

theorem abortSeal_steady (first : Nat) (h : Steady s t) : Steady s (abortSeal first t) :=
  hand_steady _ _ _ _ (changeState_steady _ _ (stopWalk_steady h))

theorem listBelow_steady (cursor : Nat) (as : List Nat) (h : Steady s t) : Steady s (listBelow cursor as t) := by
  induction as generalizing t with
  | nil => exact h
  | cons a as ih =>
    refine ih ?_
    split
    · exact .ite (listPoisoned_steady _ h) h
    · exact h

theorem vitalInOut_steady (by_ : ReadBy) (bad : List Nat) (h : Steady s t) : Steady s (vitalInOut by_ bad t) := by
  unfold vitalInOut
  split
  · refine .ite (.ite ?_ h) (.ite (restartPreparation_steady h) h)
    exact (listBelow_steady _ _ h).same rfl
  · exact h

theorem markSegments_steady (as : List Nat) (h : Steady s t) : Steady s (markSegments as t) := by
  induction as generalizing t with
  | nil => exact h
  | cons a as ih => exact ih (.ite (markSegment_steady a h) h)

theorem consequences_steady (by_ : ReadBy) (bad : List Nat) (h : Steady s t) : Steady s (consequences by_ bad t) := by
  have marked := markSegments_steady bad h
  unfold consequences
  dsimp only
  split
  · exact marked
  · split
    · exact withdraw_steady marked
    · exact withdraw_steady marked
    · exact withdraw_steady marked
    · exact abortSeal_steady _ marked
    · exact abortReceiving_steady _ _ marked
    · exact vitalInOut_steady _ _ marked
    all_goals exact marked

theorem heldWatch_steady (h : Steady s t) : Steady s (heldWatch t) := by
  unfold heldWatch
  refine .ite ?_ h
  split
  · exact recordFault_steady _ h
  · have marked : Steady s { t with
        vote.peer0.status := .agree, vote.peer0.arrival := none, vote.peer1.status := .agree, vote.peer1.arrival := none } :=
      h.same rfl
    exact handStateChange_steady _ _ (handAt_steady _ _ _ _ _ (beginPreparation_steady _ (requestRollback_steady _
      (abortSource_steady _ _ (emptySlots_steady (setState_steady .out marked))))))

theorem enterHeld_steady (h : Steady s t) : Steady s (enterHeld t) :=
  heldWatch_steady (emptySlots_steady (changeState_steady _ _ h))

theorem actOnResult_steady (why : Option RollbackReason) (r : RollbackResult) (h : Steady s t) :
    Steady s (actOnResult why r t) := by
  unfold actOnResult
  split
  · exact .ite (enterHeld_steady h) (enterHalted_steady _ h)
  · exact prepareResult_steady _ h
end
end Sys2Proof.Machine
end

section
namespace Sys2Proof.Machine
-- One proof after the other: side by side they pass the memory that the check allows.
set_option Elab.async false
section
variable {s t u : State}

/-! ### The vote -/

theorem toggleHealth_steady (h : Steady s t) : Steady s (toggleHealth t) := by
  unfold toggleHealth
  split
  · exact h
  · rename_i clear
    exact h.setEv (e := { t.ev with health := !t.ev.health }) fun set => absurd set clear

theorem agree_steady (h : Steady s t) : Steady s (agree t) := by
  have committed : Steady s (commitMaps (setCommitted t.vote.record.cycle (setC t.vote.record.snapshot (discardVoting t)))) :=
    (setCommitted_steady _ (setC_steady _ (discardVoting_steady h))).same rfl
  have toggled := toggleHealth_steady (.ite (c := t.csr.state = .sealed) (setState_steady .voting committed) committed)
  exact .ite
    (handStateChange_steady _ _ (.ite (handAt_steady _ _ _ _ _ toggled) (handAt_steady _ _ _ _ _ toggled)))
    (.ite (handAt_steady _ _ _ _ _ toggled) (handAt_steady _ _ _ _ _ toggled))

theorem localDissent_steady (h : Steady s t) : Steady s (localDissent t) :=
  handStateChange_steady _ _ (handAt_steady _ _ _ _ _ (beginPreparation_steady _ (requestRollback_steady _
    (abortSource_steady _ _ (emptySlots_steady (setState_steady _ h))))))

theorem noMajority_steady (h : Steady s t) : Steady s (noMajority t) := by
  have rolled := requestRollback_steady .noMajority (abortSource_steady .sourceState true (setLatch_steady h))
  have fallen (n : Cycle) := emptySlots_steady (setCounter_steady n rolled)
  unfold noMajority
  dsimp only
  split
  · exact actOnResult_steady _ _ (handAt_steady _ _ _ _ _ (fallen _))
  · exact handAt_steady _ _ _ _ _ (fallen _)

theorem markPeers_steady (m : Option Nat) (h : Steady s t) : Steady s (markPeers m t) := h.same rfl

theorem clearVote_steady (h : Steady s t) : Steady s (clearVote t) := h.same rfl

theorem actOnVote_steady (h : Steady s t) : Steady s (actOnVote t) := by
  unfold actOnVote
  refine .ite (agree_steady (markPeers_steady _ h)) ?_
  split
  · exact localDissent_steady (markPeers_steady _ h)
  · exact noMajority_steady (markPeers_steady _ h)

theorem resolveVote_steady (h : Steady s t) : Steady s (resolveVote t) := by
  unfold resolveVote
  split
  · exact recordFault_steady _ (clearVote_steady h)
  · exact clearVote_steady (actOnVote_steady h)

theorem resolveIfComplete_steady (h : Steady s t) : Steady s (resolveIfComplete t) := .ite (resolveVote_steady h) h

theorem sendSign_steady (h : Steady s t) : Steady s (sendSign t) := send_steady _ _ (send_steady _ _ h)

theorem countMark_steady (h : Steady s t) : Steady s (countMark t) := by
  unfold countMark
  split
  · rename_i r hr
    refine .ite (.ite (abortSource_steady _ _ ?_) (.ite (closeIfDone_steady ?_) ?_)) h
    all_goals exact h.setRole (.source hr)
  · exact h

theorem clearReported_steady (h : Steady s t) : Steady s (clearReported t) := h.same rfl

theorem openMark_steady (h : Steady s t) : Steady s (openMark t) := by
  have moved : Steady s (rotateMaps (moveBoundary (setCounter (openCycle t) t))) :=
    (moveBoundary_steady (setCounter_steady (openCycle t) h)).same rfl
  have opened := emptySlots_steady (moved.same (u := { clearReported { rotateMaps (moveBoundary (setCounter (openCycle t) t)) with
    vote.skewReported := false } with vote.record := openRecord (openCycle t) t }) rfl)
  exact countMark_steady (sendSign_steady opened)

theorem takeMark_steady (h : Steady s t) : Steady s (takeMark t) := resolveIfComplete_steady (openMark_steady h)

theorem markWord_steady (h : Steady s t) : Steady s (markWord t) := by
  unfold markWord
  refine .ite (clearReported_steady h) ?_
  split
  · exact recordFault_steady _ h
  · exact .ite (takeMark_steady h) (clearReported_steady h)

theorem reportSkew_steady (x : Identity) (m : Cycle) (how : Arrival) (h : Steady s t) : Steady s (reportSkew x m how t) := by
  unfold reportSkew
  split
  · exact h
  · exact (hand_steady _ _ _ _ h).same rfl

theorem parkSign_steady (x : Identity) (p : Parked) (h : Steady s t) : Steady s (parkSign x p t) := updPeer_steady _ _ h

theorem storeArrival_steady (x : Identity) (sg : Nat) (how : Arrival) (h : Steady s t) : Steady s (storeArrival x sg how t) := by
  unfold storeArrival
  split
  · exact .ite (resolveIfComplete_steady (by exact h.same rfl)) h
  · exact .ite (resolveIfComplete_steady (by exact h.same rfl)) h
  · exact h

theorem useSign_steady (x : Identity) (m : Cycle) (sg : Nat) (how : Arrival) (h : Steady s t) : Steady s (useSign x m sg how t) :=
  .ite (.ite (.ite (storeArrival_steady _ _ _ h) h) (.ite (parkSign_steady _ _ h) (.ite (reportSkew_steady _ _ _ h) h))) h

theorem updateReport_steady (x : Identity) (st : Option ChannelState) (k n : Cycle) (h : Steady s t) :
    Steady s (updateReport x st k n t) := heldWatch_steady (updPeer_steady _ _ h)

theorem forwardSign_steady (l : LinkId) (f : Frame) (h : Steady s t) : Steady s (forwardSign l f t) := by
  unfold forwardSign
  split
  · exact h
  · exact .ite h (sendFrame_steady _ _ h)

/-! ### The links -/

theorem enterHailing_steady (l : LinkId) (h : Steady s t) : Steady s (enterHailing l t) := by
  have hailing := updLink_steady l (f := fun k => { k with
    status := .hailing, heard := none, peer := none, silenceTimer := none, beatTimer := none, quietTimer := none
    hailTimer := if k.mode = .active then some Config.hailMs else none }) .same h
  exact .ite (sendHail_steady l hailing) hailing

theorem repairLinkLost_steady (l : LinkId) (x : Identity) (h : Steady s t) : Steady s (repairLinkLost l x t) := by
  unfold repairLinkLost
  split
  · exact .ite (abortSource_steady _ _ h) h
  · exact .ite (.ite (abortReceiving_steady _ _ h) h) (.ite (failTry_steady h) h)
  · exact h

theorem leaveUp_steady (l : LinkId) (c : LinkCause) (next : LinkStatus) (h : Steady s t) : Steady s (leaveUp l c next t) := by
  have left := updLink_steady l (f := fun k => { k with
    status := next, silenceTimer := none, beatTimer := none, buffer := [], holdSent := false, peerHolding := false }) .empty h
  unfold leaveUp
  dsimp only
  split
  · exact updLink_steady l .same (hand_steady _ _ _ _ (repairLinkLost_steady _ _ (updPeer_steady _ _ left)))
  · exact left

theorem enterUp_steady (l : LinkId) (x : Identity) (h : Steady s t) : Steady s (enterUp l x t) :=
  hand_steady _ _ _ _ (updPeer_steady _ _ (updLink_steady l .same h))

theorem enterMismatch_steady (l : LinkId) (v : Nat × Word) (h : Steady s t) : Steady s (enterMismatch l v t) := by
  have told := hand_steady .configMismatch v.1 (.link l) v.2
    (updLink_steady l (f := fun k => { k with status := .mismatch, heard := none }) .same h)
  exact .ite (sendHail_steady l told) told

theorem hailInHailing_steady (l : LinkId) (x : Hail) (h : Steady s t) : Steady s (hailInHailing l x t) := by
  have reported := updateReport_steady x.sender x.state x.counter x.committed h
  unfold hailInHailing
  split
  · exact enterMismatch_steady _ _ h
  · exact .ite (updLink_steady l .same reported) (.ite (sendHail_steady l (updLink_steady l .same reported))
      (.ite (enterUp_steady _ _ reported) (enterUp_steady _ _ (sendHail_steady l (updLink_steady l .same reported)))))

theorem hailInMismatch_steady (l : LinkId) (x : Hail) (h : Steady s t) : Steady s (hailInMismatch l x t) := by
  unfold hailInMismatch
  split
  · exact .ite (sendHail_steady l h) h
  · exact hailInHailing_steady l x (enterHailing_steady l h)

theorem restartSilence_steady (l : LinkId) (h : Steady s t) : Steady s (restartSilence l t) := updLink_steady l .same h

theorem hailInUp_steady (l : LinkId) (x : Hail) (h : Steady s t) : Steady s (hailInUp l x t) :=
  .ite (updateReport_steady _ _ _ _ (restartSilence_steady l h))
    (hailInHailing_steady l x (enterHailing_steady l (leaveUp_steady l _ _ h)))

theorem takeHail_steady (l : LinkId) (x : Hail) (h : Steady s t) : Steady s (takeHail l x t) := by
  unfold takeHail
  split
  · exact hailInHailing_steady l x h
  · exact hailInMismatch_steady l x h
  · exact hailInUp_steady l x h
  all_goals exact h

theorem countBad_steady (l : LinkId) (h : Steady s t) : Steady s (countBad l t) :=
  updLink_steady l ⟨id, fun _ => satSucc_le _, id⟩ h

theorem receiveFrame_steady (l : LinkId) (kind : FrameKind) (raw : List Byte) {use : Frame → State → State}
    (hu : ∀ f u, Steady s u → Steady s (use f u)) (h : Steady s t) : Steady s (receiveFrame l kind raw use t) := by
  unfold receiveFrame
  refine .ite h ?_
  split
  · exact countBad_steady l h
  · exact .ite h (.ite (hu _ _ h) (.ite h (.ite (countBad_steady l h) (hu _ _ (restartSilence_steady l h)))))

theorem enterDown_steady (l : LinkId) (h : Steady s t) : Steady s (enterDown l t) := by
  unfold enterDown
  dsimp only
  split
  · exact updLink_steady l .same (leaveUp_steady l _ _ h)
  · exact updLink_steady l .same h

theorem changeHailing_steady (l : LinkId) (m : LinkMode) (h : Steady s t) : Steady s (changeHailing l m t) := by
  unfold changeHailing
  split
  · exact .ite h (enterHailing_steady l h)
  · exact .ite (updLink_steady l .same (sendHail_steady l h)) (updLink_steady l .same h)
  · exact .ite (updLink_steady l .same (sendHail_steady l h)) (updLink_steady l .same h)
  all_goals exact h

theorem setMode_steady (l : LinkId) (m : LinkMode) (h : Steady s t) : Steady s (setMode l m t) := by
  have set := updLink_steady l (f := fun k => { k with mode := m }) .same h
  exact .ite h (.ite (enterDown_steady l set) (changeHailing_steady l m set))

theorem commitLink_steady (l : LinkId) (h : Steady s t) : Steady s (commitLink l t) :=
  .ite h (.ite (enterHailing_steady l (leaveUp_steady l _ _ h)) (enterHailing_steady l h))

theorem hailExpiry_steady (l : LinkId) (h : Steady s t) : Steady s (hailExpiry l t) :=
  .ite (updLink_steady l .same (sendHail_steady l h)) h

theorem quietExpiry_steady (l : LinkId) (h : Steady s t) : Steady s (quietExpiry l t) := .ite (enterHailing_steady l h) h

theorem silenceExpiry_steady (l : LinkId) (h : Steady s t) : Steady s (silenceExpiry l t) :=
  .ite (leaveUp_steady l _ _ (updLink_steady l .same h)) h

theorem beatExpiry_steady (l : LinkId) (h : Steady s t) : Steady s (beatExpiry l t) := .ite (send_steady _ _ h) h

/-! ### The exchange of repair frames -/

theorem takeAccept_steady (l : LinkId) (x : Identity) (h : Steady s t) : Steady s (takeAccept l x t) := by
  unfold takeAccept
  split
  · rename_i j hr
    exact .ite (changeState_steady _ _ (h.setRole (.ofJoiner (fun b => b.need j hr) fun _ => Nat.zero_le _))) (send_steady _ _ h)
  · exact send_steady _ _ h

theorem takeRefuse_steady (x : Identity) (why : RefuseReason) (h : Steady s t) : Steady s (takeRefuse x why t) := by
  unfold takeRefuse
  split
  · rename_i j hr
    refine .ite ?_ h
    split
    · exact sendRequest_steady _ (h.setRole (.ofJoiner (fun _ => Nat.zero_le _) fun c => c.written j hr))
    · exact failTry_steady h
    · exact failTry_steady h
  · exact h

theorem restartReceiveTimer_steady (l : LinkId) (h : Steady s t) : Steady s (restartReceiveTimer l t) := by
  unfold restartReceiveTimer
  split
  · exact .ite (h.setRole (.joiner ‹_›)) h
  · exact h

theorem holdIfFull_steady (l : LinkId) (h : Steady s t) : Steady s (holdIfFull l t) :=
  .ite (updLink_steady l .same (send_steady _ _ h)) h

theorem takeLine_steady (l : LinkId) (f : LineFrame) (h : Steady s t) : Steady s (takeLine l f t) := by
  have timed := restartReceiveTimer_steady l h
  have same : getLink (restartReceiveTimer l t) l = getLink t l := by cases l <;> simp [getLink]
  unfold takeLine
  dsimp only
  split
  · exact updLink_steady l ⟨id, id, fun _ => satSucc_le _⟩ timed
  · rename_i room
    refine dropLines_steady l (holdIfFull_steady l (updLink_steady l ⟨fun _ => ?_, id, id⟩ timed))
    rw [same]
    simp only [Config.bufferDepth] at room
    simp
    omega

theorem takeClose_steady (x : Identity) (cyc : Cycle) (lines : BitVec 32) (target : Word) (h : Steady s t) :
    Steady s (takeClose x cyc lines target t) := by
  unfold takeClose
  split
  · exact .ite (h.setRole (.joiner ‹_›)) h
  · exact h

theorem acceptRequest_steady (l : LinkId) (x : Identity) (base : Option Cycle) (r : List Nat) (h : Steady s t) :
    Steady s (acceptRequest l x base r t) := by
  refine closeIfDone_steady (hand_steady _ _ _ _ (send_steady _ _ (setRelation_steady _ _ ?_)))
  exact (h.setRole (.ofSource (x := { joiner := x, link := l, base := base, phase := .pass, cycles := 0, linesSent := 0
                                      scan := 0, captured := none
                                      holdTimer := if (getLink t l).peerHolding then some t.mgmt.params.holdLimit else none
                                      catchupTimer := none, verdictTimer := none, closeCycle := 0, target := 0 })
    fun _ => Nat.zero_le _)).same rfl

theorem takeRequest_steady (l : LinkId) (x : Identity) (base : Option Cycle) (need : List (BitVec 32)) (h : Steady s t) :
    Steady s (takeRequest l x base need t) := by
  unfold takeRequest
  refine .ite (send_steady _ _ h) (.ite (send_steady _ _ h) ?_)
  split
  · exact send_steady _ _ h
  · exact acceptRequest_steady _ _ _ _ h

theorem takeHold_steady (l : LinkId) (h : Steady s t) : Steady s (takeHold l t) := by
  have held := updLink_steady l (f := fun k => { k with peerHolding := true }) .same h
  unfold takeHold
  refine .ite h ?_
  dsimp only
  split
  · rename_i r hr
    exact .ite (held.setRole (.source (by simpa using hr))) held
  · exact held

theorem takeGo_steady (l : LinkId) (h : Steady s t) : Steady s (takeGo l t) := by
  have gone := updLink_steady l (f := fun k => { k with peerHolding := false }) .same h
  unfold takeGo
  refine .ite ?_ h
  dsimp only
  split
  · rename_i r hr
    refine .ite ?_ gone
    split
    · exact closeIfDone_steady (sendLine_steady _ _ gone)
    · exact gone.setRole (.source (by simpa using hr))
  · exact gone

theorem servedReturn_steady (h : Steady s t) : Steady s (servedReturn t) :=
  .ite (changeState_steady _ _ (setCounter_steady _ h)) h

theorem takeVerdict_steady (x : Identity) (v : Verdict) (h : Steady s t) : Steady s (takeVerdict x v t) := by
  unfold takeVerdict
  split
  · rename_i r _
    have told := hand_steady .repair (repairVerdict v) (.peer x) (wordOf r.linesSent) (endSource_steady r h)
    exact .ite (.ite (servedReturn_steady told) told) h
  · exact h

theorem takeAbort_steady (x : Identity) (why : AbortReason) (h : Steady s t) : Steady s (takeAbort x why t) := by
  unfold takeAbort
  split
  · exact .ite (abortSource_steady _ _ h) h
  · exact .ite (abortReceiving_steady _ _ h) h
  · exact h

theorem replyExpiry_steady (h : Steady s t) : Steady s (replyExpiry t) := by
  unfold replyExpiry
  split <;> [exact .ite (failTry_steady h) h; exact h]

theorem retryExpiry_steady (h : Steady s t) : Steady s (retryExpiry t) := by
  unfold retryExpiry
  split <;> [exact .ite (beginSequence_steady h) h; exact h]

theorem receiveExpiry_steady (h : Steady s t) : Steady s (receiveExpiry t) := by
  unfold receiveExpiry
  split <;> [exact .ite (abortReceiving_steady _ _ h) h; exact h]

theorem holdExpiry_steady (h : Steady s t) : Steady s (holdExpiry t) := by
  unfold holdExpiry
  split <;> [exact .ite (abortSource_steady _ _ h) h; exact h]

theorem catchupExpiry_steady (h : Steady s t) : Steady s (catchupExpiry t) := by
  unfold catchupExpiry
  split <;> [exact .ite (abortSource_steady _ _ h) h; exact h]

theorem verdictExpiry_steady (h : Steady s t) : Steady s (verdictExpiry t) := by
  unfold verdictExpiry
  split <;> [exact .ite (abortSource_steady _ _ h) h; exact h]

/-! ### Line sparing -/

theorem setRemap_steady (i : Nat) (e : RemapEntry) (h : Steady s t) : Steady s (setRemap i e t) :=
  h.setRemap (by simp)

theorem beginCopy_steady (i l : Nat) (h : Steady s t) : Steady s (beginCopy i l t) := by
  unfold beginCopy
  refine setRemap_steady _ _ ?_
  split
  · exact (setRemap_steady _ _ h).same rfl
  · exact h.same rfl

theorem beginTest_steady (i l : Nat) (h : Steady s t) : Steady s (beginTest i l t) := h.same rfl

theorem exhaust_steady (l : Nat) (h : Steady s t) : Steady s (exhaust l t) := by
  have denied := h.setSuspects (updSuspect_length l (fun e => { e with pending := false }) _) fun c =>
    CountsFit.updSuspect c _ fun _ e => e
  have cleared := denied.same (u := { t with
    spare.suspects := updSuspect l (fun e => { e with pending := false }) t.spare.suspects
    spare.op := { t.spare.op with kind := .idle } }) rfl
  exact .ite cleared (hand_steady _ _ _ _ (cleared.same rfl))

theorem chooseSpare_steady (l : Nat) (h : Steady s t) : Steady s (chooseSpare l t) := by
  unfold chooseSpare
  split
  · exact beginCopy_steady _ _ h
  · split
    · exact beginTest_steady _ _ h
    · exact exhaust_steady _ h

theorem servePending_steady (h : Steady s t) : Steady s (servePending t) := by
  unfold servePending
  refine .ite ?_ h
  split
  · exact chooseSpare_steady _ h
  · exact h

theorem spareFails_steady (d : Nat) (h : Steady s t) : Steady s (spareFails d t) :=
  chooseSpare_steady _ (hand_steady _ _ _ _ (setRemap_steady _ _ (by exact h.same rfl)))

theorem sparePasses_steady (h : Steady s t) : Steady s (sparePasses t) :=
  chooseSpare_steady _ (setRemap_steady _ _ (by exact h.same rfl))

theorem spareTestNext_steady (h : Steady s t) : Steady s (spareTestNext t) := by
  unfold spareTestNext
  refine .ite (h.same rfl) ?_
  split
  · exact h.same rfl
  · exact h.same rfl
  · exact sparePasses_steady h

theorem spareTestBody_steady (h : Steady s t) : Steady s (spareTestBody t) := by
  unfold spareTestBody
  dsimp only
  split
  · exact spareTestNext_steady (poke_steady _ _ h)
  · split
    · exact .ite (spareTestNext_steady h) (spareFails_steady _ h)
    · exact spareFails_steady _ h
    · exact spareFails_steady _ h

theorem removeSuspect_length (l : Nat) (x : List (Option Suspect)) : (removeSuspect l x).length = x.length := by
  unfold removeSuspect
  split <;> simp [moveUp_length]

theorem CountsFit.remove {x : List (Option Suspect)} (h : CountsFit x) (l : Nat) : CountsFit (removeSuspect l x) := by
  unfold removeSuspect
  split
  · exact h
  · refine CountsFit.moveUp (fun e he => ?_) _
    obtain ⟨o, ho, e'⟩ := List.mem_map.mp he
    split at e'
    · split at e'
      · cases e'
      · exact h e (e' ▸ ho)
    · cases e'

theorem copyComplete_steady (h : Steady s t) : Steady s (copyComplete t) := by
  have removed := setRemap_steady t.spare.op.spare (.active t.spare.op.target)
    (h.setSuspects (removeSuspect_length t.spare.op.target _) fun c => CountsFit.remove c _)
  exact (hand_steady .spareDone (if t.spare.op.source = t.spare.op.target then spareFirst else spareRespared)
    (.line t.spare.op.target) (wordOf (spareLine t t.spare.op.spare)) removed).same rfl

theorem copyAdvance_steady (h : Steady s t) : Steady s (copyAdvance t) := by
  have moved : Steady s { t with spare.op := { t.spare.op with cursor := t.spare.op.cursor + 1 } } := h.same rfl
  exact .ite moved (copyComplete_steady moved)

theorem copyWork_steady (h : Steady s t) : Steady s (copyWork t).1 := by
  have read := readWord_steady .copy (t.spare.op.target * 256 + t.spare.op.cursor) h
  unfold copyWork
  dsimp only
  split <;> exact copyAdvance_steady (poke_steady _ _ read)

theorem copyBody_steady (h : Steady s t) : Steady s (copyBody t) := consequences_steady _ _ (copyWork_steady h)

theorem retireSuspect_steady (l : Nat) {x : State} (hx : retireSuspect l t = some x) (h : Steady s t) : Steady s x := by
  unfold retireSuspect at hx
  split at hx
  · split at hx
    · obtain rfl := Option.some.inj hx
      exact h
    · obtain rfl := Option.some.inj hx
      exact hand_steady _ _ _ _ (h.setSuspects (updSuspect_length ..) fun c => CountsFit.updSuspect c _ fun _ e => e)
  · split at hx
    · rename_i y hy
      obtain rfl := Option.some.inj hx
      exact hand_steady _ _ _ _ (h.setSuspects (placeSuspect_length hy) fun c =>
        CountsFit.place c (Nat.one_le_ofNat (n := 15)) hy)
    · cases hx
end
end Sys2Proof.Machine
end

section
namespace Sys2Proof.Machine
-- One proof after the other: side by side they pass the memory that the check allows.
set_option Elab.async false
section
variable {s t u : State}

/-! ### The engines -/

theorem decaySuspects_length (x : List (Option Suspect)) : (decaySuspects x).length = x.length := by simp [decaySuspects]

theorem CountsFit.decay {x : List (Option Suspect)} (h : CountsFit x) : CountsFit (decaySuspects x) := by
  refine CountsFit.map (fun e he => ?_) fun _ e => e
  obtain ⟨o, ho, e'⟩ := List.mem_map.mp he
  cases o with
  | none => cases e'
  | some d =>
    have := h d ho
    simp only [decayEntry] at e'
    split at e'
    · split at e'
      · obtain rfl := Option.some.inj e'
        exact Nat.one_le_ofNat
      · cases e'
    · obtain rfl := Option.some.inj e'
      exact (Nat.sub_le ..).trans this

theorem passComplete_steady (h : Steady s t) : Steady s (passComplete t) := by
  have decayed := (h.setSuspects (decaySuspects_length _) fun c => CountsFit.decay c).same
    (u := { t with scrub.passCount := t.scrub.passCount + 1, spare.suspects := decaySuspects t.spare.suspects }) rfl
  have told (v : Word) := hand_steady .scrubPass 0 .none v decayed
  unfold passComplete
  dsimp only
  split
  · exact (told _).same rfl
  · exact told _

theorem scrubAdvance_steady (l w : Nat) (h : Steady s t) : Steady s (scrubAdvance l w t) := by
  unfold scrubAdvance
  refine .ite (h.same rfl) ?_
  split
  · exact h.same rfl
  · exact passComplete_steady h

theorem spendAllowance_steady (w : Nat) (h : Steady s t) : Steady s (spendAllowance w t) := .ite (h.same rfl) h

theorem scrubWork_steady (h : Steady s t) : Steady s (scrubWork t).1 := by
  unfold scrubWork
  split
  · exact h
  · exact scrubAdvance_steady _ _ (readWord_steady _ _ (spendAllowance_steady _ h))

theorem scrubBody_steady (h : Steady s t) : Steady s (scrubBody t) := consequences_steady _ _ (scrubWork_steady h)

theorem proofEnds_steady (st : ProofStatus) (v : Word) (h : Steady s t) : Steady s (proofEnds st v t) :=
  hand_steady _ _ _ _ (h.setProof (p := { t.scrub.proof with status := st }) id)

theorem proofFault_steady (a : Nat) (e f : Word) (how : FaultOutcome) (h : Steady s t) : Steady s (proofFault a e f how t) :=
  proofEnds_steady _ _ (h.setProof (p := { t.scrub.proof with faultAddr := a, expected := e, found := f, outcome := how }) id)

theorem proofNext_steady (h : Steady s t) : Steady s (proofNext t) := by
  unfold proofNext
  dsimp only
  refine .ite (h.setProof id) ?_
  split
  · exact h.setProof id
  · exact h.setProof id
  · exact .ite (h.setProof fun _ => satSucc_le _) (proofEnds_steady _ _ h)

theorem proofBody_steady (h : Steady s t) : Steady s (proofBody t) := by
  have read := readWord_steady .proofTest (t.scrub.proof.first * 256 + t.scrub.proof.position) h
  unfold proofBody
  dsimp only
  split
  · exact proofNext_steady (writeWord_steady _ _ h)
  · split
    · exact .ite (proofNext_steady read) (proofFault_steady _ _ _ _ read)
    · exact proofFault_steady _ _ _ _ read
    · exact consequences_steady _ _ (proofFault_steady _ _ _ _ read)

theorem initEnds_steady (st : InitStatus) (d : Nat) (h : Steady s t) : Steady s (initEnds st d t) :=
  hand_steady _ _ _ _ (by exact h.same rfl)

theorem initBody_steady (h : Steady s t) : Steady s (initBody t) := by
  have written := (writeWord_steady (t.scrub.init.first * 256 + t.scrub.init.written) 0 h).same
    (u := { writeWord (t.scrub.init.first * 256 + t.scrub.init.written) 0 t with
      scrub.init.written := t.scrub.init.written + 1 }) rfl
  exact .ite written (initEnds_steady _ _ written)

theorem stopEngine_steady (h : Steady s t) : Steady s (stopEngine t) :=
  .ite (proofEnds_steady _ _ h) (.ite (initEnds_steady _ _ h) h)

theorem rebuildWords_steady (o : Nat) (rs : List (Nat × ReadOutcome)) (h : Steady s t) : Steady s (rebuildWords o rs t) := by
  induction rs generalizing t with
  | nil => exact h
  | cons x rs ih =>
    obtain ⟨a, v | v | raw⟩ := x
    · exact ih (addHash_steady a v h)
    · exact ih (addHash_steady a v h)
    · exact ih (listPoisoned_steady o (addHash_steady a 0 (writeWord_steady a 0 h)))

theorem sealComplete_steady (h : Steady s t) : Steady s (sealComplete t) := by
  have signed := setC_steady t.sig.acc (h.same (u := { t with sig.s := t.sig.acc, sig.valid := true }) rfl)
  exact hand_steady _ _ _ _ (changeState_steady _ _ (stopWalk_steady (clearDirty_steady (emptySlots_steady
    (emptyJournal_steady (setCommitted_steady 0 (setCounter_steady 0 signed)))))))

theorem preparationComplete_steady (h : Steady s t) : Steady s (preparationComplete t) :=
  finishPreparation_steady (stopWalk_steady (by exact h.same rfl))

theorem walkDone_steady (h : Steady s t) : Steady s (walkDone t) := by
  unfold walkDone
  refine .ite h ?_
  split
  · exact sealComplete_steady h
  · exact preparationComplete_steady h
  · exact h

theorem rebuildBody_steady (h : Steady s t) : Steady s (rebuildBody t) := by
  unfold rebuildBody
  split
  · exact h
  · have read (l : Nat) := readWords_steady .rebuild (lineWords l) h
    refine .ite (consequences_steady _ _ (read _)) (walkDone_steady ?_)
    exact (rebuildWords_steady _ _ (read _)).same rfl

theorem finishRollback_steady (stop : Option Nat) (h : Steady s t) : Steady s (finishRollback stop t) :=
  actOnResult_steady _ _ (endRollback_steady stop h)

theorem rollbackPointers_steady (i : Nat) (h : Steady s t) : Steady s (rollbackPointers i t) := by
  refine rearmPressure_steady ?_
  split
  · exact h.setJnl (.inl (Nat.add_le_add_right (Nat.sub_le ..) _))
  · exact h.setJnl (.inl (Nat.add_le_add_left (Nat.sub_le ..) _))

theorem rollbackIfDone_steady (h : Steady s t) : Steady s (rollbackIfDone t) := .ite (finishRollback_steady none h) h

theorem undoEntry_steady (i a : Nat) (v : Word) (h : Steady s t) : Steady s (undoEntry i a v t) := by
  have read := readWord_steady .rollback a h
  unfold undoEntry
  dsimp only
  split
  · exact rollbackIfDone_steady (rollbackPointers_steady i (writeWord_steady a v (updateS_steady _ _ _ read)))
  · exact rollbackIfDone_steady (rollbackPointers_steady i (writeWord_steady a v (updateS_steady _ _ _ read)))
  · exact rollbackIfDone_steady (consequences_steady _ _ (rollbackPointers_steady i (writeWord_steady a v read)))

theorem rollbackBody_steady (h : Steady s t) : Steady s (rollbackBody t) := by
  have read (as : List Nat) := readWords_steady .rollback as h
  unfold rollbackBody
  dsimp only
  split
  · exact .ite (undoEntry_steady _ _ _ (read _)) (finishRollback_steady _ (markNewest_steady (read _)))
  · exact finishRollback_steady _ (consequences_steady _ _ (read _))

theorem raiseInt_steady (k : EventKind) (h : Steady s t) : Steady s (raiseInt k t) := .ite (h.same rfl) h

theorem eventBody_steady (h : Steady s t) : Steady s (eventBody t) := by
  unfold eventBody
  split
  · exact h
  · rename_i e _ _
    refine raiseInt_steady _ ?_
    exact (writeWords_steady (recordWords (eventSlot t t.ev.producer) e) h).same (by simp [tracked])

theorem handCaptured_steady {r : SourceRole} (f : LineFrame) (hr : t.repair.role = .source r) (h : Steady s t) :
    Steady s (handCaptured r f t) := .ite (h.setRole (.source hr)) (sendLine_steady _ _ h)

theorem captureWork_steady (h : Steady s t) : Steady s (captureWork t).1 := by
  unfold captureWork
  split
  · rename_i r hr
    split
    · exact h
    · rename_i o _
      split
      · exact h
      · rename_i l _
        have read := readWords_steady .capture (lineWords l) h
        have held : (readWords .capture (lineWords l) t).2.repair.role = .source r := by simpa using hr
        dsimp only
        generalize readWords .capture (lineWords l) t = rd at read held
        have scanned := (read.setRole (.source (x := { r with scan := o + 1 }) held)).same
          (u := { rd.2 with repair.r := setErase o t.repair.r, repair.role := .source { r with scan := o + 1 } }) rfl
        split
        · exact handCaptured_steady _ rfl scanned
        · exact scanned
  · exact h

theorem captureBody_steady (h : Steady s t) : Steady s (captureBody t) :=
  closeIfDone_steady (consequences_steady _ _ (captureWork_steady h))

theorem countLine_steady (h : Steady s t) : Steady s (countLine t) := by
  unfold countLine
  split
  · rename_i j hr
    exact h.setRole (.ofJoiner (fun b => b.need j hr) fun _ => satSucc_le _)
  · exact h

theorem receiveBody_steady (h : Steady s t) : Steady s (receiveBody t) := by
  have read (l : Nat) := readWords_steady .receive (lineWords l) h
  unfold receiveBody
  (repeat' split) <;> try exact h
  exact consequences_steady _ _ (dropLines_steady _ (leaveBuffer_steady _ _ (countLine_steady (writeWords_steady _
    (updateWordsS_steady _ (read _))))))

theorem joinerMatch_steady (j : JoinerRole) (h : Steady s t) : Steady s (joinerMatch j t) := by
  have taken := emptySlots_steady (clearDirty_steady (emptyJournal_steady (setC_steady t.sig.s
    (setCommitted_steady j.closeCycle (setCounter_steady j.closeCycle h)))))
  refine settleBuffers_steady (handStateChange_steady _ _ (hand_steady _ _ _ _ (setState_steady _ ?_)))
  have told (v : Verdict) (l : LinkId) := send_steady l (.verdict v) taken
  cases hl : j.link <;> cases hs : j.source
  · exact taken.setRole (.none _)
  · exact setRelation_steady _ _ (taken.setRole (.none _))
  · exact (told _ _).setRole (.none _)
  · exact setRelation_steady _ _ ((told _ _).setRole (.none _))

theorem joinerMismatch_steady (j : JoinerRole) (h : Steady s t) : Steady s (joinerMismatch j t) := by
  refine joinerReturn_steady _ (hand_steady _ _ _ _ ?_)
  split
  · exact send_steady _ _ h
  · exact h

theorem giveVerdict_steady (h : Steady s t) : Steady s (giveVerdict t) := by
  unfold giveVerdict
  split
  · exact .ite (.ite (joinerMatch_steady _ h) (joinerMismatch_steady _ h)) h
  · exact h

/-! ### Grants and the events over them -/

theorem answerHead_steady (r : Response) (h : Steady s t) : Steady s (answerHead r t) := by
  refine Steady.setPort (respond_steady r h) ?_ id
  exact List.tail_sublist _

theorem uncorrectableHead_steady (x : Transaction) (bad : List Nat) (h : Steady s t) : Steady s (uncorrectableHead x bad t) :=
  answerHead_steady _ (by exact h.same rfl)

theorem readWork_steady (x : Transaction) (h : Steady s t) : Steady s (readWork x t).1 := by
  have read := readWords_steady .processor (transactionWords x) h
  unfold readWork
  dsimp only
  split
  · exact answerHead_steady _ read
  · exact uncorrectableHead_steady _ _ read

theorem trackedWrite_steady (o : Nat) (cs : List (Nat × Word × Word)) (h : Steady s t) : Steady s (trackedWrite o cs t) :=
  writeWords_steady _ (markLine_steady o (updateWordsS_steady cs (appendEntries_steady _ _ _ h)))

theorem sealingWrite_steady (o : Nat) (cs : List (Nat × Word × Word)) (h : Steady s t) : Steady s (sealingWrite o cs t) :=
  writeWords_steady _ (.ite (updateWordsAcc_steady cs h) h)

theorem carryOut_steady (o : Option Nat) (cs : List (Nat × Word × Word)) (h : Steady s t) : Steady s (carryOut o cs t) := by
  unfold carryOut
  split
  · exact writeWords_steady _ h
  · exact .ite h (.ite (trackedWrite_steady _ _ h) (.ite (sealingWrite_steady _ _ h) (writeWords_steady _ h)))

theorem writeWork_steady (x : Transaction) (h : Steady s t) : Steady s (writeWork x t).1 := by
  have read (as : List Nat) := readWords_steady .processor as h
  unfold writeWork
  dsimp only
  split
  · exact answerHead_steady _ (carryOut_steady _ _ (read _))
  · exact uncorrectableHead_steady _ _ (read _)

theorem headWork_steady (h : Steady s t) : Steady s (headWork t).1 := by
  unfold headWork
  split
  · exact h
  · rename_i x _ _
    cases x <;> [exact readWork_steady _ h; exact writeWork_steady _ h]

theorem processorBody_steady (h : Steady s t) : Steady s (processorBody t) := consequences_steady _ _ (headWork_steady h)

theorem grantWork_steady (r : Requester) (h : Steady s t) : Steady s (grantWork r t).1 := by
  cases r
  case processor => exact headWork_steady h
  case eventWrite => exact eventBody_steady h
  case rollback => exact rollbackBody_steady h
  case receiveWrite => exact receiveBody_steady h
  case lineCapture => exact captureWork_steady h
  case copy => exact copyWork_steady h
  case rebuild => exact rebuildBody_steady h
  case spareTest => exact spareTestBody_steady h
  case proof => exact proofBody_steady h
  case init => exact initBody_steady h
  case scrub => exact scrubWork_steady h

theorem followGrant_steady (r : Requester) (h : Steady s t) : Steady s (followGrant r t) := .ite (closeIfDone_steady h) h

theorem grantBody_steady (r : Requester) (h : Steady s t) : Steady s (grantBody r t) :=
  followGrant_steady r (consequences_steady _ _ (grantWork_steady r h))

theorem endGrant_steady (h : Steady s t) : Steady s (endGrant t) := by
  unfold endGrant
  split
  · exact grantBody_steady _ (by exact h.same rfl)
  · exact h

theorem lateConsequences_steady (was : ChannelState) (by_ : ReadBy) (bad : List Nat) (h : Steady s t) :
    Steady s (lateConsequences was by_ bad t) := by
  have marked := markSegments_steady bad h
  exact .ite (consequences_steady _ _ h) (.ite (setLatch_steady marked) marked)

theorem overGrant_steady {event : State → State} (he : ∀ u, Steady s u → Steady s (event u)) (h : Steady s t) :
    Steady s (overGrant event t) := by
  unfold overGrant
  split
  · exact he _ h
  · have work (r : Requester) : Steady s (grantWork r { t with arb.grant := none }).1 :=
      grantWork_steady r (by exact h.same rfl)
    exact followGrant_steady _ (.ite (he _ (consequences_steady _ _ (work _))) (lateConsequences_steady _ _ _ (he _ (work _))))

theorem during_steady {event : State → State} (he : ∀ u, Steady s u → Steady s (event u)) (h : Steady s t) :
    Steady s (during event t) := .ite (overGrant_steady he h) (he _ h)

theorem behindHead_steady (h : Steady s t) : Steady s (behindHead t) := .ite (endGrant_steady h) h

theorem runGrant_steady (r : Requester) {body : State → State} (hb : ∀ u, Steady s u → Steady s (body u)) (h : Steady s t) :
    Steady s (runGrant r body t) := by
  unfold runGrant
  split
  · exact .ite (hb _ (by exact h.same rfl)) h
  · exact .ite (hb _ h) h
end
end Sys2Proof.Machine
end

section
namespace Sys2Proof.Machine
-- One proof after the other: side by side they pass the memory that the check allows.
set_option Elab.async false
section
variable {s t u : State}

theorem Kept.same (e : tracked t = tracked s) : Kept s t := (Steady.same (.refl s) e).toKept

/-! ### The commands -/

theorem resultWords_length (ws : List Word) : (resultWords ws).length = 16 := by simp [resultWords]

theorem finish_steady (ws : List Word) (h : Steady s t) : Steady s (finish ws t) :=
  h.setMgmt id (fun _ => id) fun _ => resultWords_length ws

theorem refuse_steady (c : RefusalCode) (h : Steady s t) : Steady s (refuse c t) := h.setMgmt id (fun _ => id) id

theorem runLoadRegion_steady (h : Steady s t) : Steady s (runLoadRegion t) := by
  unfold runLoadRegion
  refine .ite (refuse_steady _ h) (.ite (refuse_steady _ h) ?_)
  split
  · exact refuse_steady _ h
  · exact finish_steady _ (h.setLoaded (List.length_set ..))

theorem runClearRegion_steady (h : Steady s t) : Steady s (runClearRegion t) :=
  .ite (refuse_steady _ h) (.ite (refuse_steady _ h) (finish_steady _ (h.setLoaded (List.length_set ..))))

theorem runSetKeys_steady (h : Steady s t) : Steady s (runSetKeys t) :=
  .ite (refuse_steady _ h) (.ite (finish_steady _ (by exact h.same rfl)) (refuse_steady _ h))

theorem setClamped_steady (w : Bool) (lo hi v : Nat) (put : Params → Nat → Params) (h : Steady s t) :
    Steady s (setClamped w lo hi v put t) := .ite (finish_steady _ (by exact h.same rfl)) (refuse_steady _ h)

theorem setChannelId_steady (v : Nat) (h : Steady s t) : Steady s (setChannelId v t) := by
  unfold setChannelId
  refine .ite (refuse_steady _ h) ?_
  split
  · exact refuse_steady _ h
  · exact finish_steady _ (by exact h.same rfl)

theorem setMemoryLines_steady (v : Nat) (h : Steady s t) : Steady s (setMemoryLines v t) :=
  .ite (refuse_steady _ h) (.ite (refuse_steady _ h) (finish_steady _ (by exact h.same rfl)))

theorem setLinkMode_steady (l : LinkId) (v : Nat) (h : Steady s t) : Steady s (setLinkMode l v t) := by
  unfold setLinkMode
  split
  · exact refuse_steady _ h
  · exact finish_steady _ (during_steady (fun _ => setMode_steady _ _) h)

theorem setIntMask_steady (v : Word) (h : Steady s t) : Steady s (setIntMask v t) := finish_steady _ (by exact h.same rfl)

theorem runSetParameter_steady (h : Steady s t) : Steady s (runSetParameter t) := by
  unfold runSetParameter
  dsimp only
  split
  case h_1 => exact setChannelId_steady _ h
  case h_2 => exact setMemoryLines_steady _ h
  case h_15 => exact setLinkMode_steady _ _ h
  case h_16 => exact setLinkMode_steady _ _ h
  case h_17 => exact setIntMask_steady _ h
  case h_18 => exact refuse_steady _ h
  all_goals exact setClamped_steady _ _ _ _ _ h

theorem waitForGrant_steady (d : Deferred) (h : Steady s t) : Steady s (waitForGrant d t) := h.same rfl

theorem releaseRoles_steady (h : Steady s t) : Steady s (releaseRoles t) :=
  (endJoiner_steady .released (abortSource_steady .released true h)).same rfl

theorem releaseState_steady (h : Steady s t) : Steady s (releaseState t) := by
  have emptied := clearDirty_steady ((emptyJournal_steady h).same (u := { emptyJournal t with repair.r := [] }) rfl)
  have unlisted := emptied.setSig (g := { t.sig with poisoned := [], overflow := false }) fun _ => Nat.zero_le _
  exact emptySlots_steady (setC_steady 0 (setCommitted_steady 0 (setCounter_steady 0 (invalidateS_steady unlisted))))

theorem releaseEffect_steady (h : Steady s t) : Steady s (releaseEffect t) := by
  have freed := releaseState_steady (stopEngine_steady (endWalk_steady (abandonRollback_steady (cancelVote_steady
    (releaseRoles_steady h)))))
  exact finish_steady _ (.ite freed (changeState_steady _ _ freed))

theorem stopTestEffect_steady (h : Steady s t) : Steady s (stopTestEffect t) := finish_steady _ (stopEngine_steady h)

/-- The loaded table becomes the committed one, and the journal is empty in the new table. -/
theorem commitTable_steady (h : Steady s t) :
    Steady s { t with regions.committed := t.regions.loaded, jnl := { JournalUnit.reset with rb := t.jnl.rb } } :=
  h.trans ⟨⟨id, id, fun b => { b with committed := b.loaded, journal := Nat.zero_le _ }, fun _ c => { c with }⟩,
    fun l => ⟨l, rfl⟩, fun _ e => e⟩

theorem commitTablesOnly_steady (h : Steady s t) : Steady s (commitTablesOnly t) := by
  have suspects := (commitTable_steady h).setSuspects (x := List.replicate 16 none)
  have fresh : Steady s { t with
      regions.committed := t.regions.loaded, jnl := { JournalUnit.reset with rb := t.jnl.rb }
      spare.suspects := List.replicate 16 none, spare.remap := List.replicate 32 .untested } :=
    h.trans ⟨⟨id, id, fun b => { b with
        committed := b.loaded, journal := Nat.zero_le _, suspects := rfl, remap := rfl
        suspectCounts := fun e he => by cases List.eq_of_mem_replicate he }, fun _ c => { c with }⟩,
      fun l => ⟨l, rfl⟩, fun _ e => e⟩
  exact fresh.same rfl

theorem commitEffect_steady (h : Steady s t) : Steady s (commitEffect t) := by
  have linked := commitLink_steady .link2 (commitLink_steady .link1 (commitTablesOnly_steady h))
  have configured := emptySlots_steady (setC_steady 0 (setCommitted_steady 0 (setCounter_steady 0
    (setState_steady .configured linked))))
  exact finish_steady _ (.ite configured (handStateChange_steady _ _ configured))

theorem deferredEffect_steady (d : Deferred) (h : Steady s t) : Steady s (deferredEffect d t) := by
  cases d
  case release => exact releaseEffect_steady h
  case stopTest => exact stopTestEffect_steady h
  case commitTables => exact commitEffect_steady h

theorem deferOrDo_steady (d : Deferred) (h : Steady s t) : Steady s (deferOrDo d t) := by
  unfold deferOrDo
  split
  · exact waitForGrant_steady d h
  · exact deferredEffect_steady d h

theorem runCommitTables_steady (h : Steady s t) : Steady s (runCommitTables t) := by
  unfold runCommitTables
  refine .ite (refuse_steady _ h) (.ite (refuse_steady _ h) ?_)
  split
  · exact refuse_steady _ (h.setMgmt id (fun _ => id) fun _ => resultWords_length _)
  · exact deferOrDo_steady _ h

theorem runStopTest_steady (h : Steady s t) : Steady s (runStopTest t) := deferOrDo_steady _ h

theorem runRelease_steady (h : Steady s t) : Steady s (runRelease t) := .ite (refuse_steady _ h) (deferOrDo_steady _ h)

theorem runMemInit_steady (h : Steady s t) : Steady s (runMemInit t) :=
  .ite (refuse_steady _ h) (.ite (refuse_steady _ h) (.ite (refuse_steady _ h) (finish_steady _ (by exact h.same rfl))))

theorem runProofTest_steady (h : Steady s t) : Steady s (runProofTest t) :=
  .ite (refuse_steady _ h) (.ite (refuse_steady _ h) (.ite (refuse_steady _ h)
    (finish_steady _ (h.setProof fun _ => Nat.zero_le _))))

theorem runSeal_steady (h : Steady s t) : Steady s (runSeal t) :=
  .ite (refuse_steady _ h) (.ite (refuse_steady _ h) (finish_steady _ (startWalk_steady _ (changeState_steady _ _ h))))

theorem restoreRetries_steady (h : Steady s t) : Steady s (restoreRetries t) := by
  unfold restoreRetries
  split <;> [exact h.setRole (.joiner ‹_›); exact h]

theorem joinFresh_steady (h : Steady s t) : Steady s (joinFresh t) := by
  refine prepareSignature_steady (restoreRetries_steady ?_)
  exact (emptySlots_steady (changeState_steady _ _ h)).setRole (.ofJoiner (fun _ => Nat.zero_le _) fun _ => Nat.zero_le _)

theorem joinAgain_steady (h : Steady s t) : Steady s (joinAgain t) := by
  have restored := restoreRetries_steady h
  unfold joinAgain
  dsimp only
  split <;> [exact .ite (beginSequence_steady restored) restored; exact restored]

theorem runJoin_steady (h : Steady s t) : Steady s (runJoin t) :=
  .ite (.ite (refuse_steady _ h) (finish_steady _ (joinFresh_steady h)))
    (.ite (finish_steady _ (joinAgain_steady h)) (refuse_steady _ h))

theorem runResume_steady (h : Steady s t) : Steady s (runResume t) :=
  .ite (refuse_steady _ h) (finish_steady _ (changeState_steady _ _ (setCounter_steady _ h)))

theorem runRetireLine_steady (h : Steady s t) : Steady s (runRetireLine t) := by
  unfold runRetireLine
  refine .ite (refuse_steady _ h) ?_
  split
  · exact refuse_steady _ h
  · split
    · exact refuse_steady _ h
    · exact finish_steady _ (retireSuspect_steady _ ‹_› h)

theorem handSummary_steady (h : Steady s t) : Steady s (handSummary t) := h.same rfl

theorem acknowledge_steady (n : Nat) (h : Steady s t) : Steady s (acknowledge n t) := by
  have moved : Steady s { t with
      ev.consumer := n, ev.kinds := t.ev.kinds.drop (ringDistance n t.ev.consumer (eventCapacity t)), ev.intLevel := false
      ev.intBusy := false } := h.same rfl
  unfold acknowledge
  dsimp only
  split
  · exact .ite ((handSummary_steady moved).same rfl) (handSummary_steady moved)
  · exact .ite (moved.same rfl) moved

theorem runEventAck_steady (h : Steady s t) : Steady s (runEventAck t) :=
  .ite (refuse_steady _ h) (.ite (refuse_steady _ h) (.ite (refuse_steady _ h) (finish_steady _ (acknowledge_steady _ h))))

theorem runForceFault_steady (h : Steady s t) : Steady s (runForceFault t) := finish_steady _ (setLatch_steady h)

theorem engineRead_steady (h : Steady s t) : Steady s (engineRead t) := by
  unfold engineRead
  dsimp only
  split
  · exact .ite h (h.same rfl)
  · exact .ite (h.setProof (p := { t.scrub.proof with status := .idle }) id)
      ((h.setProof (p := { t.scrub.proof with status := .idle }) id).same rfl)

theorem runReadStatus_steady (h : Steady s t) : Steady s (runReadStatus t) := by
  unfold runReadStatus
  split
  case h_5 => exact finish_steady _ (engineRead_steady h)
  case h_10 => exact refuse_steady _ h
  all_goals exact finish_steady _ h

theorem clearCounters_steady (h : Steady s t) : Steady s (clearCounters t) :=
  h.trans ⟨⟨id, id, fun b => { b with corrected := rfl }, fun _ c => { c with
      corrected := fun n hn => by simp [List.eq_of_mem_replicate hn]
      uncorrectable := Nat.zero_le _, refused := Nat.zero_le _, bad1 := Nat.zero_le _, bad2 := Nat.zero_le _
      discards1 := Nat.zero_le _, discards2 := Nat.zero_le _ }⟩, fun l => ⟨l, rfl⟩, fun _ e => e⟩

theorem runReadCounters_steady (h : Steady s t) : Steady s (runReadCounters t) := by
  unfold runReadCounters
  split
  · exact refuse_steady _ h
  · exact finish_steady _ (.ite (clearCounters_steady h) h)

theorem runReadEntry_steady (h : Steady s t) : Steady s (runReadEntry t) := by
  unfold runReadEntry
  split
  · exact refuse_steady _ h
  · exact finish_steady _ h

/-- CLEAR-FAULT keeps every invariant; it is the one command that clears the latch. -/
theorem runClearFault_kept (s : State) : Kept s (runClearFault s) := by
  have cleared : Kept s { s with ev.faultLatch := false } :=
    ⟨id, id, fun b => { b with }, fun _ c => { c with }⟩
  exact cleared.trans (finish_steady [] (.refl _)).toKept

/-- Every command but CLEAR-FAULT is steady. -/
theorem runCommand_steady (hc : t.mgmt.command.toNat ≠ 19) (h : Steady s t) : Steady s (runCommand t) := by
  unfold runCommand
  split
  case h_1 => exact runLoadRegion_steady h
  case h_2 => exact runClearRegion_steady h
  case h_3 => exact runSetKeys_steady h
  case h_4 => exact runSetParameter_steady h
  case h_5 => exact runCommitTables_steady h
  case h_6 => exact runMemInit_steady h
  case h_7 => exact runProofTest_steady h
  case h_8 => exact runStopTest_steady h
  case h_9 => exact runSeal_steady h
  case h_10 => exact runJoin_steady h
  case h_11 => exact runResume_steady h
  case h_12 => exact runRelease_steady h
  case h_13 => exact runRetireLine_steady h
  case h_14 => exact runEventAck_steady h
  case h_15 => exact runReadStatus_steady h
  case h_16 => exact runReadCounters_steady h
  case h_17 => exact runReadEntry_steady h
  case h_18 => exact runForceFault_steady h
  case h_19 => exact absurd ‹_› hc
  case h_20 => exact refuse_steady _ h

theorem runCommand_kept (s : State) : Kept s (runCommand s) := by
  by_cases hc : s.mgmt.command.toNat = 19
  · rw [runCommand, hc]
    exact runClearFault_kept s
  · exact (runCommand_steady hc (.refl s)).toKept

theorem acceptIssue_steady (h : Steady s t) : Steady s (acceptIssue t) :=
  h.setMgmt id (fun a _ => a) fun _ => resultWords_length []

theorem issueWith_steady {run : State → State} (hr : ∀ u, Steady s u → Steady s (run u)) (h : Steady s t) :
    Steady s (issueWith run t) := .ite (h.same rfl) (hr _ (acceptIssue_steady h))

theorem issueWith_kept {run : State → State} (hr : ∀ u, Kept u (run u)) (s : State) : Kept s (issueWith run s) := by
  unfold issueWith
  split
  · exact Kept.same rfl
  · exact (acceptIssue_steady (.refl s)).toKept.trans (hr _)

theorem placeWords_steady {ws : List Word} (hw : ws.length ≤ 16) (h : Steady s t) : Steady s (placeWords ws t) :=
  h.setMgmt (fun a => by simp [a]; omega) (fun _ => id) id

theorem giveCommand_steady (code : Nat) {args : List Word} {run : State → State} (ha : args.length ≤ 15)
    (hr : ∀ u, Steady s u → Steady s (run u)) (h : Steady s t) : Steady s (giveCommand code args run t) :=
  issueWith_steady hr (placeWords_steady (by simp; omega) (behindHead_steady h))

/-! ### The processor port -/

theorem recordRefusal_steady (x : Transaction) (r : RefuseAccess) (h : Steady s t) : Steady s (recordRefusal x r t) := by
  have counted := h.setPort (p := { t.port with
    lastRefusal := { reason := some r, addr := byteAddr x.firstWord, direction := x.direction }
    refused := satSucc t.port.refused }) (List.Sublist.refl _) fun _ => satSucc_le _
  exact .ite counted ((hand_steady .accessRefused r.code (refusalSubject x t) _ counted).same rfl)

theorem refuseHead_steady (x : Transaction) (r : RefuseAccess) (h : Steady s t) : Steady s (refuseHead x r t) :=
  answerHead_steady _ (recordRefusal_steady x r h)

theorem writeArea_steady (i : Nat) (w : WriteWord) (h : Steady s t) : Steady s (writeArea i w t) :=
  h.setMgmt (fun a => by simpa using a) (fun _ => id) id

theorem landCommit_steady (h : Steady s t) : Steady s (landCommit t) := by
  unfold landCommit
  split
  · exact deferredEffect_steady _ (by exact h.same rfl)
  · exact h

theorem markDuring_steady (h : Steady s t) : Steady s (markDuring t) := by
  unfold markDuring
  split
  · exact .ite (markWord_steady h) (overGrant_steady (fun _ k => recordFault_steady _ (landCommit_steady k)) h)
  · exact .ite (during_steady (fun _ => resolveIfComplete_steady) (during_steady (fun _ => openMark_steady) h)) (markWord_steady h)

theorem apertureEffect_kept (i : Nat) (w : WriteWord) (s : State) : Kept s (apertureEffect i w s) := by
  unfold apertureEffect
  split
  · exact (writeArea_steady i w (.refl s)).toKept
  · split
    · exact issueWith_kept runCommand_kept s
    · split
      · exact (markDuring_steady (.refl s)).toKept
      · exact .refl s

theorem apertureEffects_kept (ws : List (Nat × WriteWord)) (s : State) : Kept s (apertureEffects ws s) := by
  induction ws generalizing s with
  | nil => exact .refl s
  | cons w ws ih => exact (apertureEffect_kept w.1 w.2 s).trans (ih _)

theorem apertureHead_kept (x : Transaction) (s : State) : Kept s (apertureHead x s) := by
  cases x with
  | read a n => exact (answerHead_steady _ (.refl s)).toKept
  | write a ws => exact (apertureEffects_kept _ s).trans (answerHead_steady _ (.refl _)).toKept

theorem grantHead_steady (h : Steady s t) : Steady s (grantHead t) := .ite (h.same rfl) (h.same rfl)

theorem decideHead_kept (s : State) : Kept s (decideHead s) := by
  unfold decideHead
  split
  · exact .refl s
  · split
    · exact .refl s
    · split
      · exact (refuseHead_steady _ _ (.refl s)).toKept
      · exact Kept.same rfl
      · exact apertureHead_kept _ s
      · exact (grantHead_steady (.refl s)).toKept

theorem settle_kept (s : State) : Kept s (settle s) := by
  unfold settle
  split
  · split
    · exact (Kept.same (s := s) (t := { s with port.held := none }) rfl).trans (decideHead_kept _)
    · exact Kept.same rfl
  · exact .refl s

theorem decideNext_kept (s : State) : Kept s (decideNext s) := by
  unfold decideNext
  split
  · exact settle_kept s
  · exact decideHead_kept s

/-! ### Every command -/

theorem acceptTransaction_kept (x : Transaction) (s : State) : Kept s (acceptTransaction x s) := by
  unfold acceptTransaction
  split
  · rename_i room
    exact ⟨id, id, fun b => { b with queue := by rw [List.length_append]; exact room }, fun _ c => { c with }⟩
  · exact .refl s

theorem processorGrant_steady (d : Direction) (h : Steady s t) : Steady s (processorGrant d t) :=
  .ite (runGrant_steady _ (fun _ => processorBody_steady) h) h

theorem rollbackStep_steady (h : Steady s t) : Steady s (rollbackStep t) :=
  .ite (during_steady (fun _ => finishRollback_steady _) h) (runGrant_steady _ (fun _ => rollbackBody_steady) h)

theorem runDeferred_steady (h : Steady s t) : Steady s (runDeferred t) := by
  unfold runDeferred
  split
  · exact deferredEffect_steady _ (by exact h.same rfl)
  · exact h

theorem decideMark_steady (h : Steady s t) : Steady s (decideMark t) := .ite h (markDuring_steady h)

theorem windowExpiry_steady (h : Steady s t) : Steady s (windowExpiry t) :=
  .ite (overGrant_steady (fun _ k => .ite (resolveVote_steady k) k) h) h

theorem useHail_steady (l : LinkId) (f : Frame) (h : Steady s t) : Steady s (useHail l f t) := by
  unfold useHail
  split <;> [exact takeHail_steady _ _ h; exact h]

theorem useBeat_steady (f : Frame) (h : Steady s t) : Steady s (useBeat f t) := by
  unfold useBeat
  split <;> [exact updateReport_steady _ _ _ _ h; exact h]

theorem useSignFrame_steady (l : LinkId) (f : Frame) (h : Steady s t) : Steady s (useSignFrame l f t) := by
  unfold useSignFrame
  split
  · exact .ite h (useSign_steady _ _ _ _ (forwardSign_steady _ _ (updateReport_steady _ _ _ _ h)))
  · exact h

theorem useRequest_steady (l : LinkId) (f : Frame) (h : Steady s t) : Steady s (useRequest l f t) := by
  unfold useRequest
  split <;> [exact takeRequest_steady _ _ _ _ h; exact h]

theorem useAccept_steady (l : LinkId) (f : Frame) (h : Steady s t) : Steady s (useAccept l f t) := by
  unfold useAccept
  split <;> [exact takeAccept_steady _ _ h; exact h]

theorem useRefuse_steady (f : Frame) (h : Steady s t) : Steady s (useRefuse f t) := by
  unfold useRefuse
  split <;> [exact takeRefuse_steady _ _ h; exact h]

theorem useLine_steady (l : LinkId) (f : Frame) (h : Steady s t) : Steady s (useLine l f t) := by
  unfold useLine
  split <;> [exact takeLine_steady _ _ h; exact h]

theorem useClose_steady (f : Frame) (h : Steady s t) : Steady s (useClose f t) := by
  unfold useClose
  split <;> [exact takeClose_steady _ _ _ _ h; exact h]

theorem useVerdict_steady (f : Frame) (h : Steady s t) : Steady s (useVerdict f t) := by
  unfold useVerdict
  split <;> [exact takeVerdict_steady _ _ h; exact h]

theorem useAbort_steady (f : Frame) (h : Steady s t) : Steady s (useAbort f t) := by
  unfold useAbort
  split <;> [exact takeAbort_steady _ _ h; exact h]

/-- The rows whose own effect is steady: all but power-on, RESET, an acceptance, a decision, and those that may run
CLEAR-FAULT. -/
def steadyRow : Instr → Bool
  | .powerOn | .resetInput | .transactionAccept _ | .transactionDecide | .issueDiscard | .unknownCommand _ | .clearFault => false
  | _ => true

/-- The command ends in `u`, or in what settling makes of `u`. -/
def endsIn (u t : State) : Prop := t = u ∨ t = settle u

/-- Every such row is steady up to a transaction that it decides again. -/
theorem exec_steady {c : Instr} (hc : steadyRow c = true) (hx : exec c s = .next t) : ∃ u, Steady s u ∧ endsIn u t := by
  have h := Steady.refl s
  cases c <;> try cases hc
  all_goals obtain rfl := Host.Outcome.next.inj hx
  case processorRead => exact ⟨_, processorGrant_steady _ h, .inl rfl⟩
  case processorWrite => exact ⟨_, processorGrant_steady _ h, .inl rfl⟩
  case apertureRegisterWrite => exact ⟨_, writeArea_steady _ _ h, .inl rfl⟩
  case loadRegion => exact ⟨_, giveCommand_steady _ (by simp) (fun _ => runLoadRegion_steady) h, .inl rfl⟩
  case clearRegion => exact ⟨_, giveCommand_steady _ (by simp) (fun _ => runClearRegion_steady) h, .inl rfl⟩
  case setKeys => exact ⟨_, giveCommand_steady _ (by simp) (fun _ => runSetKeys_steady) h, .inl rfl⟩
  case setParameter => exact ⟨_, giveCommand_steady _ (by simp) (fun _ => runSetParameter_steady) h, .inr rfl⟩
  case commitTables => exact ⟨_, giveCommand_steady _ (by simp) (fun _ => runCommitTables_steady) h, .inl rfl⟩
  case memInit => exact ⟨_, giveCommand_steady _ (by simp) (fun _ => runMemInit_steady) h, .inl rfl⟩
  case proofTest => exact ⟨_, giveCommand_steady _ (by simp) (fun _ => runProofTest_steady) h, .inl rfl⟩
  case stopTest => exact ⟨_, giveCommand_steady _ (by simp) (fun _ => runStopTest_steady) h, .inl rfl⟩
  case join => exact ⟨_, giveCommand_steady _ (by simp) (fun _ => runJoin_steady) h, .inl rfl⟩
  case resume => exact ⟨_, giveCommand_steady _ (by simp) (fun _ => runResume_steady) h, .inl rfl⟩
  case release => exact ⟨_, giveCommand_steady _ (by simp) (fun _ => runRelease_steady) h, .inr rfl⟩
  case deferredCommandEffect => exact ⟨_, runDeferred_steady h, .inr rfl⟩
  case retireLine => exact ⟨_, giveCommand_steady _ (by simp) (fun _ => runRetireLine_steady) h, .inl rfl⟩
  case eventAck => exact ⟨_, giveCommand_steady _ (by simp) (fun _ => runEventAck_steady) h, .inl rfl⟩
  case readStatus => exact ⟨_, giveCommand_steady _ (by simp) (fun _ => runReadStatus_steady) h, .inl rfl⟩
  case readCounters => exact ⟨_, giveCommand_steady _ (by simp) (fun _ => runReadCounters_steady) h, .inl rfl⟩
  case readEntry => exact ⟨_, giveCommand_steady _ (by simp) (fun _ => runReadEntry_steady) h, .inl rfl⟩
  case forceFault => exact ⟨_, giveCommand_steady _ (by simp) (fun _ => runForceFault_steady) h, .inl rfl⟩
  case cycleMark => exact ⟨_, decideMark_steady (behindHead_steady h), .inl rfl⟩
  case voteWindowExpiry => exact ⟨_, windowExpiry_steady h, .inr rfl⟩
  case scrubPeriodExpiry =>
    exact ⟨_, h.same (u := { s with scrub.allowance := s.mgmt.params.scrubRate }) rfl, .inl rfl⟩
  case scrubStep => exact ⟨_, runGrant_steady _ (fun _ => scrubBody_steady) h, .inr rfl⟩
  case proofStep => exact ⟨_, runGrant_steady _ (fun _ => proofBody_steady) h, .inl rfl⟩
  case initStep => exact ⟨_, runGrant_steady _ (fun _ => initBody_steady) h, .inl rfl⟩
  case serveSparePending => exact ⟨_, servePending_steady h, .inl rfl⟩
  case spareTestStep => exact ⟨_, runGrant_steady _ (fun _ => spareTestBody_steady) h, .inl rfl⟩
  case copyStep => exact ⟨_, runGrant_steady _ (fun _ => copyBody_steady) h, .inr rfl⟩
  case rebuildStep => exact ⟨_, runGrant_steady _ (fun _ => rebuildBody_steady) h, .inl rfl⟩
  case rollbackStep => exact ⟨_, rollbackStep_steady h, .inr rfl⟩
  case eventWrite => exact ⟨_, runGrant_steady _ (fun _ => eventBody_steady) h, .inl rfl⟩
  case hailTimerExpiry => exact ⟨_, hailExpiry_steady _ h, .inl rfl⟩
  case quietTimerExpiry => exact ⟨_, quietExpiry_steady _ h, .inl rfl⟩
  case silenceTimerExpiry => exact ⟨_, during_steady (fun _ => silenceExpiry_steady _) h, .inr rfl⟩
  case beatTimerExpiry => exact ⟨_, beatExpiry_steady _ h, .inl rfl⟩
  case hailReceive =>
    exact ⟨_, during_steady (fun _ => receiveFrame_steady _ _ _ fun _ _ => useHail_steady _ _) h, .inr rfl⟩
  case beatReceive => exact ⟨_, during_steady (fun _ => receiveFrame_steady _ _ _ fun _ _ => useBeat_steady _) h, .inr rfl⟩
  case signReceive =>
    exact ⟨_, during_steady (fun _ => receiveFrame_steady _ _ _ fun _ _ => useSignFrame_steady _ _) h, .inr rfl⟩
  case requestReceive => exact ⟨_, receiveFrame_steady _ _ _ (fun _ _ => useRequest_steady _ _) h, .inl rfl⟩
  case acceptReceive => exact ⟨_, receiveFrame_steady _ _ _ (fun _ _ => useAccept_steady _ _) h, .inl rfl⟩
  case refuseReceive => exact ⟨_, receiveFrame_steady _ _ _ (fun _ _ => useRefuse_steady _) h, .inl rfl⟩
  case lineReceive => exact ⟨_, receiveFrame_steady _ _ _ (fun _ _ => useLine_steady _ _) h, .inl rfl⟩
  case holdReceive => exact ⟨_, receiveFrame_steady _ _ _ (fun _ _ => takeHold_steady _) h, .inl rfl⟩
  case goReceive => exact ⟨_, receiveFrame_steady _ _ _ (fun _ _ => takeGo_steady _) h, .inr rfl⟩
  case closeReceive => exact ⟨_, receiveFrame_steady _ _ _ (fun _ _ => useClose_steady _) h, .inl rfl⟩
  case verdictReceive => exact ⟨_, receiveFrame_steady _ _ _ (fun _ _ => useVerdict_steady _) h, .inl rfl⟩
  case abortReceive => exact ⟨_, during_steady (fun _ => receiveFrame_steady _ _ _ fun _ _ => useAbort_steady _) h, .inr rfl⟩
  case lineCapture => exact ⟨_, runGrant_steady _ (fun _ => captureBody_steady) h, .inr rfl⟩
  case receiveWrite => exact ⟨_, runGrant_steady _ (fun _ => receiveBody_steady) h, .inl rfl⟩
  case joinerVerdict => exact ⟨_, giveVerdict_steady h, .inl rfl⟩
  case replyTimerExpiry => exact ⟨_, replyExpiry_steady h, .inl rfl⟩
  case retryTimerExpiry => exact ⟨_, retryExpiry_steady h, .inl rfl⟩
  case receiveTimerExpiry => exact ⟨_, during_steady (fun _ => receiveExpiry_steady) h, .inl rfl⟩
  case holdTimerExpiry => exact ⟨_, during_steady (fun _ => holdExpiry_steady) h, .inr rfl⟩
  case catchupTimerExpiry => exact ⟨_, during_steady (fun _ => catchupExpiry_steady) h, .inr rfl⟩
  case verdictTimerExpiry => exact ⟨_, verdictExpiry_steady h, .inl rfl⟩
  -- SEAL is the row that is left.
  exact ⟨_, giveCommand_steady _ (by simp) (fun _ => runSeal_steady) h, .inl rfl⟩

/-- The state after reset is within every bound. -/
theorem reset_inBounds : InBounds State.reset where
  queue := Nat.zero_le _
  area := rfl
  issued := rfl
  results := rfl
  buffer1 := Nat.zero_le _
  buffer2 := Nat.zero_le _
  poisoned := Nat.zero_le _
  suspects := rfl
  suspectCounts e he := by cases List.eq_of_mem_replicate he
  remap := rfl
  loaded := rfl
  committed := rfl
  corrected := rfl
  journal := Nat.zero_le _
  need _ hj := by cases hj

theorem reset_countersFit : CountersFit State.reset where
  corrected n hn := by simp [List.eq_of_mem_replicate hn]
  uncorrectable := Nat.zero_le _
  refused := Nat.zero_le _
  bad1 := Nat.zero_le _
  bad2 := Nat.zero_le _
  discards1 := Nat.zero_le _
  discards2 := Nat.zero_le _
  loops := Nat.zero_le _
  sent _ hr := by cases hr
  written _ hj := by cases hj

theorem reset_copiesAgree : copiesAgree State.reset := (copiesAgree_iff _).mpr (by decide)

/-- Power-on keeps the form of memory, and every other invariant is that of reset. -/
theorem powerCycle_kept (s : State) : Kept s (powerCycle s) where
  memory h := by
    unfold powerCycle
    dsimp only
    split
    · exact (grantBody_steady _ (.refl s)).memory h
    · exact h
  copies _ := reset_copiesAgree
  bounds _ := { reset_inBounds with }
  counters _ _ := { reset_countersFit with }

/-- Every command keeps every invariant. -/
theorem exec_kept {c : Instr} (hx : exec c s = .next t) : Kept s t := by
  by_cases hc : steadyRow c = true
  · obtain ⟨u, h, rfl | rfl⟩ := exec_steady hc hx
    · exact h.toKept
    · exact h.toKept.trans (settle_kept u)
  · have behind := (behindHead_steady (.refl s)).toKept
    cases c <;> try exact absurd rfl hc
    all_goals obtain rfl := Host.Outcome.next.inj hx
    case powerOn => exact powerCycle_kept s
    case resetInput => exact powerCycle_kept s
    case transactionAccept x => exact acceptTransaction_kept x s
    case transactionDecide => exact decideNext_kept s
    case issueDiscard => exact (behind.trans (issueWith_kept runCommand_kept _)).trans (settle_kept _)
    case unknownCommand code =>
      exact ((behind.trans (placeWords_steady (by simp) (.refl _)).toKept).trans
        (issueWith_kept runCommand_kept _)).trans (settle_kept _)
    case clearFault =>
      exact (behind.trans (placeWords_steady (by simp) (.refl _)).toKept).trans (issueWith_kept runClearFault_kept _)

/-- Every step keeps every invariant; taking a command off the queue changes none. -/
theorem step_kept (hx : step s = .next t) : Kept s t := by
  unfold step at hx
  split at hx
  · obtain rfl := Host.Outcome.next.inj hx
    exact .refl s
  · rename_i c cs _
    exact (Kept.same (s := s) (t := { s with pending := cs }) rfl).trans (exec_kept hx)

end

/-- Settles O57, from `step_kept`. -/
theorem everyStepKeepsTheMemoryForm : Obligations.EveryStepKeepsTheMemoryForm := fun _ _ wf hx => (step_kept hx).memory wf

/-- Settles O58, from `step_kept`. -/
theorem everyStepKeepsCopiesAndBounds : Obligations.EveryStepKeepsCopiesAndBounds := fun _ _ hx =>
  ⟨(step_kept hx).copies, (step_kept hx).bounds, (step_kept hx).counters⟩

/-- Settles O59, from the reset state's items. -/
theorem resetStateIsWellKept : Obligations.ResetStateIsWellKept :=
  ⟨reset_mem_wf, reset_copiesAgree, reset_inBounds, reset_countersFit⟩

end Sys2Proof.Machine
end

section
namespace Sys2Proof.Machine
-- One proof after the other: side by side they pass the memory that the check allows.
set_option Elab.async false

/-! ### HEALTH while the latch is set -/

section
variable {s t u : State}

/-- The latch is set, and HEALTH stands in `u` as in `s`. -/
theorem Steady.health (h : Steady s u) (l : s.ev.faultLatch = true) : u.ev.health = s.ev.health := (h.latched l).2

theorem runClearFault_health (s : State) : (runClearFault s).ev.health = s.ev.health := rfl

theorem runCommand_health (l : s.ev.faultLatch = true) : (runCommand s).ev.health = s.ev.health := by
  by_cases hc : s.mgmt.command.toNat = 19
  · rw [runCommand, hc]
    rfl
  · exact (runCommand_steady hc (.refl s)).health l

theorem issue_health (l : s.ev.faultLatch = true) : (issue s).ev.health = s.ev.health := by
  unfold issue issueWith
  split
  · rfl
  · exact runCommand_health l

/-- Behind ISSUE an aperture write of up to 8 words reaches neither ISSUE nor the mark. -/
theorem apertureEffects_behindIssue (i : Nat) (ws : List WriteWord) (s : State) (hi : 16 < i) (hn : i + ws.length ≤ 64) :
    apertureEffects (takingPart i ws) s = s := by
  induction ws generalizing i with
  | nil => rfl
  | cons w ws ih =>
    simp only [List.length_cons] at hn
    have rest := ih (i + 1) (by omega) (by omega)
    have idle : apertureEffect i w s = s := by
      have issue : i ≠ issueOffset := by unfold issueOffset; omega
      have mark : i ≠ markOffset := by unfold markOffset; omega
      rw [apertureEffect, if_neg (by omega), if_neg issue, if_neg mark]
    rw [takingPart]
    split
    · exact rest
    · rw [apertureEffects, idle, rest]

theorem apertureEffects_health (i : Nat) (ws : List WriteWord) (hn : ws.length ≤ 8) (l : s.ev.faultLatch = true) :
    (apertureEffects (takingPart i ws) s).ev.health = s.ev.health := by
  induction ws generalizing i s with
  | nil => rfl
  | cons w ws ih =>
    simp only [List.length_cons] at hn
    have go {u : State} (h : Steady s u) : (apertureEffects (takingPart (i + 1) ws) u).ev.health = s.ev.health :=
      (ih (i + 1) (by omega) (h.latched l).1).trans (h.health l)
    rw [takingPart]
    split
    · exact go (.refl s)
    · rw [apertureEffects, apertureEffect]
      split
      · exact go (writeArea_steady i w (.refl s))
      · split
        · rename_i hi
          simp only [issueOffset] at hi
          rw [apertureEffects_behindIssue _ _ _ (by omega) (by omega)]
          exact issue_health l
        · split
          · exact go (markDuring_steady (.refl s))
          · exact go (.refl s)

theorem decideHead_health (hq : ∀ x ∈ s.port.queue, x.wellFormed = true) (l : s.ev.faultLatch = true) :
    (decideHead s).ev.health = s.ev.health := by
  unfold decideHead
  split
  · rfl
  · split
    · rfl
    · rename_i x rest hx
      split
      · exact (refuseHead_steady _ _ (.refl s)).health l
      · rfl
      · cases x with
        | read a n => rfl
        | write a ws =>
          have hn : ws.length ≤ 8 := by
            have := hq (.write a ws) (by simp [hx])
            simp only [Transaction.wellFormed, decide_eq_true_eq] at this
            exact this.2
          exact apertureEffects_health _ ws hn l
      · exact (grantHead_steady (.refl s)).health l

theorem settle_health (hq : ∀ x ∈ s.port.queue, x.wellFormed = true) (l : s.ev.faultLatch = true) :
    (settle s).ev.health = s.ev.health := by
  unfold settle
  split
  · split
    · exact decideHead_health (s := { s with port.held := none }) hq l
    · rfl
  · rfl

/-! ### The end of a hold -/

/-- While a held head's conditions stand, settling only joins the conditions that have come. -/
theorem settle_of_holdsStand (hs : holdsStand s) : ∃ h, settle s = { s with port.held := h } := by
  unfold settle
  split
  · rename_i h x rest hh hq
    rw [if_neg (by simp [hs h x rest hh hq])]
    exact ⟨_, rfl⟩
  · exact ⟨s.port.held, rfl⟩

theorem holdsStand_of_none (h : s.port.held = none) : holdsStand s := fun _ _ _ e => by simp [h] at e

theorem holdsStand_of_empty (h : s.port.queue = []) : holdsStand s := fun _ _ _ _ e => by simp [h] at e

theorem Hold.not_ended_self (h : Hold) : h.ended h = false := by
  obtain ⟨a, b, c⟩ := h
  cases a <;> cases b <;> cases c <;> rfl

theorem Hold.not_ended_join {h now : Hold} (e : h.ended now = false) : (h.join now).ended now = false := by
  simp only [Hold.ended, Bool.or_eq_false_iff] at e ⊢
  obtain ⟨⟨vote, catchup⟩, rollback⟩ := e
  simp [Hold.join, Bool.and_or_distrib_right, vote, catchup, rollback]

theorem answerHead_held (r : Response) (s : State) : (answerHead r s).port.held = none := rfl

theorem decideHead_holdsStand (hn : s.port.held = none) : holdsStand (decideHead s) := by
  unfold decideHead
  split
  · exact holdsStand_of_none hn
  · split
    · exact holdsStand_of_none hn
    · rename_i x rest hq
      split
      · exact holdsStand_of_none (answerHead_held _ _)
      · rename_i h hd
        intro g y tail hg hy
        have same : h = holdFor x s := by
          unfold decideTransaction at hd
          (repeat' split at hd) <;> cases hd
          rfl
        obtain rfl : h = g := Option.some.inj hg
        obtain rfl : x = y := by simpa [hq] using congrArg List.head? hy
        rw [same]
        exact Hold.not_ended_self _
      · rename_i hd
        cases x <;> exact holdsStand_of_none (answerHead_held _ _)
      · refine holdsStand_of_none ?_
        unfold grantHead
        split <;> rfl

theorem settle_holdsStand (s : State) : holdsStand (settle s) := by
  unfold settle
  split
  · rename_i h x rest hh hq
    split
    · exact decideHead_holdsStand rfl
    · rename_i e
      intro g y tail hg hy
      obtain rfl : x = y := by simpa [hq] using congrArg List.head? hy
      obtain rfl := Option.some.inj hg
      exact Hold.not_ended_join (by simpa using e)
  · rename_i no
    intro h x rest hh hq
    exact absurd hq (no h x rest hh)

theorem decideNext_holdsStand (s : State) : holdsStand (decideNext s) := by
  unfold decideNext
  split
  · exact settle_holdsStand s
  · exact decideHead_holdsStand ‹_›

/-- Behind the processor's grant no head is held any more; otherwise nothing has changed. -/
theorem behindHead_holdsStand (hs : holdsStand s) : holdsStand (behindHead s) := by
  unfold behindHead
  split
  · rename_i hg
    simp only [endGrant, hg, grantBody, grantWork, headWork, followGrant]
    cases hq : s.port.queue with
    | nil => exact holdsStand_of_empty (by simp [consequences_nil, hq])
    | cons x rest =>
      have answered : (transactionWork x { s with arb.grant := none }).1.port.held = none := by
        cases x with
        | read a n =>
          simp only [transactionWork, readWork]
          split <;> rfl
        | write a ws =>
          simp only [transactionWork, writeWork]
          split <;> rfl
      exact holdsStand_of_none (by simpa using answered)
  · exact hs

/-- What leaves the vote, the role, the journal, the tables, the queue and the hold as they were leaves the conditions standing. -/
theorem holdsStand_of_same (hs : holdsStand s) (hp : t.port = s.port) (hv : t.vote = s.vote) (hr : t.repair = s.repair)
    (hj : t.jnl = s.jnl) (hg : t.regions = s.regions) : holdsStand t := by
  intro h x rest hh hq
  have same : holdFor x t = holdFor x s := by
    have catchup : inCatchup t = inCatchup s := by unfold inCatchup; rw [hr]
    have kept (l : Nat) : classOf t l = classOf s l := by simp only [classOf, regionOf, hg]
    have vital : isVitalAccess x t = isVitalAccess x s := by unfold isVitalAccess; rw [kept]
    simp only [holdFor, markHold, vital, catchup, rolling, hv, hj]
  rw [same]
  exact hs h x rest (hp ▸ hh) (hp ▸ hq)

/-- An issue that may be a CLEAR-FAULT, given where the conditions of a held head stand. -/
theorem settle_issue_health (hs : holdsStand s) (hq : ∀ x ∈ s.port.queue, x.wellFormed = true)
    (l : s.ev.faultLatch = true) : (settle (issue s)).ev.health = s.ev.health := by
  unfold issue issueWith
  split
  · exact settle_health hq l
  · by_cases hc : (acceptIssue s).mgmt.command.toNat = 19
    · rw [runCommand, hc]
      obtain ⟨h, e⟩ := settle_of_holdsStand (s := runClearFault (acceptIssue s)) (holdsStand_of_same hs rfl rfl rfl rfl rfl)
      exact congrArg (fun u => u.ev.health) e
    · have h := runCommand_steady hc (acceptIssue_steady (.refl s))
      exact (settle_health (fun x hx => hq x (h.queued x hx)) (h.latched l).1).trans (h.health l)

theorem exec_health {c : Instr} (hp : c ≠ .powerOn) (hr : c ≠ .resetInput) (l : s.ev.faultLatch = true)
    (hs : holdsStand s) (hq : ∀ x ∈ s.port.queue, x.wellFormed = true) (hx : exec c s = .next t) :
    t.ev.health = s.ev.health := by
  by_cases hc : steadyRow c = true
  · obtain ⟨u, h, rfl | rfl⟩ := exec_steady hc hx
    · exact h.health l
    · exact (settle_health (fun x hx => hq x (h.queued x hx)) (h.latched l).1).trans (h.health l)
  · have b := behindHead_steady (.refl s)
    have stands := behindHead_holdsStand hs
    have asked : ∀ x ∈ (behindHead s).port.queue, x.wellFormed = true := fun x hx => hq x (b.queued x hx)
    cases c <;> try exact absurd rfl hc
    all_goals obtain rfl := Host.Outcome.next.inj hx
    case powerOn => exact absurd rfl hp
    case resetInput => exact absurd rfl hr
    case transactionAccept x =>
      unfold acceptTransaction
      split <;> rfl
    case transactionDecide =>
      unfold decideNext
      split
      · exact settle_health hq l
      · exact decideHead_health hq l
    case issueDiscard => exact (settle_issue_health stands asked (b.latched l).1).trans (b.health l)
    case unknownCommand code =>
      refine (settle_issue_health (s := placeWords [code] (behindHead s)) ?_ asked (b.latched l).1).trans (b.health l)
      exact holdsStand_of_same stands rfl rfl rfl rfl rfl
    case clearFault =>
      refine Eq.trans ?_ (b.health l)
      unfold giveCommand issueWith
      split <;> rfl

end

/-- Settles O60, from what `settle` does while the conditions of the held head stand. -/
theorem healthStandsStillWhileTheLatchIsSet : Obligations.HealthStandsStillWhileTheLatchIsSet := by
  refine ⟨fun c s t hp hr l hs hq hx => exec_health hp hr l hs hq hx, fun c s t hc hx => ?_⟩
  rcases hc with hc | ⟨l, rfl⟩ | ⟨p, v, rfl⟩ | ⟨w, rfl⟩ | ⟨l, raw, rfl | rfl | rfl | rfl | rfl⟩
  · simp only [List.mem_cons, List.not_mem_nil, or_false] at hc
    rcases hc with rfl | rfl | rfl | rfl | rfl | rfl | rfl | rfl | rfl | rfl | rfl
    all_goals obtain rfl := Host.Outcome.next.inj hx
    on_goal 11 => exact decideNext_holdsStand s
    all_goals exact settle_holdsStand _
  all_goals
    obtain rfl := Host.Outcome.next.inj hx
    exact settle_holdsStand _

end Sys2Proof.Machine
end

section
namespace Sys2Proof.Machine
-- One proof after the other: side by side they pass the memory that the check allows.
set_option Elab.async false

/-! ### The queue, power, and the checks of a transaction -/

section
variable {s : State} {r : Requester}

theorem portGrant_of_idle (h : portIdle s) : portGrant s = none := by
  obtain ⟨free, none_waits⟩ := h
  simp [portGrant, free, none_waits]

theorem portGrant_of_granted (h : granted r s) : portGrant s = some r := by
  rcases h with given | ⟨free, undeferred, next⟩
  · simp [portGrant, given]
  · simp [portGrant, free, undeferred, next]

theorem portGrant_of_deferred (h : s.arb.grant = none) (hd : s.mgmt.deferred ≠ none) : portGrant s = none := by
  simp [portGrant, h, hd]

theorem powerCycle_mem_of_none (h : portGrant s = none) : (powerCycle s).mem = s.mem := by simp [powerCycle, h]

theorem powerCycle_mem_of_some (h : portGrant s = some r) : (powerCycle s).mem = (grantBody r s).mem := by
  simp [powerCycle, h]

/-- Beside memory, power-on leaves the reset values and the histories. -/
theorem powerCycle_resets (s : State) : { powerCycle s with mem := [] } = { State.reset with
    pending := s.pending
    out := { s.out with responses := s.out.responses ++ List.replicate s.port.queue.length .busError } } := by
  simp [powerCycle, State.reset, List.map_const']

end

/-- Settles O1: the queue's front is what `step` takes apart. -/
theorem stepTakesTheFrontCommand : Obligations.StepTakesTheFrontCommand :=
  ⟨fun _ _ => rfl, fun s h => by simp [step, h]⟩

/-- Settles O2: both commands are one power cycle, whose memory is that of the grant that `portGrant` names. -/
theorem powerOnAndResetEndEveryTransaction : Obligations.PowerOnAndResetEndEveryTransaction := by
  intro c hc s
  have cycle : exec c s = .next (powerCycle s) := by rcases hc with rfl | rfl <;> rfl
  exact ⟨powerCycle s, cycle, powerCycle_resets s, fun h => powerCycle_mem_of_none (portGrant_of_idle h),
    fun r h => powerCycle_mem_of_some (portGrant_of_granted h),
    fun h hd => powerCycle_mem_of_none (portGrant_of_deferred h hd)⟩

/-- Settles O3, from the one comparison that taking a transaction makes. -/
theorem portQueueTakesUpToEight : Obligations.PortQueueTakesUpToEight := by
  intro t s
  have accepted : exec (.transactionAccept t) s = .next (acceptTransaction t s) := rfl
  rw [accepted]
  constructor
  · intro h
    simp [acceptTransaction, Config.portDepth, h]
  · intro h
    simp [acceptTransaction, Config.portDepth, Nat.not_lt.mpr h]

/-! ### The four checks (R11) -/

theorem inAperture_iff (t : Transaction) : inAperture t = true ↔ 33554432 ≤ t.firstWord ∧ t.firstWord < 33554944 :=
  decide_eq_true_iff

theorem readableOffset_iff (i : Nat) :
    readableOffset i = true ↔ i < 16 ∨ i = 17 ∨ (32 ≤ i ∧ i < 48) ∨ i = 65 ∨ i = 66 :=
  decide_eq_true_iff

theorem writableOffset_iff (i : Nat) : writableOffset i = true ↔ i < 16 ∨ i = 16 ∨ i = 64 :=
  decide_eq_true_iff

theorem mem_takingPart {ws : List WriteWord} {i j : Nat} {w : WriteWord} :
    (j, w) ∈ takingPart i ws ↔ ∃ k, ws[k]? = some w ∧ w.enables ≠ 0 ∧ j = i + k := by
  induction ws generalizing i with
  | nil => simp [takingPart]
  | cons x ws ih =>
    have later : (∃ k, (x :: ws)[k]? = some w ∧ w.enables ≠ 0 ∧ j = i + k) ↔
        (x = w ∧ w.enables ≠ 0 ∧ j = i) ∨ ∃ k, ws[k]? = some w ∧ w.enables ≠ 0 ∧ j = i + 1 + k := by
      constructor
      · rintro ⟨_ | k, hk, he, hj⟩
        · exact .inl ⟨by simpa using hk, he, hj⟩
        · exact .inr ⟨k, by simpa using hk, he, by omega⟩
      · rintro (⟨rfl, he, hj⟩ | ⟨k, hk, he, hj⟩)
        · exact ⟨0, rfl, he, hj⟩
        · exact ⟨k + 1, by simpa using hk, he, by omega⟩
    rw [later, takingPart]
    split
    · rename_i off
      rw [ih]
      constructor
      · exact .inr
      · rintro (⟨rfl, on, -⟩ | h)
        · exact absurd off on
        · exact h
    · rename_i on
      rw [List.mem_cons, ih, Prod.mk.injEq]
      constructor
      · rintro (⟨rfl, rfl⟩ | h)
        · exact .inl ⟨rfl, on, rfl⟩
        · exact .inr h
      · rintro (⟨rfl, -, rfl⟩ | h)
        · exact .inl ⟨rfl, rfl⟩
        · exact .inr h

theorem apertureAllows_read_iff {a : BitVec 29} {n : Nat} (h : 33554432 ≤ a.toNat / 8) :
    apertureAllows (.read a n) = true ↔ ∀ o, a.toNat / 8 ≤ 33554432 + o → 33554432 + o < a.toNat / 8 + n →
      o < 16 ∨ o = 17 ∨ (32 ≤ o ∧ o < 48) ∨ o = 65 ∨ o = 66 := by
  have base : apertureBase = 33554432 := rfl
  simp only [apertureAllows, List.all_eq_true, List.mem_range, readableOffset_iff, base]
  constructor
  · intro all o lo hi
    have := all (33554432 + o - a.toNat / 8) (by omega)
    omega
  · intro all i hi
    have := all (a.toNat / 8 - 33554432 + i) (by omega) (by omega)
    omega

theorem apertureAllows_write_iff {a : BitVec 29} {ws : List WriteWord} (h : 33554432 ≤ a.toNat / 8) :
    apertureAllows (.write a ws) = true ↔ ∀ i w, ws[i]? = some w → w.enables ≠ 0 →
      a.toNat / 8 + i < 33554448 ∨ a.toNat / 8 + i = 33554448 ∨ a.toNat / 8 + i = 33554496 := by
  have base : apertureBase = 33554432 := rfl
  simp only [apertureAllows, List.all_eq_true, Prod.forall, mem_takingPart, writableOffset_iff, base]
  constructor
  · intro all i w hw he
    have := all _ w ⟨i, hw, he, rfl⟩
    omega
  · rintro all _ w ⟨i, hw, he, rfl⟩
    have := all i w hw he
    omega

section
variable {t : Transaction} {s : State}

theorem checkTransaction_size (h : 256 < t.firstWord % 256 + t.count) : checkTransaction t s = some .size := by
  simp [checkTransaction, h]

theorem checkTransaction_aperture (hs : t.firstWord % 256 + t.count ≤ 256)
    (h : 33554432 ≤ t.firstWord ∧ t.firstWord < 33554944) :
    checkTransaction t s = if apertureAllows t then none else some .aperture := by
  simp [checkTransaction, Nat.not_lt.mpr hs, (inAperture_iff t).mpr h]

theorem checkTransaction_beyond (hs : t.firstWord % 256 + t.count ≤ 256) (h : 33554944 ≤ t.firstWord) :
    checkTransaction t s = some .unmapped := by
  have outside : inAperture t = false := by
    rw [Bool.eq_false_iff, ne_eq, inAperture_iff]
    omega
  have above : apertureBase ≤ t.firstWord := by unfold apertureBase; omega
  simp [checkTransaction, Nat.not_lt.mpr hs, outside, above]

/-- Below the aperture the class decides, then the channel state. -/
theorem checkTransaction_memory (hs : t.firstWord % 256 + t.count ≤ 256) (h : t.firstWord < 33554432) :
    checkTransaction t s = match classOf s (t.firstWord / 256) with
      | none => some .unmapped
      | some c => if classRefuses c t.direction then some .class
        else if stateAllows c t.direction s.csr.state then none else some .state := by
  have outside : inAperture t = false := by
    rw [Bool.eq_false_iff, ne_eq, inAperture_iff]
    omega
  have below : ¬ apertureBase ≤ t.firstWord := by unfold apertureBase; omega
  unfold checkTransaction
  rw [if_neg (Nat.not_lt.mpr hs), outside, if_neg (by simp), if_neg below] <;> rfl

end

/-- Settles O4, check by check; below the aperture the class and the direction are taken one by one. -/
theorem transactionChecksFollowTheTables : Obligations.TransactionChecksFollowTheTables := by
  intro t s
  refine ⟨checkTransaction_size, fun hs => ⟨?_, checkTransaction_beyond hs, fun below => ?_⟩⟩
  · intro inside
    rw [checkTransaction_aperture hs inside]
    cases t with
    | read a n =>
      have allowed := apertureAllows_read_iff (n := n) inside.1
      exact ⟨fun h => by rw [allowed.mpr h, if_pos rfl], fun h => by rw [if_neg (fun e => h (allowed.mp e))]⟩
    | write a ws =>
      have allowed := apertureAllows_write_iff (ws := ws) inside.1
      exact ⟨fun h => by rw [allowed.mpr h, if_pos rfl], fun h => by rw [if_neg (fun e => h (allowed.mp e))]⟩
  · have checked := checkTransaction_memory (s := s) hs below
    refine ⟨?_, ?_, ?_, ?_, ?_, ?_⟩ <;> intro hc <;> rw [hc] at checked <;> rw [checked]
    · simp [classRefuses]
    · cases t.direction <;> simp [classRefuses, stateAllows]
    · simp [classRefuses, stateAllows]
    · cases t.direction <;> simp [classRefuses, stateAllows]
    · cases t.direction <;> simp [classRefuses, stateAllows]

end Sys2Proof.Machine
end

section
namespace Sys2Proof.Machine
-- One proof after the other: side by side they pass the memory that the check allows.
set_option Elab.async false

/-! ### The decision on the head (R10 to R12, R19) -/

section
variable {s : State} {t : Transaction} {rest : List Transaction}

/-- The queue and the hold are as they were. -/
def HeadKept (s t : State) : Prop := t.port.queue = s.port.queue ∧ t.port.held = s.port.held

theorem HeadKept.of_port {s t : State} (h : t.port = s.port) : HeadKept s t := ⟨by rw [h], by rw [h]⟩

theorem HeadKept.trans {s t u : State} (h : HeadKept s t) (k : HeadKept t u) : HeadKept s u :=
  ⟨k.1.trans h.1, k.2.trans h.2⟩

theorem holdFor_eq (t : Transaction) (s : State) : holdFor t s =
    { vote := isMark t && s.vote.record.isOpen
      catchup := (isMark t || (isVitalAccess t s && decide (t.direction = .write))) && inCatchup s
      rollback := (isMark t || isVitalAccess t s) && s.jnl.rb.rolling } := by
  unfold holdFor markHold rolling
  cases isMark t <;> cases isVitalAccess t s <;> simp

theorem Hold.any_iff (h : Hold) : h.any = true ↔ h.vote = true ∨ h.catchup = true ∨ h.rollback = true := by
  simp [Hold.any, or_assoc]

theorem decideTransaction_refused {r : RefuseAccess} (h : checkTransaction t s = some r) : decideTransaction t s = .refuse r := by
  simp [decideTransaction, h]

theorem decideTransaction_held (h : checkTransaction t s = none) (ha : (holdFor t s).any = true) :
    decideTransaction t s = .hold (holdFor t s) := by
  simp [decideTransaction, h, ha]

/-- An aperture transaction that is carried out has passed its check and is not held. -/
theorem decideTransaction_aperture (h : decideTransaction t s = .aperture) :
    checkTransaction t s = none ∧ (holdFor t s).any = false ∧ inAperture t = true := by
  unfold decideTransaction at h
  split at h
  · cases h
  · rename_i passed
    split at h
    · cases h
    · rename_i not_held
      split at h
      · exact ⟨passed, by simpa using not_held, ‹_›⟩
      · cases h

theorem decideHead_eq (hg : s.arb.grant ≠ some .processor) (hq : s.port.queue = t :: rest) :
    decideHead s = match decideTransaction t s with
      | .refuse r => refuseHead t r s
      | .hold h => { s with port.held := some h }
      | .aperture => apertureHead t s
      | .memory => grantHead s := by
  unfold decideHead
  rw [if_neg hg, hq] <;> rfl

theorem exec_transactionDecide (hh : s.port.held = none) : exec .transactionDecide s = .next (decideHead s) :=
  congrArg Host.Outcome.next (decideNext_free s hh)

theorem refusalSubject_eq (t : Transaction) (s : State) : refusalSubject t s =
    if 33554432 ≤ t.firstWord ∧ t.firstWord < 33554944 then .none
    else match regionOf s (t.firstWord / 256) with
      | some (i, _) => .region i
      | none => .none := by
  unfold refusalSubject
  simp only [inAperture_iff] <;> rfl

/-- The whole effect of a refusal (R12). -/
theorem refuseHead_eq (r : RefuseAccess) (hq : s.port.queue = t :: rest) : refuseHead t r s = { s with
    port := { queue := rest, held := none
              lastRefusal := { reason := some r, addr := byteAddr t.firstWord, direction := t.direction }
              refused := satSucc s.port.refused, refusalReported := true }
    out.responses := s.out.responses ++ [.busError]
    ev := if s.port.refusalReported then s.ev
      else evAfter .accessRefused r.code (refusalSubject t s) (wordOf (byteAddr t.firstWord).toNat) s } := by
  unfold refuseHead recordRefusal
  cases told : s.port.refusalReported with
  | true => simp [answerHead, respond, hq, told]
  | false =>
    rw [if_neg (by simp), if_neg (by simp), hand_as_evAfter]
    simp only [answerHead, respond, hq, List.tail_cons, State.mk.injEq, true_and, and_true]
    exact evAfter_of _ _ _ _ _ _ rfl rfl rfl rfl

end

/-- Settles O5, one outcome of the decision after the other. -/
theorem headIsRefusedHeldOrGranted : Obligations.HeadIsRefusedHeldOrGranted := by
  refine ⟨?_, ?_, ?_, ?_⟩
  · intro s t rest r hg hh hq hr
    rw [exec_transactionDecide hh, decideHead_eq hg hq, decideTransaction_refused hr]
    exact congrArg Host.Outcome.next ((refuseHead_eq r hq).trans (by rw [refusalSubject_eq] <;> rfl))
  · intro s t rest hg hh hq hn vital h held
    have applies : holdFor t s = h := holdFor_eq t s
    rw [exec_transactionDecide hh, decideHead_eq hg hq,
      decideTransaction_held hn ((Hold.any_iff _).mpr (applies ▸ held)), applies]
  · intro s t rest hg hh hq hm
    rw [exec_transactionDecide hh, decideHead_eq hg hq, hm]
    rfl
  · intro s hg hh
    rw [exec_transactionDecide hh, decideHead_granted s hg]

end Sys2Proof.Machine
end

section
namespace Sys2Proof.Machine
-- One proof after the other: side by side they pass the memory that the check allows.
set_option Elab.async false

/-! ### The aperture (R21) -/

section
variable {s t : State}

theorem grantWork_headKept {r : Requester} (h : r ≠ .processor) (s : State) : HeadKept s (grantWork r s).1 := by
  apply HeadKept.of_port
  cases r <;> first | exact absurd rfl h | simp [grantWork]

theorem followGrant_headKept (r : Requester) (s : State) : HeadKept s (followGrant r s) := .of_port (by simp)

/-- An event that leaves the head alone does so over the grant of another requester too. -/
theorem overGrant_headKept {event : State → State} (he : ∀ u, HeadKept u (event u)) (h : s.arb.grant ≠ some .processor) :
    HeadKept s (overGrant event s) := by
  cases hg : s.arb.grant with
  | none => rw [overGrant_none event s hg]; exact he s
  | some r =>
    have work := grantWork_headKept (r := r) (fun e => h (e ▸ hg)) { s with arb.grant := none }
    simp only [overGrant, hg]
    refine (HeadKept.trans ?_ (followGrant_headKept r _))
    split
    · exact (work.trans (.of_port (by simp))).trans (he _)
    · exact (work.trans (he _)).trans (.of_port (by simp))

theorem during_headKept {event : State → State} (he : ∀ u, HeadKept u (event u)) (h : s.arb.grant ≠ some .processor) :
    HeadKept s (during event s) := by
  unfold during
  split
  · exact overGrant_headKept he h
  · exact he s

/-- After an event that gives no grant, over a grant or not, no grant of the processor's has begun. -/
theorem during_no_grant {event : State → State} (he : ∀ u, (event u).arb = u.arb) (h : s.arb.grant ≠ some .processor) :
    (during event s).arb.grant ≠ some .processor := by
  unfold during
  split
  · cases hg : s.arb.grant with
    | none => rw [overGrant_none event s hg, he, hg]; simp
    | some r =>
      simp only [overGrant, hg]
      split <;> simp [he]
  · rw [he]; exact h

theorem landCommit_headKept (s : State) : HeadKept s (landCommit s) := by
  unfold landCommit
  split
  · exact .of_port (by simp)
  · exact ⟨rfl, rfl⟩

theorem markDuring_headKept (h : s.arb.grant ≠ some .processor) : HeadKept s (markDuring s) := by
  have marked (u : State) : HeadKept u (markWord u) := ⟨by simp, by simp⟩
  unfold markDuring
  split
  · split
    · exact marked s
    · exact overGrant_headKept (fun u => (landCommit_headKept u).trans (.of_port (by simp))) h
  · split
    · exact (during_headKept (fun u => ⟨by simp, by simp⟩) h).trans
        (during_headKept (fun u => .of_port (by simp)) (during_no_grant (fun u => by simp) h))
    · exact marked s

theorem setLinkMode_headKept (l : LinkId) (v : Nat) (h : s.arb.grant ≠ some .processor) : HeadKept s (setLinkMode l v s) := by
  unfold setLinkMode
  split
  · exact .of_port (by simp)
  · rename_i m _
    exact (during_headKept (event := setMode l m) (fun u => .of_port (by simp)) h).trans (.of_port (by simp))

theorem runSetParameter_headKept (h : s.arb.grant ≠ some .processor) : HeadKept s (runSetParameter s) := by
  unfold runSetParameter
  split
  case h_15 => exact setLinkMode_headKept _ _ h
  case h_16 => exact setLinkMode_headKept _ _ h
  all_goals exact .of_port (by simp)

theorem retireSuspect_port {l : Nat} (h : retireSuspect l s = some t) : t.port = s.port := by
  unfold retireSuspect at h
  split at h
  · split at h <;> cases h <;> simp
  · split at h
    · cases h
      simp
    · cases h

theorem runRetireLine_port (s : State) : (runRetireLine s).port = s.port := by
  unfold runRetireLine
  split
  · simp
  · split
    · simp
    · split
      · simp
      · rename_i retired
        simpa using retireSuspect_port retired

/-- No command takes the head from the queue or holds it. -/
theorem runCommand_headKept (h : s.arb.grant ≠ some .processor) : HeadKept s (runCommand s) := by
  unfold runCommand
  split
  case h_20 => exact .of_port rfl
  case h_4 => exact runSetParameter_headKept h
  case h_16 => exact ⟨by simp, by simp⟩
  case h_13 => exact .of_port (runRetireLine_port s)
  all_goals apply HeadKept.of_port; simp

theorem issueWith_headKept {run : State → State} (h : s.arb.grant ≠ some .processor)
    (hr : ∀ u, u.arb.grant ≠ some .processor → HeadKept u (run u)) : HeadKept s (issueWith run s) := by
  unfold issueWith
  split
  · exact ⟨rfl, rfl⟩
  · exact HeadKept.trans (.of_port (by simp)) (hr _ (by simpa using h))

theorem issue_headKept (h : s.arb.grant ≠ some .processor) : HeadKept s (issue s) :=
  issueWith_headKept h fun _ => runCommand_headKept

/-- The words that may take part in an aperture write: those of the command area up to ISSUE, and the mark. -/
def FitsAperture (i : Nat) (ws : List WriteWord) : Prop := ∀ j w, (j, w) ∈ takingPart i ws → j ≤ 16 ∨ j = 64

theorem FitsAperture.tail {i : Nat} {w : WriteWord} {ws : List WriteWord} (h : FitsAperture i (w :: ws)) :
    FitsAperture (i + 1) ws := by
  intro j x hx
  obtain ⟨k, hk, he, rfl⟩ := mem_takingPart.mp hx
  exact h _ x (mem_takingPart.mpr ⟨k + 1, by simpa using hk, he, by omega⟩)

/-- Behind ISSUE and the mark no word of an aperture write takes part. -/
theorem FitsAperture.nothing_behind {i : Nat} {ws : List WriteWord} (h : FitsAperture i ws) (hi : 16 < i)
    (hl : i + ws.length ≤ 64 ∨ 64 < i) : takingPart i ws = [] := by
  rw [List.eq_nil_iff_forall_not_mem]
  rintro ⟨j, w⟩ hw
  have := h j w hw
  obtain ⟨k, hk, -, rfl⟩ := mem_takingPart.mp hw
  have := (List.getElem?_eq_some_iff.mp hk).1
  omega

section
variable {i : Nat} {w : WriteWord} (ws : List WriteWord)

theorem takingPart_off (off : w.enables = 0) : takingPart i (w :: ws) = takingPart (i + 1) ws := if_pos off

theorem takingPart_on (on : w.enables ≠ 0) : takingPart i (w :: ws) = (i, w) :: takingPart (i + 1) ws := if_neg on

theorem apertureRows_off (off : w.enables = 0) : apertureRows i (w :: ws) = apertureRows (i + 1) ws := by
  rw [apertureRows, if_pos off, List.nil_append]

theorem apertureRows_on (on : w.enables ≠ 0) : apertureRows i (w :: ws) =
    (if i < 16 then [.apertureRegisterWrite i w.data w.enables]
      else if i = issueOffset then [.issueDiscard]
      else if i = markOffset then [.cycleMark]
      else []) ++ apertureRows (i + 1) ws := by
  rw [apertureRows, if_neg on]

end

theorem apertureRows_nil {i : Nat} {ws : List WriteWord} (h : takingPart i ws = []) : apertureRows i ws = [] := by
  induction ws generalizing i with
  | nil => rfl
  | cons w ws ih =>
    by_cases off : w.enables = 0
    · rw [apertureRows_off ws off]
      exact ih (takingPart_off ws off ▸ h)
    · rw [takingPart_on ws off] at h
      cases h

theorem exec_issueDiscard (hg : s.arb.grant ≠ some .processor) (hh : s.port.held = none) :
    exec .issueDiscard s = .next (issue s) := by
  have settled := settle_none (issue s) ((issue_headKept hg).2.trans hh)
  calc exec .issueDiscard s = .next (settle (issue (behindHead s))) := rfl
    _ = .next (issue s) := by rw [behindHead_other s hg, settled]

theorem exec_cycleMark (hg : s.arb.grant ≠ some .processor) (hm : (markHold s).any = false) :
    exec .cycleMark s = .next (markDuring s) := by
  calc exec .cycleMark s = .next (decideMark (behindHead s)) := rfl
    _ = .next (markDuring s) := by rw [behindHead_other s hg, decideMark, hm]; rfl

/-- The words of an aperture write take effect as their rows do, and the head stays. -/
theorem apertureRows_run {ws : List WriteWord} {i : Nat} (hf : FitsAperture i ws) (hl : i + ws.length ≤ 64 ∨ 16 < i ∧ ws.length ≤ 8)
    (hm : ∀ w, (64, w) ∈ takingPart i ws → (markHold s).any = false) (hg : s.arb.grant ≠ some .processor)
    (hh : s.port.held = none) :
    runsThrough (apertureRows i ws) s (apertureEffects (takingPart i ws) s) ∧ HeadKept s (apertureEffects (takingPart i ws) s) := by
  induction ws generalizing i s with
  | nil => exact ⟨rfl, rfl, rfl⟩
  | cons w ws ih =>
    rw [List.length_cons] at hl
    by_cases on : w.enables = 0
    · rw [takingPart_off ws on] at hm ⊢
      rw [apertureRows_off ws on]
      exact ih hf.tail (by omega) hm hg hh
    · have part := takingPart_on (i := i) ws on
      have place := hf i w (by simp [part])
      rw [part, apertureEffects]
      rcases Nat.lt_trichotomy i 16 with area | rfl | beyond
      · have row : apertureRows i (w :: ws) = .apertureRegisterWrite i w.data w.enables :: apertureRows (i + 1) ws := by
          simp [apertureRows_on ws on, area]
        have effect : apertureEffect i w s = writeArea i w s := by simp [apertureEffect, area]
        have no_mark (x : WriteWord) (hx : (64, x) ∈ takingPart (i + 1) ws) : (markHold (writeArea i w s)).any = false := by
          obtain ⟨k, hk, -, hj⟩ := mem_takingPart.mp hx
          have := (List.getElem?_eq_some_iff.mp hk).1
          omega
        obtain ⟨run, kept⟩ := ih (s := writeArea i w s) hf.tail (by omega) no_mark (by simpa using hg) (by simpa using hh)
        rw [row, effect]
        exact ⟨⟨_, rfl, run⟩, HeadKept.trans (.of_port (by simp)) kept⟩
      · have none_left := hf.tail.nothing_behind (by omega) (by omega)
        have row : apertureRows 16 (w :: ws) = [.issueDiscard] := by
          simp [apertureRows_on ws on, issueOffset, apertureRows_nil none_left]
        rw [row, none_left]
        exact ⟨⟨_, exec_issueDiscard hg hh, rfl⟩, issue_headKept hg⟩
      · obtain rfl : i = 64 := by omega
        have none_left := hf.tail.nothing_behind (by omega) (by omega)
        have row : apertureRows 64 (w :: ws) = [.cycleMark] := by
          simp [apertureRows_on ws on, issueOffset, markOffset, apertureRows_nil none_left]
        rw [row, none_left]
        exact ⟨⟨_, exec_cycleMark hg (hm w (by simp [part])), rfl⟩, markDuring_headKept hg⟩

end

section
variable {s : State} {a : BitVec 29} {rest : List Transaction}

theorem answerHead_eq {t : Transaction} (r : Response) (hq : s.port.queue = t :: rest) : answerHead r s = { s with
    port := { s.port with queue := rest, held := none }, out.responses := s.out.responses ++ [r] } := by
  simp [answerHead, respond, hq]

theorem decideHead_aperture {t : Transaction} (hg : s.arb.grant ≠ some .processor) (hq : s.port.queue = t :: rest)
    (hd : decideTransaction t s = .aperture) : decideHead s = apertureHead t s := by
  rw [decideHead_eq hg hq, hd]

/-- The readable words of the aperture as Table 1-7 has them. -/
theorem apertureValue_readable {o : Nat} (h : readableOffset o = true) : apertureValue o s =
    if o < 16 then s.mgmt.area.getD o 0
    else if o = 17 then statusWord s
    else if o < 48 then s.mgmt.results.getD (o - 32) 0
    else if o = 65 then eventWord s
    else summaryWord s := by
  rw [readableOffset_iff] at h
  simp only [apertureValue, statusOffset, resultOffset, eventOffset, summaryOffset]
  grind

theorem apertureAllows_of_checked {t : Transaction} (h : checkTransaction t s = none) (hi : inAperture t = true) :
    apertureAllows t = true := by
  unfold checkTransaction at h
  rw [hi] at h
  split at h
  · cases h
  · simpa using h

/-- What a write that passed the aperture's check may name. -/
theorem fitsAperture_of_checked {ws : List WriteWord} (h : checkTransaction (.write a ws) s = none)
    (hi : inAperture (.write a ws) = true) : FitsAperture (a.toNat / 8 - apertureBase) ws := by
  have allowed := apertureAllows_of_checked h hi
  intro j w hw
  have := (writableOffset_iff j).mp (List.all_eq_true.mp allowed (j, w) hw)
  omega

/-- A mark among the words of a write that is not held is not held either. -/
theorem markHold_of_decided {ws : List WriteWord} (hi : inAperture (.write a ws) = true)
    (hn : (holdFor (.write a ws) s).any = false) {w : WriteWord}
    (hw : (64, w) ∈ takingPart (a.toNat / 8 - apertureBase) ws) : (markHold s).any = false := by
  have mark : isMark (.write a ws) = true := by
    simp only [isMark, hi, Bool.true_and, List.any_eq_true]
    exact ⟨_, hw, rfl⟩
  simpa [holdFor, mark] using hn

end

/-- Settles O6: the words of a read one by one, the words of a write as the rows they stand for. -/
theorem apertureHeadIsCarriedOut : Obligations.ApertureHeadIsCarriedOut := by
  refine ⟨?_, ?_, ?_⟩
  · intro s a n rest hg hh hq hd status events word
    obtain ⟨passed, -, inside⟩ := decideTransaction_aperture hd
    have words : (List.range n).map (fun i => apertureValue (a.toNat / 8 - apertureBase + i) s) =
        (List.range n).map (fun i => word (a.toNat / 8 - 33554432 + i)) := by
      refine List.map_congr_left fun i hi => ?_
      have allowed := apertureAllows_of_checked passed inside
      exact apertureValue_readable (List.all_eq_true.mp allowed i hi)
    rw [exec_transactionDecide hh, decideHead_aperture hg hq hd, apertureHead, answerHead_eq _ hq, words]
  · intro s a ws rest hg hh hq hl hd
    obtain ⟨passed, not_held, inside⟩ := decideTransaction_aperture hd
    obtain ⟨run, queue, -⟩ := apertureRows_run (fitsAperture_of_checked passed inside) (by omega)
      (fun w => markHold_of_decided inside not_held) hg hh
    exact ⟨_, run, by
      rw [exec_transactionDecide hh, decideHead_aperture hg hq hd, apertureHead, answerHead_eq _ (queue.trans hq)]⟩
  · intro s a ws rest hg hh hq off hd
    have none_takes : takingPart (a.toNat / 8 - apertureBase) ws = [] := by
      rw [List.eq_nil_iff_forall_not_mem]
      rintro ⟨j, w⟩ hw
      obtain ⟨k, hk, on, -⟩ := mem_takingPart.mp hw
      exact on (off w (List.mem_of_getElem? hk))
    rw [exec_transactionDecide hh, decideHead_aperture hg hq hd, apertureHead, none_takes]
    exact congrArg Host.Outcome.next (answerHead_eq _ hq)

end Sys2Proof.Machine
end

section
namespace Sys2Proof.Machine
-- One proof after the other: side by side they pass the memory that the check allows.
set_option Elab.async false

/-! ### Held heads (R20) -/

section
variable {s t : State}

theorem Hold.ended_iff (before now : Hold) : before.ended now = true ↔
    (before.vote = true ∧ now.vote = false) ∨ (before.catchup = true ∧ now.catchup = false) ∨
      (before.rollback = true ∧ now.rollback = false) := by
  simp [Hold.ended, or_assoc]

theorem settle_ended {x : Transaction} {rest : List Transaction} {h : Hold} (hh : s.port.held = some h)
    (hq : s.port.queue = x :: rest) (he : h.ended (holdFor x s) = true) :
    settle s = decideHead { s with port.held := none } := by
  simp [settle, hh, hq, he]

theorem settle_stands {x : Transaction} {rest : List Transaction} {h : Hold} (hh : s.port.held = some h)
    (hq : s.port.queue = x :: rest) (he : h.ended (holdFor x s) = false) :
    settle s = { s with port.held := some (h.join (holdFor x s)) } := by
  simp [settle, hh, hq, he]

theorem runGrant_headKept {r : Requester} {body : State → State} (hb : ∀ u, HeadKept u (body u)) (s : State) :
    HeadKept s (runGrant r body s) := by
  unfold runGrant
  split
  · split
    · exact HeadKept.trans ⟨rfl, rfl⟩ (hb _)
    · exact ⟨rfl, rfl⟩
  · split
    · exact hb s
    · exact ⟨rfl, rfl⟩

theorem receiveFrame_headKept (l : LinkId) (kind : FrameKind) (raw : List Byte) {use : Frame → State → State}
    (hu : ∀ f u, HeadKept u (use f u)) (s : State) : HeadKept s (receiveFrame l kind raw use s) := by
  have bad : HeadKept s (countBad l s) := .of_port (by simp)
  have same : HeadKept s s := ⟨rfl, rfl⟩
  unfold receiveFrame
  dsimp only
  split
  · exact same
  · split
    · exact bad
    · rename_i f _
      split
      · exact same
      · split
        · exact hu f s
        · split
          · exact same
          · split
            · exact bad
            · exact HeadKept.trans (.of_port (by simp [restartSilence])) (hu f _)

theorem rollbackStep_headKept (h : s.arb.grant ≠ some .processor) : HeadKept s (rollbackStep s) := by
  unfold rollbackStep
  split
  · exact during_headKept (fun u => .of_port (by simp)) h
  · exact runGrant_headKept (fun u => .of_port (by simp)) s

theorem windowExpiry_headKept (h : s.arb.grant ≠ some .processor) : HeadKept s (windowExpiry s) := by
  unfold windowExpiry
  split
  · refine overGrant_headKept (fun u => ?_) h
    unfold resolveOpen
    split
    · exact .of_port (by simp)
    · exact ⟨rfl, rfl⟩
  · exact ⟨rfl, rfl⟩

theorem runDeferred_headKept (s : State) : HeadKept s (runDeferred s) := by
  unfold runDeferred
  split
  · exact .of_port (by simp)
  · exact ⟨rfl, rfl⟩

theorem giveCommand_headKept (code : Nat) (args : List Word) {run : State → State} (h : s.arb.grant ≠ some .processor)
    (hr : ∀ u, u.arb.grant ≠ some .processor → HeadKept u (run u)) : HeadKept s (giveCommand code args run s) := by
  unfold giveCommand
  rw [behindHead_other s h]
  exact HeadKept.trans (.of_port (by simp)) (issueWith_headKept (by simpa using h) hr)

/-- The commands that decide a held head again within their own event: each is an effect that leaves the head, and settling. -/
theorem exec_settles (c : Instr) (h : s.arb.grant ≠ some .processor) (hh : s.port.held ≠ none)
    (hc : c ∈ [Instr.voteWindowExpiry, .rollbackStep, .scrubStep, .copyStep, .lineCapture, .holdTimerExpiry, .catchupTimerExpiry,
        .release, .deferredCommandEffect, .issueDiscard, .transactionDecide] ∨
      (∃ l, c = .silenceTimerExpiry l) ∨ (∃ p v, c = .setParameter p v) ∨ (∃ w, c = .unknownCommand w) ∨
      (∃ l raw, c = .hailReceive l raw ∨ c = .beatReceive l raw ∨ c = .signReceive l raw ∨ c = .goReceive l raw ∨
        c = .abortReceive l raw)) :
    ∃ u, exec c s = .next (settle u) ∧ HeadKept s u := by
  have use {use : Frame → State → State} (hu : ∀ f u, (use f u).port = u.port) (f : Frame) (u : State) : HeadKept u (use f u) :=
    .of_port (hu f u)
  rcases hc with listed | ⟨l, rfl⟩ | ⟨p, v, rfl⟩ | ⟨w, rfl⟩ | ⟨l, raw, rfl | rfl | rfl | rfl | rfl⟩
  · simp only [List.mem_cons, List.not_mem_nil, or_false] at listed
    rcases listed with rfl | rfl | rfl | rfl | rfl | rfl | rfl | rfl | rfl | rfl | rfl
    · exact ⟨_, rfl, windowExpiry_headKept h⟩
    · exact ⟨_, rfl, rollbackStep_headKept h⟩
    · exact ⟨_, rfl, runGrant_headKept (fun u => .of_port (by simp)) s⟩
    · exact ⟨_, rfl, runGrant_headKept (fun u => .of_port (by simp)) s⟩
    · exact ⟨_, rfl, runGrant_headKept (fun u => .of_port (by simp)) s⟩
    · exact ⟨_, rfl, during_headKept (fun u => .of_port (by simp)) h⟩
    · exact ⟨_, rfl, during_headKept (fun u => .of_port (by simp)) h⟩
    · exact ⟨_, rfl, giveCommand_headKept _ _ h fun u _ => .of_port (by simp)⟩
    · exact ⟨_, rfl, runDeferred_headKept s⟩
    · refine ⟨_, rfl, ?_⟩
      rw [behindHead_other s h]
      exact issue_headKept h
    · refine ⟨s, ?_, rfl, rfl⟩
      obtain ⟨d, hd⟩ := Option.ne_none_iff_exists'.mp hh
      exact congrArg Host.Outcome.next (by simp [decideNext, hd])
  · exact ⟨_, rfl, during_headKept (fun u => .of_port (by simp)) h⟩
  · exact ⟨_, rfl, giveCommand_headKept _ _ h fun u => runSetParameter_headKept⟩
  · refine ⟨_, rfl, ?_⟩
    rw [behindHead_other s h]
    exact HeadKept.trans (.of_port (by simp)) (issueWith_headKept (by simpa using h) fun _ => runCommand_headKept)
  · exact ⟨_, rfl, during_headKept (receiveFrame_headKept _ _ _ (use fun f u => by simp)) h⟩
  · exact ⟨_, rfl, during_headKept (receiveFrame_headKept _ _ _ (use fun f u => by simp)) h⟩
  · exact ⟨_, rfl, during_headKept (receiveFrame_headKept _ _ _ (use fun f u => by simp)) h⟩
  · exact ⟨_, rfl, receiveFrame_headKept _ _ _ (use fun f u => by simp) s⟩
  · exact ⟨_, rfl, during_headKept (receiveFrame_headKept _ _ _ (use fun f u => by simp)) h⟩

end

/-- Settles O7: every such command ends in settling a state with the same head, and settling decides or keeps it. -/
theorem heldHeadIsDecidedAgain : Obligations.HeldHeadIsDecidedAgain := by
  refine ⟨?_, ?_⟩
  · intro s t rest h hh hq he
    rw [exec_transactionDecide rfl, settle_ended hh hq ((Hold.ended_iff _ _).mpr he)]
  · intro c s t x rest h hc hg hh hq ht
    obtain ⟨u, hu, queue, held⟩ := exec_settles (s := s) c (by simp [hg]) (by simp [hh]) hc
    obtain rfl := Host.Outcome.next.inj (ht.symm.trans hu)
    refine ⟨u, held.trans hh, queue.trans hq, fun he => ?_, fun he => ?_⟩
    · rw [exec_transactionDecide rfl, settle_ended (held.trans hh) (queue.trans hq) ((Hold.ended_iff _ _).mpr he)]
    · rw [settle_stands (held.trans hh) (queue.trans hq) (Bool.eq_false_iff.mpr fun e => he ((Hold.ended_iff _ _).mp e))]
      rfl

/-! ### Words written (R13, R15) -/

/-- The bytes of a sum of eight lanes. -/
theorem lane_of_sum (b : Nat → Nat) (hb : ∀ k, b k < 256) {i : Nat} (hi : i < 8) :
    (b 0 * 2 ^ (8 * 0) + b 1 * 2 ^ (8 * 1) + b 2 * 2 ^ (8 * 2) + b 3 * 2 ^ (8 * 3) + b 4 * 2 ^ (8 * 4) + b 5 * 2 ^ (8 * 5)
      + b 6 * 2 ^ (8 * 6) + b 7 * 2 ^ (8 * 7)) % 2 ^ 64 / 2 ^ (8 * i) % 2 ^ 8 = b i := by
  have := hb 0; have := hb 1; have := hb 2; have := hb 3; have := hb 4; have := hb 5; have := hb 6; have := hb 7
  interval_cases i <;> omega

theorem mergeLanes_lane (enables : BitVec 8) (new old : Word) {i : Nat} (hi : i < 8) :
    (mergeLanes enables new old).extractLsb' (8 * i) 8 =
      if enables.getLsbD i then new.extractLsb' (8 * i) 8 else old.extractLsb' (8 * i) 8 := by
  have lane := lane_of_sum (fun k => if enables.getLsbD k then new.toNat / 2 ^ (8 * k) % 256 else old.toNat / 2 ^ (8 * k) % 256)
    (fun k => by split <;> omega) hi
  apply BitVec.eq_of_toNat_eq
  rw [BitVec.extractLsb'_toNat, Nat.shiftRight_eq_div_pow, mergeLanes, wordOf, BitVec.toNat_ofNat, lane]
  split <;> simp [Nat.shiftRight_eq_div_pow]

/-- Settles O12: a lane of the merge is a byte of the sum it is built as. -/
theorem lanesAreReplacedWhereEnabled : Obligations.LanesAreReplacedWhereEnabled :=
  ⟨fun enables new old _ hi => mergeLanes_lane enables new old hi, fun _ _ _ _ _ => rfl⟩

section
variable {s : State} {a p : Nat} {v : Word}

theorem writeWord_mem_of_none (h : secondPlace s a = none) :
    (writeWord a v s).mem = s.mem.write (readPlace s a) (goodWord a v) := by
  simp [writeWord, h]

theorem writeWord_mem_of_some {b : Nat} (h : secondPlace s a = some b) :
    (writeWord a v s).mem = (s.mem.write (readPlace s a) (goodWord a v)).write b (goodWord a v) := by
  simp [writeWord, h]

theorem writeWord_reads_back (hw : s.mem.wf = true) (hp : p = readPlace s a ∨ secondPlace s a = some p) :
    (writeWord a v s).mem.read p = goodWord a v := by
  have first := Memory.read_write_same s.mem (readPlace s a) (goodWord a v) hw
  cases h : secondPlace s a with
  | none =>
    obtain rfl : p = readPlace s a := by simpa [h] using hp
    rw [writeWord_mem_of_none h, first]
  | some b =>
    rw [writeWord_mem_of_some h]
    by_cases same : p = b
    · rw [same, Memory.read_write_same _ _ _ (Memory.write_wf _ _ _ hw)]
    · obtain rfl : p = readPlace s a := by simpa [h, Ne.symm same] using hp
      rw [Memory.read_write_other _ _ _ _ same, first]

theorem writeWord_elsewhere (h1 : p ≠ readPlace s a) (h2 : secondPlace s a ≠ some p) :
    (writeWord a v s).mem.read p = s.mem.read p := by
  cases h : secondPlace s a with
  | none => rw [writeWord_mem_of_none h, Memory.read_write_other _ _ _ _ h1]
  | some b =>
    have other : p ≠ b := fun e => h2 (by rw [h, e])
    rw [writeWord_mem_of_some h, Memory.read_write_other _ _ _ _ other, Memory.read_write_other _ _ _ _ h1]

theorem readPlace_of_spare {t : State} (h : t.spare = s.spare) (hp : t.mgmt.params = s.mgmt.params) (a : Nat) :
    readPlace t a = readPlace s a := by
  simp only [readPlace, readLine, spareLine, copyingSpare, activeSpare, h, hp]

theorem readPlace_writeWord (a b : Nat) (v : Word) (s : State) : readPlace (writeWord a v s) b = readPlace s b :=
  readPlace_of_spare (by simp) (by simp) b

end

/-- Settles O11: the places of a word do not move when it is written. -/
theorem writtenWordReadsBack : Obligations.WrittenWordReadsBack := by
  intro s a v hw
  refine ⟨?_, fun p => writeWord_reads_back hw, fun p => writeWord_elsewhere, writeWord_frame a v s⟩
  rw [storedAt, readPlace_writeWord, writeWord_reads_back hw (.inl rfl), decode_goodWord]

end Sys2Proof.Machine
end

section
namespace Sys2Proof.Machine
-- One proof after the other: side by side they pass the memory that the check allows.
set_option Elab.async false

/-! ### The command protocol (R173 to R175) -/

section
variable {s u : State} {code : Nat} {args : List Word} {run : State → State}

theorem acceptIssue_of_placed (h : s.mgmt.area = placed code args s.mgmt) : acceptIssue s = underWay code args s := by
  have first : (placed code args s.mgmt).getD 0 0 = wordOf code := rfl
  simp only [acceptIssue, underWay, ended, h, first, resultWords, List.nil_append]

/-- A command given while the unit is free runs from the state in which it is under way. -/
theorem giveCommand_free (h : free s) : giveCommand code args run s = run (underWay code args s) := by
  obtain ⟨idle, hg⟩ := h
  have accepted : acceptIssue (placeWords (wordOf code :: args) s) = underWay code args s := rfl
  rw [giveCommand, behindHead_other s hg, issueWith, if_neg (by simpa using idle), accepted]

/-- A command given while STATUS is BUSY is discarded, its words standing in the command area. -/
theorem giveCommand_busy (h : s.mgmt.phase = .busy) (hg : s.arb.grant ≠ some .processor) :
    giveCommand code args run s = { s with mgmt := { s.mgmt with area := placed code args s.mgmt, overrun := true } } := by
  rw [giveCommand, behindHead_other s hg, issueWith, if_pos (by simpa using h)]
  rfl

theorem finish_underWay (ws : List Word) : finish ws (underWay code args s) = done code args ws s := rfl

theorem refuse_underWay (r : RefusalCode) : refuse r (underWay code args s) = turnedAway code args r s := rfl

theorem toNat_of_code {n : Nat} (hn : (wordOf n).toNat = n) (h : u.mgmt.command = wordOf n) : u.mgmt.command.toNat = n := by
  rw [h, hn]

/-- The command of each row of Table 10-2, and its way of running. -/
theorem exec_command {c : Instr} (hc : commandOf c = some (code, args)) :
    ∃ (run wrap : State → State), (wrap = id ∨ wrap = settle) ∧ (∀ s, exec c s = .next (wrap (giveCommand code args run s))) ∧
      ∀ u, u.mgmt.command = wordOf code → runCommand u = run u := by
  cases c <;> cases hc
  case setParameter p v =>
    exact ⟨runSetParameter, settle, .inr rfl, fun _ => rfl, fun u h => by simp only [runCommand, toNat_of_code rfl h]⟩
  case release => exact ⟨runRelease, settle, .inr rfl, fun _ => rfl, fun u h => by simp only [runCommand, toNat_of_code rfl h]⟩
  all_goals exact ⟨_, id, .inl rfl, fun _ => rfl, fun u h => by simp only [runCommand, toNat_of_code rfl h]⟩

theorem runCommand_unknown (h : u.mgmt.command.toNat = 0 ∨ 19 < u.mgmt.command.toNat) :
    runCommand u = refuse .unknownCommand u := by
  unfold runCommand
  generalize u.mgmt.command.toNat = n at h
  split <;> first | rfl | omega

theorem wordOf_toNat (w : Word) : wordOf w.toNat = w := by simp [wordOf]

/-- The processor's own step leaves what its grant leaves, with no grant under way. -/
theorem behindHead_of_step (hg : s.arb.grant = some .processor) (hu : exec (stepOf .processor s) s = .next u) :
    behindHead u = behindHead s := by
  have direction : headDirection s = none ∨ headDirection s = some .read ∨ headDirection s = some .write := by
    rcases headDirection s with _ | _ | _ <;> simp
  have granted : headDirection s ≠ none → u = processorBody { s with arb.grant := none } := by
    intro some_head
    rcases direction with h | h | h
    · exact absurd h some_head
    · have step : exec (stepOf .processor s) s = .next (processorGrant .read s) := by simp only [stepOf, h]; rfl
      obtain rfl := Host.Outcome.next.inj (hu.symm.trans step)
      rw [processorGrant, if_pos h, runGrant_given _ _ _ hg]
    · have step : exec (stepOf .processor s) s = .next (processorGrant .write s) := by simp only [stepOf, h]; rfl
      obtain rfl := Host.Outcome.next.inj (hu.symm.trans step)
      rw [processorGrant, if_pos h, runGrant_given _ _ _ hg]
  by_cases empty : headDirection s = none
  · have step : exec (stepOf .processor s) s = .next (processorGrant .read s) := by simp only [stepOf, empty]; rfl
    obtain rfl := Host.Outcome.next.inj (hu.symm.trans step)
    rw [processorGrant, if_neg (by simp [empty])]
  · obtain rfl := granted empty
    have ended : behindHead s = processorBody { s with arb.grant := none } := by
      simp only [behindHead, hg, endGrant, grantBody, grantWork, followGrant, processorBody]
      rfl
    rw [ended, behindHead_other _ (by simp)]

end

/-- Settles O13: every row gives its command in one way, and ISSUE runs what stands in the area. -/
theorem issueIsAcceptedOrDiscarded : Obligations.IssueIsAcceptedOrDiscarded := by
  have wrapped {wrap : State → State} {t : State} (hw : wrap = id ∨ wrap = settle) (h : t.port.held = none) : wrap t = t := by
    rcases hw with rfl | rfl
    · rfl
    · exact settle_none t h
  refine ⟨?_, ?_, ?_, ?_, ?_⟩
  · intro s busy hg
    constructor
    · have discarded : issue s = { s with mgmt.overrun := true } := if_pos busy
      calc exec .issueDiscard s = .next (settle (issue (behindHead s))) := rfl
        _ = _ := by rw [behindHead_other s hg, discarded]
    · intro hh c code args hc
      obtain ⟨run, wrap, hw, hx, -⟩ := exec_command hc
      rw [hx, giveCommand_busy busy hg]
      exact congrArg Host.Outcome.next (wrapped hw hh)
  · intro s ⟨idle, hg⟩ taken
    have accepted : exec .issueDiscard s = .next (settle (runCommand (acceptIssue s))) := by
      calc exec .issueDiscard s = .next (settle (issue (behindHead s))) := rfl
        _ = _ := by rw [behindHead_other s hg, issue, issueWith, if_neg idle]
    constructor
    · intro force
      have runs : runCommand (acceptIssue s) = runForceFault (acceptIssue s) := by
        have code : (acceptIssue s).mgmt.command.toNat = 18 := force
        simp only [runCommand, code]
      rw [accepted, runs]
      rfl
    · intro unknown
      have runs : runCommand (acceptIssue s) = refuse .unknownCommand (acceptIssue s) := runCommand_unknown unknown
      rw [accepted, runs]
      rfl
  · intro code s ⟨idle, hg⟩ unknown
    have accepted : acceptIssue (placeWords [code] s) = underWay code.toNat [] s := by
      unfold underWay ended placed
      rw [wordOf_toNat]
      rfl
    have runs : runCommand (underWay code.toNat [] s) = turnedAway code.toNat [] .unknownCommand s := by
      have same : (underWay code.toNat [] s).mgmt.command = code := wordOf_toNat code
      rw [runCommand_unknown (by rw [same]; exact unknown), refuse_underWay]
    calc exec (.unknownCommand code) s = .next (settle (issueWith runCommand (placeWords [code] (behindHead s)))) := rfl
      _ = _ := by rw [behindHead_other s hg, issueWith, if_neg (by simpa using idle), accepted, runs]
  · intro c code args s hc hf hh harea
    obtain ⟨run, wrap, hw, hx, hr⟩ := exec_command hc
    have runs : issue s = run (underWay code args s) := by
      rw [issue, issueWith, if_neg hf.1, acceptIssue_of_placed harea, hr _ rfl]
    have kept : (run (underWay code args s)).port.held = none := by
      rw [← runs]
      exact (issue_headKept hf.2).2.trans hh
    rw [hx, giveCommand_free hf, wrapped hw kept, exec_issueDiscard hf.2 hh, runs]
  · intro c s u hc hg hu
    have same := behindHead_of_step hg hu
    rcases hc with ⟨code, args, hc⟩ | rfl | rfl | ⟨w, rfl⟩
    · obtain ⟨run, wrap, -, hx, -⟩ := exec_command hc
      rw [hx, hx, giveCommand, giveCommand, same]
    · change Host.Outcome.next (settle (issue (behindHead s))) = .next (settle (issue (behindHead u)))
      rw [same]
    · change Host.Outcome.next (decideMark (behindHead s)) = .next (decideMark (behindHead u))
      rw [same]
    · change Host.Outcome.next (settle (issueWith runCommand (placeWords [w] (behindHead s)))) =
        .next (settle (issueWith runCommand (placeWords [w] (behindHead u))))
      rw [same]

/-! ### Tables, keys, the latch, the counters (R4, R59, R181, R187) -/

section
variable {s : State} {code : Nat}

theorem loading_iff (st : ChannelState) : st.loading = true ↔ st = .unconfigured ∨ st = .configured := by
  cases st <;> simp [ChannelState.loading]

theorem not_loading_iff (st : ChannelState) : st.loading = false ↔ ¬ (st = .unconfigured ∨ st = .configured) := by
  rw [← loading_iff, Bool.not_eq_true]

theorem regionClassOf_code (c : RegionClass) : regionClassOf c.code = some c := by cases c <;> rfl

theorem regionClassOf_none {n : Nat} (h : n = 0 ∨ 5 < n) : regionClassOf n = none := by
  unfold regionClassOf
  split <;> first | rfl | omega

theorem keyFits_iff (k : Nat) : keyFits k = true ↔ 1 ≤ k ∧ k ≤ 2 ^ 61 - 2 :=
  decide_eq_true_iff.trans (by unfold modulus; omega)

theorem flagArg_eq (w : Word) : flagArg w = decide (w ≠ 0) := by
  simp [flagArg, ← BitVec.toNat_inj]

end

/-- Settles O14: each command's checks in their order. -/
theorem regionsAndKeysAreLoaded : Obligations.RegionsAndKeysAreLoaded := by
  refine ⟨fun s hf => ⟨?_, ?_⟩, ?_⟩
  · intro i b n c f
    have given : exec (.loadRegion i b n c f) s = .next (runLoadRegion (underWay 1 [i, b, n, c, f] s)) :=
      congrArg Host.Outcome.next (giveCommand_free hf)
    have runs : runLoadRegion (underWay 1 [i, b, n, c, f] s) =
        if !s.csr.state.loading then turnedAway 1 [i, b, n, c, f] .wrongState s
        else if 15 < i.toNat ∨ n.toNat = 0 ∨ 131072 < n.toNat ∨ 131072 < b.toNat + n.toNat then
          turnedAway 1 [i, b, n, c, f] .badArgument s
        else match regionClassOf c.toNat with
          | none => turnedAway 1 [i, b, n, c, f] .badArgument s
          | some k => { done 1 [i, b, n, c, f] [] s with
              regions.loaded := s.regions.loaded.set i.toNat
                { valid := true, base := b.toNat, count := n.toNat, cls := k, scrub := flagArg f } } := rfl
    rw [given, runs]
    refine ⟨fun h => ?_, fun h bad => ?_, fun h hi hn hb k hk => ?_⟩
    · rw [if_pos (by simpa using (not_loading_iff _).mpr h)]
    · rw [if_neg (by simpa using (loading_iff _).mpr h)]
      by_cases range : 15 < i.toNat ∨ n.toNat = 0 ∨ 131072 < n.toNat ∨ 131072 < b.toNat + n.toNat
      · rw [if_pos range]
      · rw [if_neg range, regionClassOf_none (by omega)]
    · rw [if_neg (by simpa using (loading_iff _).mpr h), if_neg (by omega), hk, regionClassOf_code, flagArg_eq]
  · intro i
    have given : exec (.clearRegion i) s = .next (runClearRegion (underWay 2 [i] s)) :=
      congrArg Host.Outcome.next (giveCommand_free hf)
    have runs : runClearRegion (underWay 2 [i] s) =
        if !s.csr.state.loading then turnedAway 2 [i] .wrongState s
        else if 15 < i.toNat then turnedAway 2 [i] .badArgument s
        else { done 2 [i] [] s with
          regions.loaded := s.regions.loaded.set i.toNat
            { valid := false, base := 0, count := 0, cls := .plain, scrub := false } } := rfl
    rw [given, runs]
    refine ⟨fun h => ?_, fun h bad => ?_, fun h hi => ?_⟩
    · rw [if_pos (by simpa using (not_loading_iff _).mpr h)]
    · rw [if_neg (by simpa using (loading_iff _).mpr h), if_pos bad]
    · rw [if_neg (by simpa using (loading_iff _).mpr h), if_neg (by omega)]
  · intro a b c s hf loading fit
    have given : exec (.setKeys a b c) s = .next (runSetKeys (underWay 3 [a, b, c] s)) :=
      congrArg Host.Outcome.next (giveCommand_free hf)
    have runs : runSetKeys (underWay 3 [a, b, c] s) =
        if !s.csr.state.loading then turnedAway 3 [a, b, c] .wrongState s
        else if keyFits a.toNat && keyFits b.toNat && keyFits c.toNat then
          { done 3 [a, b, c] [] s with
            sig.loadedKeys := { k1 := a.toNat, k2 := b.toNat, k3 := c.toNat }, sig.keysSet := true }
        else turnedAway 3 [a, b, c] .badArgument s := rfl
    have fits : (keyFits a.toNat && keyFits b.toNat && keyFits c.toNat) = true ↔ fit a ∧ fit b ∧ fit c := by
      simp only [Bool.and_eq_true, keyFits_iff, and_assoc, fit]
    rw [given, runs]
    refine ⟨fun h => ?_, fun h bad => ?_, fun h ha hb hc => ?_⟩
    · rw [if_pos (by simpa using (not_loading_iff _).mpr h)]
    · rw [if_neg (by simpa using (loading_iff _).mpr h), if_neg (fun e => bad (fits.mp e))]
    · rw [if_neg (by simpa using (loading_iff _).mpr h), if_pos (fits.mpr ⟨ha, hb, hc⟩)]

/-- Settles O28: the two commands end at once, and the output is the disjunction that `faultLevel` computes. -/
theorem faultCommandsDriveTheLatch : Obligations.FaultCommandsDriveTheLatch := by
  intro s hf
  refine ⟨congrArg Host.Outcome.next (giveCommand_free hf), congrArg Host.Outcome.next (giveCommand_free hf), ?_⟩
  simp [faultLevel]

/-- Settles O27, group by group. -/
theorem readCountersReturnsAndClears : Obligations.ReadCountersReturnsAndClears := by
  intro g c s hf after
  have given : exec (.readCounters g c) s = .next (runReadCounters (underWay 16 [g, c] s)) :=
    congrArg Host.Outcome.next (giveCommand_free hf)
  have runs : runReadCounters (underWay 16 [g, c] s) = match groupWords g.toNat s with
      | none => turnedAway 16 [g, c] .badArgument s
      | some ws => finish ws (if flagArg c then clearCounters (underWay 16 [g, c] s) else underWay 16 [g, c] s) := rfl
  have ends (ws : List Word) : finish ws (if flagArg c then clearCounters (underWay 16 [g, c] s) else underWay 16 [g, c] s) =
      after (done 16 [g, c] ws s) := by
    rw [flagArg_eq]
    by_cases zero : c = 0
    · rw [if_neg (decide_eq_true_iff.not.mpr (not_not_intro zero))]
      exact (if_pos zero).symm
    · rw [if_pos (decide_eq_true zero)]
      exact (if_neg zero).symm
  rw [given, runs]
  refine ⟨fun h => ?_, fun h => ?_, fun h1 h2 => ?_⟩
  · rw [h]
    exact congrArg Host.Outcome.next (ends _)
  · rw [h]
    exact congrArg Host.Outcome.next (ends _)
  · have none_named : groupWords g.toNat s = none := by
      unfold groupWords
      split
      · exact absurd ‹_› h1
      · exact absurd ‹_› h2
      · rfl
    rw [none_named]

/-- Settles O21, from the three outcomes of the command's checks. -/
theorem sealStartsTheSealWalk : Obligations.SealStartsTheSealWalk := by
  intro s hf
  have given : exec .seal s = .next (runSeal (underWay 9 [] s)) := congrArg Host.Outcome.next (giveCommand_free hf)
  have runs : runSeal (underWay 9 [] s) =
      if s.csr.state ≠ .configured then turnedAway 9 [] .wrongState s
      else if engineRunning s then turnedAway 9 [] .engineBusy s
      else finish [1] (startWalk .seal (changeState .sealing .seal (underWay 9 [] s))) := rfl
  rw [given, runs]
  refine ⟨fun h => ?_, fun h busy => ?_, fun h hp hi => ?_⟩
  · rw [if_pos h]
  · rw [if_neg (by simpa using h), if_pos (by simpa [engineRunning] using busy)]
  · rw [if_neg (by simpa using h), if_neg (by simp [engineRunning, hp, hi])]
    intro s1
    rw [changeState, handStateChange, hand_as_evAfter]
    refine congrArg Host.Outcome.next ?_
    have record : evAfter .stateChange Cause.seal.code (.channelState .configured) (wordOf s.csr.committed.toNat)
        (setState .sealing (underWay 9 [] s)) =
        evAfter .stateChange 2 (.channelState .configured) (wordOf s.csr.committed.toNat) s1 :=
      evAfter_of _ _ _ _ _ _ rfl rfl rfl rfl
    rw [← record, ← h]
    rfl

end Sys2Proof.Machine
end

section
namespace Sys2Proof.Machine
-- One proof after the other: side by side they pass the memory that the check allows.
set_option Elab.async false

/-! ### Parameters (R176) -/

section
variable {s : State} {n lo hi : Nat} {w : ChannelState → Bool} {put : Params → Nat → Params}

theorem clamp_eq {lo hi v : Nat} (h : lo ≤ hi) : clamp lo hi v = min hi (max lo v) := by
  unfold clamp
  split
  · omega
  · split <;> omega

theorem clampedParameter_bounds (h : clampedParameter n = some (lo, hi, w, put)) : lo ≤ hi := by
  unfold clampedParameter at h
  split at h <;> cases h <;> decide

theorem runSetParameter_clamped (h : clampedParameter (arg s 1) = some (lo, hi, w, put)) :
    runSetParameter s = setClamped (w s.csr.state) lo hi (arg s 2) put s := by
  unfold runSetParameter
  generalize arg s 1 = n at h
  unfold clampedParameter at h
  split at h <;> cases h <;> rfl

theorem runSetParameter_unnamed (h : arg s 1 = 0 ∨ 17 < arg s 1) : runSetParameter s = refuse .badArgument s := by
  unfold runSetParameter
  generalize arg s 1 = n at h
  split <;> first | rfl | omega

theorem identityOf_code (i : Identity) : identityOf i.code = some i := by cases i <;> rfl

theorem identityOf_none (h : n = 0 ∨ 3 < n) : identityOf n = none := by
  unfold identityOf
  split <;> first | rfl | omega

end

/-- Settles O15: the clamped parameters by their table, the other three one by one. -/
theorem setParameterClampsAndStores : Obligations.SetParameterClampsAndStores := by
  intro p v s hf
  have given : exec (.setParameter p v) s = .next (settle (runSetParameter (underWay 4 [p, v] s))) :=
    congrArg (fun t => Host.Outcome.next (settle t)) (giveCommand_free hf)
  have named {n : Nat} (h : p.toNat = n) : arg (underWay 4 [p, v] s) 1 = n := h
  rw [given]
  refine ⟨fun lo hi w put hc => ?_, fun h => ?_, fun h => ?_, fun h => ?_, fun h => ?_⟩
  · have runs : runSetParameter (underWay 4 [p, v] s) = setClamped (w s.csr.state) lo hi v.toNat put (underWay 4 [p, v] s) :=
      runSetParameter_clamped hc
    rw [runs, setClamped, clamp_eq (clampedParameter_bounds hc)]
    exact ⟨fun h => by rw [h]; rfl, fun h => by rw [h]; rfl⟩
  · rw [runSetParameter_unnamed (s := underWay 4 [p, v] s) h]
    rfl
  · have runs : runSetParameter (underWay 4 [p, v] s) = setChannelId v.toNat (underWay 4 [p, v] s) := by
      simp only [runSetParameter, named h]
      rfl
    have opened : setChannelId v.toNat (underWay 4 [p, v] s) =
        if s.csr.state ≠ .unconfigured then turnedAway 4 [p, v] .wrongState s
        else match identityOf v.toNat with
          | none => turnedAway 4 [p, v] .badArgument s
          | some i => { s with
              mgmt := { ended 4 [p, v] .done none [wordOf v.toNat] s.mgmt with params.channelId := some i } } := rfl
    rw [runs, opened, wordOf_toNat]
    refine ⟨fun h => ?_, fun h hv => ?_, fun h i hv => ?_⟩
    · rw [if_pos h]
    · rw [if_neg (by simpa using h), identityOf_none hv]
    · rw [if_neg (by simpa using h), hv, identityOf_code]
  · have runs : runSetParameter (underWay 4 [p, v] s) = setMemoryLines v.toNat (underWay 4 [p, v] s) := by
      simp only [runSetParameter, named h]
      rfl
    have opened : setMemoryLines v.toNat (underWay 4 [p, v] s) =
        if s.csr.state ≠ .unconfigured then turnedAway 4 [p, v] .wrongState s
        else if v.toNat < 64 ∨ 131072 < v.toNat then turnedAway 4 [p, v] .badArgument s
        else { s with mgmt := { ended 4 [p, v] .done none [wordOf v.toNat] s.mgmt with params.memoryLines := v.toNat } } := rfl
    rw [runs, opened, wordOf_toNat]
    refine ⟨fun h => ?_, fun h hv => ?_, fun h hl hu => ?_⟩
    · rw [if_pos h]
    · rw [if_neg (by simpa using h), if_pos hv]
    · rw [if_neg (by simpa using h), if_neg (by omega)]
  · have runs : runSetParameter (underWay 4 [p, v] s) = setIntMask v (underWay 4 [p, v] s) := by
      simp only [runSetParameter, named h]
      rfl
    rw [runs]
    rfl

/-! ### RETIRE-LINE (R46) -/

section
variable {s t : State} {l : Nat}

theorem evictedFirst_iff (x y : Suspect) :
    evictedFirst x y = true ↔ x.count < y.count ∨ (x.count = y.count ∧ y.recency < x.recency) := by
  simp [evictedFirst]

/-- With no victim every entry is spare-pending. -/
theorem pending_of_victim_none {t : List (Option Suspect)} {i : Nat} {e : Suspect} (h : victim t i = none) (he : some e ∈ t) :
    e.pending = true := by
  induction t generalizing i with
  | nil => simp at he
  | cons o t ih =>
    cases o with
    | none => exact ih h (by simpa using he)
    | some y =>
      rw [victim] at h
      split at h
      · rename_i pending
        rcases List.mem_cons.mp he with same | later
        · obtain rfl := Option.some.inj same
          exact pending
        · exact ih h later
      · split at h
        · cases h
        · split at h <;> cases h

/-- The victim comes before every entry that is not spare-pending: its count is lower, or equal with no higher recency. -/
theorem victim_least {t : List (Option Suspect)} {i j : Nat} {x e : Suspect} (h : victim t i = some (j, x))
    (he : some e ∈ t) (hp : e.pending = false) : x.count < e.count ∨ (x.count = e.count ∧ e.recency ≤ x.recency) := by
  induction t generalizing i j x with
  | nil => simp at he
  | cons o t ih =>
    cases o with
    | none => exact ih h (by simpa using he)
    | some y =>
      rw [victim] at h
      split at h
      · rename_i pending
        have other : e ≠ y := fun same => by simp [← same, hp] at pending
        exact ih h (by simpa [other] using he)
      · split at h
        · rename_i none_left
          obtain ⟨-, rfl⟩ := Prod.mk.inj (Option.some.inj h)
          rcases List.mem_cons.mp he with same | later
          · obtain rfl := Option.some.inj same
            exact .inr ⟨rfl, Nat.le_refl _⟩
          · have stands := pending_of_victim_none none_left later
            simp [hp] at stands
        · rename_i k z found
          split at h
          · rename_i first
            obtain ⟨-, rfl⟩ := Prod.mk.inj (Option.some.inj h)
            rcases List.mem_cons.mp he with same | later
            · obtain rfl := Option.some.inj same
              have := (evictedFirst_iff _ _).mp first
              omega
            · exact ih found later
          · rename_i not_first
            obtain ⟨-, rfl⟩ := Prod.mk.inj (Option.some.inj h)
            rcases List.mem_cons.mp he with same | later
            · obtain rfl := Option.some.inj same
              exact .inr ⟨rfl, Nat.le_refl _⟩
            · have least := ih found later
              have := mt (evictedFirst_iff _ _).mpr not_first
              omega

theorem placeSuspect_of_firstEmpty {t : List (Option Suspect)} {i : Nat} (x : Suspect) (h : firstEmpty t 0 = some i) :
    placeSuspect x t = some ((moveDown 16 t).set i (some x)) := by
  simp [placeSuspect, h]

theorem placeSuspect_of_victim {t : List (Option Suspect)} {i : Nat} {v : Suspect} (x : Suspect) (h : firstEmpty t 0 = none)
    (hv : victim t 0 = some (i, v)) : placeSuspect x t = some ((moveDown v.recency t).set i (some x)) := by
  simp [placeSuspect, h, hv]

/-- A held line is marked, with its count reported. -/
theorem retireSuspect_held {e : Suspect} (h : findSuspect s.spare.suspects l = some e) (hp : e.pending = false) :
    retireSuspect l s = some { s with
      spare.suspects := s.spare.suspects.map (Option.map (fun x => if x.line = l then { x with pending := true } else x))
      ev := evAfter .lineSuspect 3 (.line l) (wordOf e.count) s } := by
  unfold retireSuspect
  rw [h]
  dsimp only
  rw [if_neg (by simp [hp]), hand_as_evAfter]
  congr 2
  exact evAfter_of _ _ _ _ _ _ rfl rfl rfl rfl

theorem retireSuspect_pending {e : Suspect} (h : findSuspect s.spare.suspects l = some e) (hp : e.pending = true) :
    retireSuspect l s = some s := by
  simp [retireSuspect, h, hp]

/-- An unheld line enters the table that has been made for it. -/
theorem retireSuspect_placed {t : List (Option Suspect)} (h : findSuspect s.spare.suspects l = none)
    (ht : placeSuspect { line := l, count := 1, recency := 0, pending := true } s.spare.suspects = some t) :
    retireSuspect l s = some { s with spare.suspects := t, ev := evAfter .lineSuspect 3 (.line l) 1 s } := by
  unfold retireSuspect
  rw [h]
  dsimp only
  rw [ht]
  dsimp only
  rw [hand_as_evAfter]
  congr 2
  exact evAfter_of _ _ _ _ _ _ rfl rfl rfl rfl

theorem retireSuspect_full (h : findSuspect s.spare.suspects l = none)
    (ht : placeSuspect { line := l, count := 1, recency := 0, pending := true } s.spare.suspects = none) :
    retireSuspect l s = none := by
  simp [retireSuspect, h, ht]

end

/-- Settles O24, from what becomes of the line in the suspect table. -/
theorem retireLineMakesTheLinePending : Obligations.RetireLineMakesTheLinePending := by
  refine ⟨fun line s hf => ?_, fun t i v h => ?_⟩
  · have given : exec (.retireLine line) s = .next (runRetireLine (underWay 13 [line] s)) :=
      congrArg Host.Outcome.next (giveCommand_free hf)
    have runs : runRetireLine (underWay 13 [line] s) =
        if s.csr.state = .unconfigured then turnedAway 13 [line] .wrongState s
        else match regionOf s line.toNat with
          | none => turnedAway 13 [line] .badArgument s
          | some _ => match retireSuspect line.toNat (underWay 13 [line] s) with
            | none => turnedAway 13 [line] .engineBusy s
            | some t => finish [] t := rfl
    have taken (hs : s.csr.state ≠ .unconfigured) (hr : regionOf s line.toNat ≠ none) :
        runRetireLine (underWay 13 [line] s) = match retireSuspect line.toNat (underWay 13 [line] s) with
          | none => turnedAway 13 [line] .engineBusy s
          | some t => finish [] t := by
      obtain ⟨r, hr⟩ := Option.ne_none_iff_exists'.mp hr
      rw [runs, if_neg hs, hr]
    have same (v : Word) : evAfter .lineSuspect 3 (.line line.toNat) v (underWay 13 [line] s) =
        evAfter .lineSuspect 3 (.line line.toNat) v s := evAfter_of _ _ _ _ _ _ rfl rfl rfl rfl
    rw [given]
    refine ⟨fun h => ?_, fun hs hr => ?_, fun hs hr => ⟨fun e he hp => ?_, fun e he hp => ?_, fun he => ⟨fun i hi => ?_,
      fun i v hi hv => ?_, fun full => ?_⟩⟩⟩
    · rw [runs, if_pos h]
    · rw [runs, if_neg hs, hr]
    · rw [taken hs hr, retireSuspect_pending (s := underWay 13 [line] s) he hp]
      rfl
    · rw [taken hs hr, retireSuspect_held (s := underWay 13 [line] s) he hp, same]
      rfl
    · rw [taken hs hr, retireSuspect_placed (s := underWay 13 [line] s) he (placeSuspect_of_firstEmpty _ hi), same]
      rfl
    · rw [taken hs hr, retireSuspect_placed (s := underWay 13 [line] s) he (placeSuspect_of_victim _ hi hv), same]
      rfl
    · rw [taken hs hr, retireSuspect_full (s := underWay 13 [line] s) he (placeSuspect_none _ full)]
  · obtain ⟨m, rfl, hm, hp⟩ := victim_stands h
    rw [Nat.zero_add]
    exact ⟨hm, hp, fun e he => victim_least h he⟩

end Sys2Proof.Machine
end

section
namespace Sys2Proof.Machine
-- One proof after the other: side by side they pass the memory that the check allows.
set_option Elab.async false

/-! ### EVENT-ACK and the records (R183 to R186) -/

section
variable {s : State}

/-- The record of the withheld kinds (R186). -/
def summaryOf (s : State) : EventRecord :=
  { kind := .summary, detail := 0, state := s.csr.state, cycle := s.csr.counter, subject := .none, value := s.ev.withheld }

/-- The effects of R185 and R186, item by item. -/
theorem acknowledge_eq (n : Nat) (s : State) :
    let cap := eventCapacity s
    let acked := ringDistance n s.ev.consumer cap
    let room := s.ev.withheld ≠ 0 ∧ ringDistance s.ev.producer n cap + s.ev.waiting.length < cap - 1
    let int := (s.ev.kinds.drop acked).any (fun k => kindIn k s.mgmt.params.intMask)
    acknowledge n s = { s with ev := { s.ev with
      consumer := n, kinds := s.ev.kinds.drop acked, intLevel := int, intBusy := int
      withheld := if room then 0 else s.ev.withheld
      waiting := if room then atFront (summaryOf s) s else s.ev.waiting } } := by
  intro cap acked room int
  let moved : State := { s with
    ev.consumer := n, ev.kinds := s.ev.kinds.drop acked, ev.intLevel := false, ev.intBusy := false }
  have opened : acknowledge n s =
      if int then { (if room then handSummary moved else moved) with ev.intLevel := true, ev.intBusy := true }
      else if room then handSummary moved else moved := by
    have same : (if room then handSummary moved else moved).ev.kinds.any
        (fun k => kindIn k (if room then handSummary moved else moved).mgmt.params.intMask) = int := by
      split <;> rfl
    rw [← same]
    rfl
  rw [opened]
  by_cases h : room
  · simp only [h, if_true]
    cases int <;> rfl
  · simp only [h, if_false]
    cases int <;> rfl

end

/-- Settles O25: the checks in their order, then the acknowledgement item by item. -/
theorem eventAckMovesTheConsumer : Obligations.EventAckMovesTheConsumer := by
  intro index s hf n cap acked held left
  have given : exec (.eventAck index) s = .next (runEventAck (underWay 14 [index] s)) :=
    congrArg Host.Outcome.next (giveCommand_free hf)
  have runs : runEventAck (underWay 14 [index] s) =
      if s.csr.state = .unconfigured then turnedAway 14 [index] .wrongState s
      else if cap ≤ n then turnedAway 14 [index] .badArgument s
      else if held < acked then turnedAway 14 [index] .badArgument s
      else finish [wordOf n, wordOf (unacknowledged (acknowledge n (underWay 14 [index] s)))]
        (acknowledge n (underWay 14 [index] s)) := rfl
  rw [given, runs]
  refine ⟨fun h => ?_, fun h bad => ?_, fun h hn ha => ?_⟩
  · rw [if_pos h]
  · rw [if_neg h]
    by_cases beyond : cap ≤ n
    · rw [if_pos beyond]
    · rw [if_neg beyond, if_pos (bad.resolve_left beyond)]
  · rw [if_neg h, if_neg (Nat.not_le.mpr hn), if_neg (Nat.not_lt.mpr ha), acknowledge_eq, wordOf_toNat]
    rfl

end Sys2Proof.Machine
end

section
namespace Sys2Proof.Machine
-- One proof after the other: side by side they pass the memory that the check allows.
set_option Elab.async false

/-! ### Pages and entries (R179, R180, R190) -/

section
variable {s : State}

theorem runReadStatus_other (h : arg s 1 = 0 ∨ 9 < arg s 1) : runReadStatus s = refuse .badArgument s := by
  unfold runReadStatus
  generalize arg s 1 = n at h
  split <;> first | rfl | omega

/-- A list of up to eight elements takes nine words, whatever its length. -/
theorem listWords_eq (l : List Nat) :
    listWords l = wordOf l.length :: (List.range 8).map (fun i => wordOf (l.getD i 0)) := by
  refine congrArg (wordOf l.length :: ·) (List.ext_getElem (by simp) fun i hi hj => ?_)
  have short : i < 8 := by simpa using hj
  rw [List.getElem_take, List.getElem_map, List.getElem_range]
  by_cases inside : i < l.length
  · rw [List.getElem_append_left (by simpa using inside), List.getElem_map, List.getD_eq_getElem _ _ inside]
    rfl
  · rw [List.getElem_append_right (by simpa using inside), List.getElem_replicate,
      List.getD_eq_default _ _ (Nat.not_lt.mp inside)]
    rfl

theorem pageSignature_eq (s : State) : pageSignature s =
    [wordOf s.sig.walk.code, wordOf s.sig.cursor, wordOf s.sig.poisoned.length] ++
      (List.range 8).map (fun i => wordOf (s.sig.poisoned.getD i 0)) ++ [wordOf (flagCode s.sig.overflow)] := by
  unfold pageSignature
  rw [listWords_eq]
  rfl

theorem pageChannel_frozen (s : State) : frozenTable s = decide (s.csr.state ≠ .unconfigured ∧ s.csr.state ≠ .configured) := by
  unfold frozenTable
  cases s.csr.state <;> rfl

theorem peerBits_eq (x y : Bool) (s : State) : peerBits x y s = match s.mgmt.params.channelId with
    | some .a => wordOf (4 * flagCode x + 8 * flagCode y)
    | some .b => wordOf (2 * flagCode x + 8 * flagCode y)
    | some .c => wordOf (2 * flagCode x + 4 * flagCode y)
    | none => 0 := by
  unfold peerBits nat
  rcases s.mgmt.params.channelId with _ | _ | _ | _ <;> simp [otherIds, peerSetCode, flagCode]

theorem receiving_iff (j : JoinerRole) : j.receiving = true ↔ j.phase = .receiving ∨ j.phase = .closing := by
  simp [JoinerRole.receiving]

/-- Reading the ENGINE page makes what has ended or stopped IDLE (R38, R40). -/
theorem engineRead_eq (s : State) : engineRead s = { s with
    scrub.proof.status := if s.scrub.proof.status = .running then .running else .idle
    scrub.init.status := if s.scrub.init.status = .running then .running else .idle } := by
  have proof : (if s.scrub.proof.status = .running then s else { s with scrub.proof.status := .idle }) =
      { s with scrub.proof.status := if s.scrub.proof.status = .running then .running else .idle } := by
    split
    · rename_i h
      rw [← h]
    · rfl
  have init (t : State) : (if t.scrub.init.status = .running then t else { t with scrub.init.status := .idle }) =
      { t with scrub.init.status := if t.scrub.init.status = .running then .running else .idle } := by
    split
    · rename_i h
      rw [← h]
    · rfl
  rw [engineRead, proof, init]

theorem peerId_eq (s : State) (k : Bool) : peerId s k = match s.mgmt.params.channelId with
    | some .a => some (if k then .c else .b)
    | some .b => some (if k then .c else .a)
    | some .c => some (if k then .b else .a)
    | none => none := by
  unfold peerId
  rcases s.mgmt.params.channelId with _ | _ | _ | _ <;> cases k <;> rfl

theorem entryWords_outside {t i : Nat} (h : t = 0 ∨ 4 < t ∨ (t = 1 ∧ 16 ≤ i) ∨ (t = 2 ∧ 16 ≤ i) ∨ (t = 3 ∧ 32 ≤ i) ∨
    (t = 4 ∧ 2 ≤ i)) : entryWords t i s = none := by
  unfold entryWords
  split
  · exact if_neg (by omega)
  · exact if_neg (by omega)
  · exact if_neg (by omega)
  · exact if_neg (by omega)
  · rfl

end

/-- Settles O26, page by page and table by table. -/
theorem statusPagesAndEntriesAreReturned : Obligations.StatusPagesAndEntriesAreReturned := by
  refine ⟨fun page s hf => ?_, fun table index s hf => ?_⟩
  · have given : exec (.readStatus page) s = .next (runReadStatus (underWay 15 [page] s)) :=
      congrArg Host.Outcome.next (giveCommand_free hf)
    have named {n : Nat} (h : page.toNat = n) : arg (underWay 15 [page] s) 1 = n := h
    rw [given]
    refine ⟨fun h => ?_, fun h => ?_, fun h => ?_, fun h => ?_, fun h => ?_, fun h => ?_, fun h => ?_, fun h => ?_, fun h => ?_,
      fun h => ?_⟩
    · rw [runReadStatus_other (s := underWay 15 [page] s) h]
      rfl
    · simp only [runReadStatus, named h]
      rw [← pageChannel_frozen]
      rfl
    · simp only [runReadStatus, named h]
      rw [pageSignature_eq]
      rfl
    · simp only [runReadStatus, named h]
      cases hr : s.jnl.rb.rolling <;> simp only [pageJournal, underWay, hr] <;> rfl
    · simp only [runReadStatus, named h, pageVote, peerBits_eq]
      rfl
    · simp only [runReadStatus, named h]
      rfl
    · simp only [runReadStatus, named h]
      have items : pageRepair (underWay 15 [page] s) = pageRepair s := rfl
      rw [items, pageRepair]
      cases hr : s.repair.role with
      | none => rfl
      | source r => rfl
      | joiner j =>
        simp only [roleWords, receiving_iff]
        rfl
    · simp only [runReadStatus, named h]
      rfl
    · simp only [runReadStatus, named h]
      rfl
    · simp only [runReadStatus, named h, engineRead_eq]
      rfl
  · intro i
    have given : exec (.readEntry table index) s = .next (runReadEntry (underWay 17 [table, index] s)) :=
      congrArg Host.Outcome.next (giveCommand_free hf)
    have runs : runReadEntry (underWay 17 [table, index] s) = match entryWords table.toNat i s with
        | none => turnedAway 17 [table, index] .badArgument s
        | some ws => done 17 [table, index] ws s := rfl
    rw [given, runs]
    refine ⟨fun h e he hi => ?_, fun h e he hi => ?_, fun h he hi => ?_, fun h e he hi => ?_, fun h hi => ?_, fun h => ?_⟩
    · simp only [h, entryWords, if_pos hi, List.getD_eq_getElem?_getD, he]
      rfl
    · simp only [h, entryWords, if_pos hi, List.getD_eq_getElem?_getD, he]
      rfl
    · simp only [h, entryWords, if_pos hi, List.getD_eq_getElem?_getD, he]
      rfl
    · simp only [h, entryWords, if_pos hi, List.getD_eq_getElem?_getD, he]
      cases e <;> rfl
    · simp only [h, entryWords, if_pos hi, peerId_eq, getPeer, decide_eq_true_eq, peerWords]
      split_ifs <;> rfl
    · rw [entryWords_outside h]

/-! ### A record handed and written (R182 to R184) -/

/-- What becomes of a handed record (R183). -/
theorem hand_eq (k : EventKind) (d : Nat) (j : Subject) (v : Word) (s : State) : hand k d j v s =
    if s.csr.state = .unconfigured then s
    else if eventCapacity s - 1 ≤ occupancy s ∨ 8 ≤ s.ev.waiting.length then
      { s with ev.withheld := s.ev.withheld ||| (1 : Word) <<< k.code }
    else { s with ev.waiting := s.ev.waiting ++
      [{ kind := k, detail := d, state := s.csr.state, cycle := s.csr.counter, subject := j, value := v }] } := rfl

section
variable {s : State} {r : Requester} {body : State → State}

/-- A requester with the next grant runs its body with the port free. -/
theorem runGrant_granted (h : granted r s) : runGrant r body s = body { s with arb.grant := none } := by
  rcases h with given | ⟨free, undeferred, next⟩
  · exact runGrant_given r body s given
  · have same : { s with arb.grant := none } = s := by rw [← free]
    rw [same, runGrant_next r body s free undeferred next]

theorem writeWord_mem_congr {s t : State} (a : Nat) (v : Word) (hm : t.mem = s.mem) (hs : t.spare = s.spare)
    (hp : t.mgmt.params = s.mgmt.params) : (writeWord a v t).mem = (writeWord a v s).mem := by
  have first := readPlace_of_spare hs hp a
  have copying (l : Nat) : copyingSpare t l = copyingSpare s l := by simp only [copyingSpare, hs]
  have line (i : Nat) : spareLine t i = spareLine s i := by simp only [spareLine, hp]
  have second : secondPlace t a = secondPlace s a := by
    unfold secondPlace
    rw [copying, hs]
    simp only [line]
  cases h : secondPlace s a with
  | none => rw [writeWord_mem_of_none h, writeWord_mem_of_none (second.trans h), first, hm]
  | some b => rw [writeWord_mem_of_some h, writeWord_mem_of_some (second.trans h), first, hm]

/-- What words a write leaves turns on memory and on where the lines lie. -/
theorem writeWords_mem_congr {s t : State} (ws : List (Nat × Word)) (hm : t.mem = s.mem) (hs : t.spare = s.spare)
    (hp : t.mgmt.params = s.mgmt.params) : (writeWords ws t).mem = (writeWords ws s).mem := by
  induction ws generalizing s t with
  | nil => exact hm
  | cons x ws ih =>
    exact ih (writeWord_mem_congr x.1 x.2 hm hs hp) (by simpa using hs) (by simpa using hp)

/-- An event write, item by item (R184). -/
theorem eventBody_eq {e : EventRecord} {rest : List EventRecord} (h : s.ev.waiting = e :: rest) :
    let raise := kindIn e.kind s.mgmt.params.intMask && !s.ev.intBusy
    eventBody s = { s with
      mem := (writeWords (recordWords (eventSlot s s.ev.producer) e) s).mem
      ev := { s.ev with
        waiting := rest, kinds := s.ev.kinds ++ [e.kind], producer := (s.ev.producer + 1) % eventCapacity s
        intLevel := s.ev.intLevel || raise, intBusy := s.ev.intBusy || raise } } := by
  intro raise
  unfold eventBody
  rw [h]
  dsimp only
  rw [writeWords_frame]
  unfold raiseInt
  by_cases raised : kindIn e.kind s.mgmt.params.intMask = true ∧ s.ev.intBusy = false
  · rw [if_pos raised]
    simp [raise, raised.1, raised.2]
  · rw [if_neg raised]
    have quiet : (s.ev.intBusy || raise) = s.ev.intBusy ∧ (s.ev.intLevel || raise) = s.ev.intLevel := by
      have none_raised : raise = false := by
        cases hm : kindIn e.kind s.mgmt.params.intMask <;> cases hb : s.ev.intBusy <;> simp_all [raise]
      simp [none_raised]
    rw [quiet.1, quiet.2]

end

/-- Settles O29: the three cases of R183, and the oldest record's write. -/
theorem recordsAreQueuedAndWritten : Obligations.RecordsAreQueuedAndWritten := by
  refine ⟨fun k d j v s => ?_, fun s e rest hr hw => ?_⟩
  · intro occ
    rw [hand_eq]
    have whole : occupancy s = occ := rfl
    refine ⟨fun h => if_pos h, fun h full => ?_, fun h room short => ?_⟩
    · rw [if_neg h, whole, if_pos full]
    · rw [if_neg h, whole, if_neg (by omega)]
  · have ran : exec .eventWrite s = .next (eventBody { s with arb.grant := none }) :=
      congrArg Host.Outcome.next (runGrant_granted hr.1)
    rw [ran, eventBody_eq (s := { s with arb.grant := none }) hw]
    have same : (writeWords (recordWords (eventSlot s s.ev.producer) e) { s with arb.grant := none }).mem =
        (writeWords (recordWords (eventSlot s s.ev.producer) e) s).mem := writeWords_mem_congr _ rfl rfl rfl
    refine congrArg Host.Outcome.next ?_
    apply State.ext_parts
    case h_mem => exact same
    all_goals rfl

end Sys2Proof.Machine
end

section
namespace Sys2Proof.Machine
-- One proof after the other: side by side they pass the memory that the check allows.
set_option Elab.async false

/-! ### Engines started and stopped (R36, R39, R40) -/

section
variable {s : State} {code : Nat} {args : List Word}

theorem rangeTestable_iff (s : State) (l n : Nat) :
    rangeTestable s l n = true ↔ ∀ m, l ≤ m → m < l + n → ∃ c, classOf s m = some c ∧ c ≠ .events := by
  induction n generalizing l with
  | zero => exact ⟨fun _ m h1 h2 => by omega, fun _ => rfl⟩
  | succ n ih =>
    have first : (match classOf s l with | none => false | some c => decide (c ≠ .events)) = true ↔
        ∃ c, classOf s l = some c ∧ c ≠ .events := by
      cases classOf s l <;> simp
    have split : rangeTestable s l (n + 1) = true ↔
        (∃ c, classOf s l = some c ∧ c ≠ .events) ∧ rangeTestable s (l + 1) n = true := by
      rw [← first, ← Bool.and_eq_true]
      rfl
    rw [split, ih]
    constructor
    · intro ⟨here, beyond⟩ m h1 h2
      rcases Nat.eq_or_lt_of_le h1 with rfl | later
      · exact here
      · exact beyond m later (by omega)
    · exact fun all => ⟨all l (Nat.le_refl l) (by omega), fun m h1 h2 => all m (by omega) (by omega)⟩

theorem rangeFits_iff (s : State) (first count : Nat) : rangeFits first count s = true ↔ rangeOk s first count := by
  unfold rangeFits rangeOk
  rw [Bool.and_eq_true, rangeTestable_iff, decide_eq_true_iff, and_assoc]
  exact Iff.rfl

theorem rangeFits_underWay (first count : Nat) : rangeFits first count (underWay code args s) = rangeFits first count s := by
  rw [Bool.eq_iff_iff, rangeFits_iff, rangeFits_iff]
  exact Iff.rfl

theorem engineRunning_iff (s : State) :
    engineRunning s = true ↔ s.scrub.proof.status = .running ∨ s.scrub.init.status = .running := by
  simp [engineRunning]

/-- A running engine asks for the port. -/
theorem nextGrant_of_engine (h : s.scrub.proof.status = .running ∨ s.scrub.init.status = .running) :
    ∃ r, nextGrant s = some r := by
  apply Option.isSome_iff_exists.mp
  unfold nextGrant
  rw [List.find?_isSome]
  rcases h with proof | init
  · exact ⟨.proof, by simp [grantOrder], by simp [waits, proofWaits, proof]⟩
  · exact ⟨.init, by simp [grantOrder], by simp [waits, initWaits, init]⟩

/-- A command under way asks for nothing and gives nothing of the port. -/
theorem portGrant_underWay : portGrant (underWay code args s) = portGrant s := rfl

theorem deferOrDo_idle (d : Deferred) (h : portIdle s) :
    deferOrDo d (underWay code args s) = deferredEffect d (underWay code args s) := by
  rw [deferOrDo, portGrant_underWay, portGrant_of_idle h]

theorem deferOrDo_busy {r : Requester} (d : Deferred) (h : portGrant s = some r) :
    deferOrDo d (underWay code args s) = { underWay code args s with
      mgmt := { ended code args .busy none [] s.mgmt with deferred := some d }, arb.grant := some r } := by
  rw [deferOrDo, portGrant_underWay, h]
  dsimp only
  rw [waitForGrant, portGrant_underWay, h]
  rfl

theorem stopEngine_idle (hp : s.scrub.proof.status ≠ .running) (hi : s.scrub.init.status ≠ .running) : stopEngine s = s := by
  rw [stopEngine, if_neg hp, if_neg hi]

theorem stopEngine_proof (hp : s.scrub.proof.status = .running) : stopEngine s = { s with
    scrub.proof.status := .stopped
    ev := evAfter .proofResult 3 (.line s.scrub.proof.first) (wordOf s.scrub.proof.loops) s } := by
  rw [stopEngine, if_pos hp, proofEnds, hand_as_evAfter]
  congr 1
  exact evAfter_of _ _ _ _ _ _ rfl rfl rfl rfl

theorem stopEngine_init (hp : s.scrub.proof.status ≠ .running) (hi : s.scrub.init.status = .running) : stopEngine s = { s with
    scrub.init.status := .stopped
    ev := evAfter .initDone 2 (.line s.scrub.init.first) (wordOf s.scrub.init.written) s } := by
  rw [stopEngine, if_neg hp, if_pos hi, initEnds, hand_as_evAfter]
  congr 1
  exact evAfter_of _ _ _ _ _ _ rfl rfl rfl rfl

/-- Deferred effects take place once no grant is under way. -/
theorem exec_deferred {d : Deferred} (hd : s.mgmt.deferred = some d) (hg : s.arb.grant = none) :
    exec .deferredCommandEffect s = .next (settle (deferredEffect d { s with mgmt.deferred := none })) := by
  have ran : runDeferred s = deferredEffect d { s with mgmt.deferred := none } := by simp [runDeferred, hd, hg]
  exact congrArg (fun t => Host.Outcome.next (settle t)) ran

end

/-- Settles O20: the checks of the two starts in their order, and STOP-TEST at once, deferred, and at its turn. -/
theorem engineCommandsStartAndStop : Obligations.EngineCommandsStartAndStop := by
  refine ⟨fun first count loop s hf => ?_, fun s hf hi hp hn => ?_, fun s hf hg hd hr => ?_, fun s hd hg => ?_⟩
  · intro idle
    have init : exec (.memInit first count) s = .next (
        if s.csr.state ≠ .configured then turnedAway 6 [first, count] .wrongState s
        else if engineRunning s then turnedAway 6 [first, count] .engineBusy s
        else if !rangeFits first.toNat count.toNat s then turnedAway 6 [first, count] .badArgument s
        else { done 6 [first, count] [1] s with
          scrub.init := { status := .running, first := first.toNat, count := count.toNat, written := 0 } }) :=
      congrArg Host.Outcome.next ((giveCommand_free hf).trans (by rw [runMemInit, rangeFits_underWay]; rfl))
    have proof : exec (.proofTest first count loop) s = .next (
        if s.csr.state ≠ .configured then turnedAway 7 [first, count, loop] .wrongState s
        else if engineRunning s then turnedAway 7 [first, count, loop] .engineBusy s
        else if !rangeFits first.toNat count.toNat s then turnedAway 7 [first, count, loop] .badArgument s
        else { done 7 [first, count, loop] [1] s with
          scrub.proof := { ProofRecord.reset with
            status := .running, first := first.toNat, count := count.toNat, loop := flagArg loop } }) :=
      congrArg Host.Outcome.next ((giveCommand_free hf).trans (by rw [runProofTest, rangeFits_underWay]; rfl))
    have running : engineRunning s = true ↔ ¬ idle := by
      rw [engineRunning_iff]
      simp only [idle]
      tauto
    rw [init, proof, flagArg_eq]
    refine ⟨fun h => ?_, fun h busy => ?_, fun h free bad => ?_, fun h free fits => ?_⟩
    · rw [if_pos h, if_pos h]
      exact ⟨rfl, rfl⟩
    · rw [if_neg (not_not_intro h), if_neg (not_not_intro h), if_pos (running.mpr busy), if_pos (running.mpr busy)]
      exact ⟨rfl, rfl⟩
    · have misfit : (!rangeFits first.toNat count.toNat s) = true := by simpa using mt (rangeFits_iff s _ _).mp bad
      rw [if_neg (not_not_intro h), if_neg (not_not_intro h), if_neg (fun e => running.mp e free),
        if_neg (fun e => running.mp e free), if_pos misfit, if_pos misfit]
      exact ⟨rfl, rfl⟩
    · have fit : ¬ (!rangeFits first.toNat count.toNat s) = true := by simpa using (rangeFits_iff s _ _).mpr fits
      rw [if_neg (not_not_intro h), if_neg (not_not_intro h), if_neg (fun e => running.mp e free),
        if_neg (fun e => running.mp e free), if_neg fit, if_neg fit]
      exact ⟨rfl, rfl⟩
  · have given : exec .stopTest s = .next (deferOrDo .stopTest (underWay 8 [] s)) :=
      congrArg Host.Outcome.next (giveCommand_free hf)
    rw [given, deferOrDo_idle _ hi, deferredEffect, stopTestEffect, stopEngine_idle (s := underWay 8 [] s) hp hn]
    rfl
  · have given : exec .stopTest s = .next (deferOrDo .stopTest (underWay 8 [] s)) :=
      congrArg Host.Outcome.next (giveCommand_free hf)
    obtain ⟨r, next⟩ := nextGrant_of_engine hr
    exact ⟨r, next, by rw [given, deferOrDo_busy _ (portGrant_of_granted (.inr ⟨hg, hd, next⟩))]⟩
  · intro finished
    have same (k : EventKind) (d : Nat) (j : Subject) (v : Word) :
        evAfter k d j v { s with mgmt.deferred := none } = evAfter k d j v s := evAfter_of _ _ _ _ _ _ rfl rfl rfl rfl
    rw [exec_deferred hd hg, deferredEffect, stopTestEffect]
    refine ⟨fun hp => ?_, fun hp hi => ?_, fun hp hi => ?_⟩
    · rw [stopEngine_proof (s := { s with mgmt.deferred := none }) hp, same]
      rfl
    · rw [stopEngine_init (s := { s with mgmt.deferred := none }) hp hi, same]
      rfl
    · rw [stopEngine_idle (s := { s with mgmt.deferred := none }) hp hi]
      rfl

end Sys2Proof.Machine
end

section
namespace Sys2Proof.Machine
-- One proof after the other: side by side they pass the memory that the check allows.
set_option Elab.async false

/-! ### The validation of a table (R177, Table 10-4) -/

/-- What a search finds: the least index with a property, or nothing where no index has it. -/
def Finds (P : Nat → Prop) : Option Nat → Prop
  | none => ∀ j, ¬ P j
  | some j => P j ∧ ∀ i, i < j → ¬ P i

section
variable {P Q : Nat → Prop} {o : Option Nat} {j : Nat}

theorem Finds.congr (h : Finds P o) (e : ∀ i, P i ↔ Q i) : Finds Q o := by
  obtain rfl : P = Q := funext fun i => propext (e i)
  exact h

theorem Finds.eq_none (h : Finds P o) (hn : ∀ i, ¬ P i) : o = none := by
  cases o with
  | none => rfl
  | some k => exact absurd h.1 (hn k)

theorem Finds.eq_some (h : Finds P o) (hj : P j) (least : ∀ i, i < j → ¬ P i) : o = some j := by
  cases o with
  | none => exact absurd hj (h j)
  | some k =>
    obtain ⟨hk, before⟩ := h
    rcases Nat.lt_trichotomy k j with lt | rfl | gt
    · exact absurd hk (least k lt)
    · rfl
    · exact absurd hj (before j gt)

theorem Finds.none_iff (h : Finds P o) : o = none ↔ ∀ i, ¬ P i := by
  refine ⟨fun e => ?_, h.eq_none⟩
  subst e
  exact h

end

section
variable {t : List RegionEntry} {c : RegionClass} {j : Nat}

/-- The entry of an index passes a test. -/
def passesAt (f : RegionEntry → Bool) (t : List RegionEntry) (j : Nat) : Prop := ∃ e, t[j]? = some e ∧ f e = true

theorem passesAt_zero (f : RegionEntry → Bool) (e : RegionEntry) : passesAt f (e :: t) 0 ↔ f e = true := by
  simp [passesAt]

theorem passesAt_succ (f : RegionEntry → Bool) (e : RegionEntry) : passesAt f (e :: t) (j + 1) ↔ passesAt f t j := by
  simp [passesAt]

theorem passesAt_drop (f : RegionEntry → Bool) (i : Nat) : passesAt f (t.drop i) j ↔ passesAt f t (i + j) := by
  simp [passesAt]

/-- A search from an offset on finds the least index of its tests, that offset further. -/
theorem findEntry_finds (f : RegionEntry → Bool) (t : List RegionEntry) (i : Nat) :
    Finds (fun j => ∃ m, j = i + m ∧ passesAt f t m) (findEntry f t i) := by
  induction t generalizing i with
  | nil => rintro j ⟨m, -, e, he, -⟩; simp at he
  | cons x t ih =>
    rw [findEntry]
    split
    · rename_i pass
      refine ⟨⟨0, rfl, (passesAt_zero f x).mpr pass⟩, ?_⟩
      rintro k lt ⟨m, rfl, -⟩
      omega
    · rename_i fail
      refine (ih (i + 1)).congr fun j => ⟨?_, ?_⟩
      · rintro ⟨m, rfl, h⟩
        exact ⟨m + 1, by omega, (passesAt_succ f x).mpr h⟩
      · rintro ⟨_ | m, rfl, h⟩
        · exact absurd ((passesAt_zero f x).mp h) fail
        · exact ⟨m, by omega, (passesAt_succ f x).mp h⟩

theorem findEntry_finds_first (f : RegionEntry → Bool) (t : List RegionEntry) : Finds (passesAt f t) (findEntry f t 0) :=
  (findEntry_finds f t 0).congr fun j => by simp

/-- An entry shares a line with one seen before it. -/
def overlapsAt (seen t : List RegionEntry) (j : Nat) : Prop :=
  ∃ e, t[j]? = some e ∧ ((∃ x ∈ seen, e.overlaps x = true) ∨ ∃ i x, i < j ∧ t[i]? = some x ∧ e.overlaps x = true)

theorem overlapsAt_zero (seen : List RegionEntry) (e : RegionEntry) :
    overlapsAt seen (e :: t) 0 ↔ seen.any (fun x => e.overlaps x) = true := by
  simp [overlapsAt]

theorem overlapsAt_succ (seen : List RegionEntry) (e : RegionEntry) :
    overlapsAt seen (e :: t) (j + 1) ↔ overlapsAt (e :: seen) t j := by
  have earlier (y : RegionEntry) : (∃ i x, i < j + 1 ∧ (e :: t)[i]? = some x ∧ y.overlaps x = true) ↔
      y.overlaps e = true ∨ ∃ i x, i < j ∧ t[i]? = some x ∧ y.overlaps x = true := by
    constructor
    · rintro ⟨_ | i, x, lt, hx, ho⟩
      · obtain rfl := Option.some.inj hx
        exact .inl ho
      · exact .inr ⟨i, x, by omega, by simpa using hx, ho⟩
    · rintro (ho | ⟨i, x, lt, hx, ho⟩)
      · exact ⟨0, e, by omega, rfl, ho⟩
      · exact ⟨i + 1, x, by omega, by simpa using hx, ho⟩
  simp only [overlapsAt, earlier, List.getElem?_cons_succ, List.mem_cons, exists_eq_or_imp, or_assoc]
  exact exists_congr fun y => and_congr_right fun _ => or_left_comm

theorem findOverlap_finds (seen t : List RegionEntry) (i : Nat) :
    Finds (fun j => ∃ m, j = i + m ∧ overlapsAt seen t m) (findOverlap seen t i) := by
  induction t generalizing seen i with
  | nil => rintro j ⟨m, -, e, he, -⟩; simp at he
  | cons x t ih =>
    rw [findOverlap]
    split
    · rename_i exceeded
      refine ⟨⟨0, rfl, (overlapsAt_zero seen x).mpr exceeded⟩, ?_⟩
      rintro k lt ⟨m, rfl, -⟩
      omega
    · rename_i apart
      refine (ih (x :: seen) (i + 1)).congr fun j => ⟨?_, ?_⟩
      · rintro ⟨m, rfl, h⟩
        exact ⟨m + 1, by omega, (overlapsAt_succ seen x).mpr h⟩
      · rintro ⟨_ | m, rfl, h⟩
        · exact absurd ((overlapsAt_zero seen x).mp h) apart
        · exact ⟨m, by omega, (overlapsAt_succ seen x).mp h⟩

theorem findOverlap_finds_first (t : List RegionEntry) : Finds (overlapsAt [] t) (findOverlap [] t 0) :=
  (findOverlap_finds [] t 0).congr fun j => by simp

/-- The vital lines up to an entry pass the bound. -/
theorem vitalExcess_finds (t : List RegionEntry) (total i : Nat) :
    Finds (fun j => ∃ m, j = i + m ∧ m < t.length ∧ 32768 < total + vitalLines (t.take (m + 1))) (vitalExcess t total i) := by
  induction t generalizing total i with
  | nil => rintro j ⟨m, -, h, -⟩; simp at h
  | cons x t ih =>
    have first : vitalLines ((x :: t).take 1) = if x.isVital then x.count else 0 := by simp [vitalLines]
    have later (m : Nat) : vitalLines ((x :: t).take (m + 2)) = (if x.isVital then x.count else 0) + vitalLines (t.take (m + 1)) := by
      simp [vitalLines]
    have opened : vitalExcess (x :: t) total i = if 32768 < total + (if x.isVital then x.count else 0) then some i
        else vitalExcess t (total + if x.isVital then x.count else 0) (i + 1) := rfl
    generalize (if x.isVital then x.count else 0) = c at first later opened
    rw [opened]
    split
    · rename_i exceeded
      refine ⟨⟨0, rfl, by simp, by rw [first]; exact exceeded⟩, ?_⟩
      rintro k lt ⟨m, rfl, -⟩
      omega
    · rename_i within
      refine (ih _ (i + 1)).congr fun j => ⟨?_, ?_⟩
      · rintro ⟨m, rfl, hm, h⟩
        exact ⟨m + 1, by omega, by simpa using hm, by rw [later]; omega⟩
      · rintro ⟨_ | m, rfl, hm, h⟩
        · rw [first] at h
          omega
        · rw [later] at h
          exact ⟨m, by omega, by simpa using hm, by omega⟩

theorem vitalLines_take_le (t : List RegionEntry) (j : Nat) : vitalLines (t.take j) ≤ vitalLines t := by
  induction t generalizing j with
  | nil => simp
  | cons x t ih =>
    cases j with
    | zero => simp [vitalLines]
    | succ j =>
      rw [List.take_succ_cons, vitalLines, vitalLines]
      exact Nat.add_le_add_left (ih j) _

theorem vitalExcess_none (h : vitalLines t ≤ 32768) : vitalExcess t 0 0 = none := by
  refine (vitalExcess_finds t 0 0).eq_none ?_
  rintro _ ⟨m, rfl, -, exceeded⟩
  have := vitalLines_take_le t (m + 1)
  omega

theorem vitalExcess_none_iff : vitalExcess t 0 0 = none ↔ vitalLines t ≤ 32768 := by
  refine ⟨fun h => ?_, vitalExcess_none⟩
  have all := (vitalExcess_finds t 0 0).none_iff.mp h
  by_contra exceeded
  cases t with
  | nil => simp [vitalLines] at exceeded
  | cons x t =>
    refine all t.length ⟨t.length, by omega, by simp, ?_⟩
    rw [List.take_of_length_le (by simp)]
    omega

/-- The first run of entries whose vital lines pass the bound ends within the table. -/
theorem vitalExcess_first (h : 32768 < vitalLines (t.take (j + 1)))
    (least : ∀ i, i < j → ¬ 32768 < vitalLines (t.take (i + 1))) : vitalExcess t 0 0 = some j := by
  have inside : j < t.length := by
    by_contra beyond
    rw [List.take_of_length_le (by omega)] at h
    cases t with
    | nil => simp [vitalLines] at h
    | cons x t =>
      refine least t.length (by simpa using beyond) ?_
      rwa [List.take_of_length_le (by simp)]
  refine (vitalExcess_finds t 0 0).eq_some ⟨j, by omega, inside, by omega⟩ ?_
  rintro _ lt ⟨m, rfl, -, exceeded⟩
  exact least m (by omega) (by omega)

/-! #### The entries of a class -/

theorem passesAt_isClass : passesAt (RegionEntry.isClass c) t j ↔ ∃ e, t[j]? = some e ∧ e.valid = true ∧ e.cls = c := by
  simp [passesAt, RegionEntry.isClass]

theorem countP_eq_zero_iff (f : RegionEntry → Bool) : t.countP f = 0 ↔ ∀ j, ¬ passesAt f t j := by
  rw [List.countP_eq_zero]
  constructor
  · rintro none_passes j ⟨e, he, hf⟩
    exact none_passes e (List.mem_of_getElem? he) hf
  · intro none_passes e he hf
    obtain ⟨j, hj⟩ := List.mem_iff_getElem?.mp he
    exact none_passes j ⟨e, hj, hf⟩

theorem countP_eq_one_iff (f : RegionEntry → Bool) :
    t.countP f = 1 ↔ ∃ j, passesAt f t j ∧ ∀ i, passesAt f t i → i = j := by
  induction t with
  | nil => simp [passesAt]
  | cons x t ih =>
    rw [List.countP_cons]
    by_cases pass : f x = true
    · rw [if_pos pass, Nat.add_eq_right, countP_eq_zero_iff]
      constructor
      · intro none_left
        refine ⟨0, (passesAt_zero f x).mpr pass, ?_⟩
        rintro (_ | i) h
        · rfl
        · exact absurd ((passesAt_succ f x).mp h) (none_left i)
      · rintro ⟨j, -, only⟩ i h
        have first := only 0 ((passesAt_zero f x).mpr pass)
        have second := only (i + 1) ((passesAt_succ f x).mpr h)
        omega
    · rw [if_neg pass, Nat.add_zero, ih]
      constructor
      · rintro ⟨j, hj, only⟩
        refine ⟨j + 1, (passesAt_succ f x).mpr hj, ?_⟩
        rintro (_ | i) h
        · exact absurd ((passesAt_zero f x).mp h) pass
        · rw [only i ((passesAt_succ f x).mp h)]
      · rintro ⟨_ | j, hj, only⟩
        · exact absurd ((passesAt_zero f x).mp hj) pass
        · exact ⟨j, (passesAt_succ f x).mp hj, fun i h => by
            have := only (i + 1) ((passesAt_succ f x).mpr h)
            omega⟩

theorem indexOf_eq (hj : passesAt (RegionEntry.isClass c) t j) (only : ∀ i, passesAt (RegionEntry.isClass c) t i → i = j) :
    indexOf c t = j := by
  have found := (findEntry_finds_first (RegionEntry.isClass c) t).eq_some hj fun i lt h => by
    have := only i h
    omega
  simp [indexOf, found]

theorem secondOf_none (h : ∀ j, ¬ passesAt (RegionEntry.isClass c) t j) : secondOf c t = 16 := by
  have found := (findEntry_finds_first (RegionEntry.isClass c) t).eq_none h
  simp [secondOf, found]

theorem secondOf_eq {i : Nat} (hi : passesAt (RegionEntry.isClass c) t i) (hj : passesAt (RegionEntry.isClass c) t j)
    (lt : i < j) (only : ∀ m, m < j → passesAt (RegionEntry.isClass c) t m → m = i) : secondOf c t = j := by
  have first := (findEntry_finds_first (RegionEntry.isClass c) t).eq_some hi fun m hm h => by
    have := only m (by omega) h
    omega
  have second : findEntry (RegionEntry.isClass c) (t.drop (i + 1)) (i + 1) = some j := by
    refine (findEntry_finds _ _ _).eq_some ⟨j - (i + 1), by omega, (passesAt_drop _ _).mpr ?_⟩ ?_
    · rwa [Nat.add_sub_cancel' lt]
    · rintro _ hm ⟨m, rfl, h⟩
      have := only (i + 1 + m) hm ((passesAt_drop _ _).mp h)
      omega
  simp [secondOf, first, second]

end

/-! #### The ten checks in their order -/

section
variable {s : State}

theorem overlaps_iff (x y : RegionEntry) : x.overlaps y = true ↔
    x.valid = true ∧ y.valid = true ∧ x.base < y.base + y.count ∧ y.base < x.base + x.count := by
  simp [RegionEntry.overlaps, and_assoc]

theorem apart_iff (x y : RegionEntry) : apart x y ↔ ¬ y.overlaps x = true := by
  unfold apart
  rw [overlaps_iff]
  cases x.valid <;> cases y.valid <;> simp
  omega

theorem pairwise_apart_iff (t : List RegionEntry) : t.Pairwise apart ↔ ∀ j, ¬ overlapsAt [] t j := by
  rw [List.pairwise_iff_getElem]
  constructor
  · rintro all j ⟨y, hy, (⟨x, hx, -⟩ | ⟨i, x, lt, hx, ho⟩)⟩
    · simp at hx
    · obtain ⟨hj, rfl⟩ := List.getElem?_eq_some_iff.mp hy
      obtain ⟨hi, rfl⟩ := List.getElem?_eq_some_iff.mp hx
      exact (apart_iff _ _).mp (all i j hi hj lt) ho
  · intro none_overlaps i j hi hj lt
    exact (apart_iff _ _).mpr fun ho => none_overlaps j
      ⟨t[j], List.getElem?_eq_getElem hj, .inr ⟨i, t[i], lt, List.getElem?_eq_getElem hi, ho⟩⟩

/-- An entry reaches beyond the memory. -/
def RegionEntry.beyond (top : Nat) (e : RegionEntry) : Bool := e.valid && decide (top < e.base + e.count)

/-- An entry of a class is too large. -/
def RegionEntry.tooLarge (c : RegionClass) (most : Nat) (e : RegionEntry) : Bool := e.isClass c && decide (most < e.count)

/-- The checks behind the first two, which search the whole table. -/
def laterFault (s : State) : Option (Nat × Nat) :=
  let t := s.regions.loaded
  if t.countP (RegionEntry.isClass .journal) ≠ 1 then some (3, secondOf .journal t)
  else if t.any (RegionEntry.tooLarge .journal 4096) then some (4, indexOf .journal t)
  else if t.countP (RegionEntry.isClass .events) ≠ 1 then some (5, secondOf .events t)
  else if t.any (RegionEntry.tooLarge .events 64) then some (6, indexOf .events t)
  else if t.countP RegionEntry.isVital = 0 then some (7, 16)
  else match vitalExcess t 0 0 with
    | some j => some (8, j)
    | none =>
      if !s.sig.keysSet then some (9, 16)
      else if s.mgmt.params.channelId = none then some (10, 16)
      else none

theorem tableFault_eq (s : State) : tableFault s =
    match findOverlap [] s.regions.loaded 0, findEntry (RegionEntry.beyond (s.mgmt.params.memoryLines - 32)) s.regions.loaded 0 with
    | some j, _ => some (1, j)
    | none, some j => some (2, j)
    | none, none => laterFault s := rfl

theorem any_tooLarge_iff (c : RegionClass) (most : Nat) (t : List RegionEntry) :
    t.any (RegionEntry.tooLarge c most) = true ↔ ∃ e ∈ t, e.valid = true ∧ e.cls = c ∧ most < e.count := by
  simp [RegionEntry.tooLarge, RegionEntry.isClass, and_assoc]

theorem laterFault_none_iff (s : State) : laterFault s = none ↔
    s.regions.loaded.countP (RegionEntry.isClass .journal) = 1 ∧
    ¬ s.regions.loaded.any (RegionEntry.tooLarge .journal 4096) = true ∧
    s.regions.loaded.countP (RegionEntry.isClass .events) = 1 ∧
    ¬ s.regions.loaded.any (RegionEntry.tooLarge .events 64) = true ∧
    s.regions.loaded.countP RegionEntry.isVital ≠ 0 ∧ vitalExcess s.regions.loaded 0 0 = none ∧
    s.sig.keysSet = true ∧ s.mgmt.params.channelId ≠ none := by
  unfold laterFault
  dsimp only
  by_cases h1 : s.regions.loaded.countP (RegionEntry.isClass .journal) = 1
  · by_cases h2 : s.regions.loaded.any (RegionEntry.tooLarge .journal 4096) = true
    · simp [h1, h2]
    · by_cases h3 : s.regions.loaded.countP (RegionEntry.isClass .events) = 1
      · by_cases h4 : s.regions.loaded.any (RegionEntry.tooLarge .events 64) = true
        · simp [h1, h2, h3, h4]
        · by_cases h5 : s.regions.loaded.countP RegionEntry.isVital = 0
          · simp only [h1, h2, h3, h4, h5]
            simp
          · cases hv : vitalExcess s.regions.loaded 0 0 <;> cases hk : s.sig.keysSet <;>
              simp only [h1, h2, h3, h4, h5, ne_eq] <;> simp
      · simp [h1, h2, h3]
  · simp [h1]

theorem tableFault_none_iff (s : State) : tableFault s = none ↔ (∀ j, ¬ overlapsAt [] s.regions.loaded j) ∧
    (∀ j, ¬ passesAt (RegionEntry.beyond (s.mgmt.params.memoryLines - 32)) s.regions.loaded j) ∧ laterFault s = none := by
  rw [← (findOverlap_finds_first _).none_iff, ← (findEntry_finds_first _ _).none_iff, tableFault_eq]
  cases findOverlap [] s.regions.loaded 0 <;>
    cases findEntry (RegionEntry.beyond (s.mgmt.params.memoryLines - 32)) s.regions.loaded 0 <;> simp

theorem forall_passesAt_iff (f : RegionEntry → Bool) (t : List RegionEntry) :
    (∀ j, ¬ passesAt f t j) ↔ ∀ e ∈ t, ¬ f e = true := by
  rw [← countP_eq_zero_iff, List.countP_eq_zero]

theorem tableFault_none_iff_fits (s : State) : tableFault s = none ↔ TablesFit s := by
  have journal := any_tooLarge_iff .journal 4096 s.regions.loaded
  have events := any_tooLarge_iff .events 64 s.regions.loaded
  have outside (e : RegionEntry) : e.beyond (s.mgmt.params.memoryLines - 32) = true ↔
      e.valid = true ∧ s.mgmt.params.memoryLines - 32 < e.base + e.count := by simp [RegionEntry.beyond]
  have vital : s.regions.loaded.countP RegionEntry.isVital ≠ 0 ↔ ∃ e ∈ s.regions.loaded, e.valid = true ∧ e.cls = .vital := by
    rw [ne_eq, List.countP_eq_zero]
    simp [RegionEntry.isVital]
  rw [tableFault_none_iff, laterFault_none_iff, ← pairwise_apart_iff, forall_passesAt_iff, journal, events, vital,
    vitalExcess_none_iff]
  constructor
  · rintro ⟨apart, inside, j1, j2, e1, e2, v1, v2, keys, id⟩
    exact ⟨apart, fun e he hv => Nat.not_lt.mp fun lt => inside e he ((outside e).mpr ⟨hv, lt⟩), j1,
      fun e he hv hc => Nat.not_lt.mp fun lt => j2 ⟨e, he, hv, hc, lt⟩, e1,
      fun e he hv hc => Nat.not_lt.mp fun lt => e2 ⟨e, he, hv, hc, lt⟩, v1, v2, keys, id⟩
  · rintro ⟨apart, inside, j1, j2, e1, e2, v1, v2, keys, id⟩
    refine ⟨apart, fun e he hb => ?_, j1, ?_, e1, ?_, v1, v2, keys, id⟩
    · obtain ⟨hv, lt⟩ := (outside e).mp hb
      exact Nat.not_lt.mpr (inside e he hv) lt
    · rintro ⟨e, he, hv, hc, lt⟩
      exact Nat.not_lt.mpr (j2 e he hv hc) lt
    · rintro ⟨e, he, hv, hc, lt⟩
      exact Nat.not_lt.mpr (e2 e he hv hc) lt

end

end Sys2Proof.Machine
end

section
namespace Sys2Proof.Machine
-- One proof after the other: side by side they pass the memory that the check allows.
set_option Elab.async false

/-! #### What each check reports -/

section
variable {s : State} {t : List RegionEntry} {c : RegionClass} {j most : Nat}

theorem overlapsAt_iff : overlapsAt [] t j ↔ ∃ i x y, i < j ∧ t[i]? = some x ∧ t[j]? = some y ∧ x.valid = true ∧
    y.valid = true ∧ x.base < y.base + y.count ∧ y.base < x.base + x.count := by
  constructor
  · rintro ⟨y, hy, (⟨x, hx, -⟩ | ⟨i, x, lt, hx, ho⟩)⟩
    · simp at hx
    · obtain ⟨vy, vx, h1, h2⟩ := (overlaps_iff y x).mp ho
      exact ⟨i, x, y, lt, hx, hy, vx, vy, h2, h1⟩
  · rintro ⟨i, x, y, lt, hx, hy, vx, vy, h1, h2⟩
    exact ⟨y, hy, .inr ⟨i, x, lt, hx, (overlaps_iff y x).mpr ⟨vy, vx, h2, h1⟩⟩⟩

theorem passesAt_beyond {top : Nat} : passesAt (RegionEntry.beyond top) t j ↔
    ∃ e, t[j]? = some e ∧ e.valid = true ∧ top < e.base + e.count := by
  simp [passesAt, RegionEntry.beyond]

theorem tableFault_overlap (h : overlapsAt [] s.regions.loaded j) (least : ∀ i, i < j → ¬ overlapsAt [] s.regions.loaded i) :
    tableFault s = some (1, j) := by
  rw [tableFault_eq, (findOverlap_finds_first _).eq_some h least]

theorem tableFault_beyond (apart : ∀ j, ¬ overlapsAt [] s.regions.loaded j)
    (h : passesAt (RegionEntry.beyond (s.mgmt.params.memoryLines - 32)) s.regions.loaded j)
    (least : ∀ i, i < j → ¬ passesAt (RegionEntry.beyond (s.mgmt.params.memoryLines - 32)) s.regions.loaded i) :
    tableFault s = some (2, j) := by
  rw [tableFault_eq, (findOverlap_finds_first _).eq_none apart, (findEntry_finds_first _ _).eq_some h least]

theorem tableFault_later (apart : ∀ j, ¬ overlapsAt [] s.regions.loaded j)
    (inside : ∀ j, ¬ passesAt (RegionEntry.beyond (s.mgmt.params.memoryLines - 32)) s.regions.loaded j) :
    tableFault s = laterFault s := by
  rw [tableFault_eq, (findOverlap_finds_first _).eq_none apart, (findEntry_finds_first _ _).eq_none inside]

theorem not_tooLarge (h : ∀ j e, passesAt (RegionEntry.isClass c) t j → t[j]? = some e → e.count ≤ most) :
    ¬ t.any (RegionEntry.tooLarge c most) = true := by
  rw [any_tooLarge_iff]
  rintro ⟨e, he, hv, hc, lt⟩
  obtain ⟨j, hj⟩ := List.mem_iff_getElem?.mp he
  exact Nat.not_lt.mpr (h j e (passesAt_isClass.mpr ⟨e, hj, hv, hc⟩) hj) lt

theorem tooLarge_of {e : RegionEntry} (h : passesAt (RegionEntry.isClass c) t j) (he : t[j]? = some e) (lt : most < e.count) :
    t.any (RegionEntry.tooLarge c most) = true := by
  obtain ⟨x, hx, hv, hc⟩ := passesAt_isClass.mp h
  obtain rfl := Option.some.inj (he.symm.trans hx)
  exact (any_tooLarge_iff c most t).mpr ⟨e, List.mem_of_getElem? he, hv, hc, lt⟩

/-- With a second entry of a class there is not one entry. -/
theorem countP_ne_one_of_two {i : Nat} (hi : passesAt (RegionEntry.isClass c) t i) (hj : passesAt (RegionEntry.isClass c) t j)
    (lt : i < j) : t.countP (RegionEntry.isClass c) ≠ 1 := by
  intro one
  obtain ⟨k, -, only⟩ := (countP_eq_one_iff _).mp one
  have := only i hi
  have := only j hj
  omega

theorem countP_ne_one_of_none (h : ∀ j, ¬ passesAt (RegionEntry.isClass c) t j) : t.countP (RegionEntry.isClass c) ≠ 1 := by
  rw [(countP_eq_zero_iff _).mpr h]
  decide

/-- The checks on the entries of JOURNAL and EVENTS have passed. -/
structure RingsFit (t : List RegionEntry) : Prop where
  journal : t.countP (RegionEntry.isClass .journal) = 1
  journalSize : ¬ t.any (RegionEntry.tooLarge .journal 4096) = true
  events : t.countP (RegionEntry.isClass .events) = 1
  eventsSize : ¬ t.any (RegionEntry.tooLarge .events 64) = true

theorem laterFault_rings (h : RingsFit s.regions.loaded) : laterFault s =
    if s.regions.loaded.countP RegionEntry.isVital = 0 then some (7, 16)
    else match vitalExcess s.regions.loaded 0 0 with
      | some j => some (8, j)
      | none =>
        if !s.sig.keysSet then some (9, 16)
        else if s.mgmt.params.channelId = none then some (10, 16)
        else none := by
  unfold laterFault
  rw [if_neg (not_not_intro h.journal), if_neg h.journalSize, if_neg (not_not_intro h.events), if_neg h.eventsSize] <;> rfl

theorem laterFault_journal (h : s.regions.loaded.countP (RegionEntry.isClass .journal) ≠ 1) :
    laterFault s = some (3, secondOf .journal s.regions.loaded) := if_pos h

theorem laterFault_journalSize (h : s.regions.loaded.countP (RegionEntry.isClass .journal) = 1)
    (large : s.regions.loaded.any (RegionEntry.tooLarge .journal 4096) = true) :
    laterFault s = some (4, indexOf .journal s.regions.loaded) := by
  unfold laterFault
  rw [if_neg (not_not_intro h), if_pos large]

theorem laterFault_events (h : s.regions.loaded.countP (RegionEntry.isClass .journal) = 1)
    (fits : ¬ s.regions.loaded.any (RegionEntry.tooLarge .journal 4096) = true)
    (he : s.regions.loaded.countP (RegionEntry.isClass .events) ≠ 1) :
    laterFault s = some (5, secondOf .events s.regions.loaded) := by
  unfold laterFault
  rw [if_neg (not_not_intro h), if_neg fits, if_pos he]

theorem laterFault_eventsSize (h : s.regions.loaded.countP (RegionEntry.isClass .journal) = 1)
    (fits : ¬ s.regions.loaded.any (RegionEntry.tooLarge .journal 4096) = true)
    (he : s.regions.loaded.countP (RegionEntry.isClass .events) = 1)
    (large : s.regions.loaded.any (RegionEntry.tooLarge .events 64) = true) :
    laterFault s = some (6, indexOf .events s.regions.loaded) := by
  unfold laterFault
  rw [if_neg (not_not_intro h), if_neg fits, if_neg (not_not_intro he), if_pos large]

end

/-- Settles O17: the checks are searches for a first index, and each reports what its search finds. -/
theorem commitIsValidatedOrRefused : Obligations.CommitIsValidatedOrRefused := by
  refine ⟨tableFault_none_iff_fits, fun s hf => ?_, fun s => ?_⟩
  · have given : exec .commitTables s = .next (
        if !s.csr.state.loading then turnedAway 5 [] .wrongState s
        else if engineRunning s then turnedAway 5 [] .engineBusy s
        else match tableFault s with
          | some (d, i) => { s with mgmt := ended 5 [] .refused (some .tableInvalid) [wordOf d, wordOf i] s.mgmt }
          | none => deferOrDo .commitTables (underWay 5 [] s)) := congrArg Host.Outcome.next (giveCommand_free hf)
    rw [given]
    refine ⟨fun h1 h2 => ?_, fun h => ⟨fun busy => ?_, fun hp hi d i fault => ?_⟩⟩
    · rw [if_pos (by simpa using (not_loading_iff _).mpr (not_or.mpr ⟨h1, h2⟩))]
    · rw [if_neg (by simpa using (loading_iff _).mpr h), if_pos ((engineRunning_iff s).mpr busy)]
    · rw [if_neg (by simpa using (loading_iff _).mpr h), if_neg (by simp [engineRunning_iff, hp, hi]), fault]
  · intro t isOf overlaps outside exceeds first second one within c2 c3 c5 c7 c9
    have named (c : RegionClass) (j : Nat) : passesAt (RegionEntry.isClass c) t j ↔ isOf c j := passesAt_isClass
    have apart (h : c2) : ∀ j, ¬ overlapsAt [] t j := fun j ho => h j (overlapsAt_iff.mp ho)
    have inside (h : c3) : ∀ j, ¬ passesAt (RegionEntry.beyond (s.mgmt.params.memoryLines - 32)) t j :=
      fun j ho => h.2 j (passesAt_beyond.mp ho)
    have later (h : c3) : tableFault s = laterFault s := tableFault_later (apart h.1) (inside h)
    have single {c : RegionClass} (h : one c) : t.countP (RegionEntry.isClass c) = 1 := by
      obtain ⟨j, hj, only⟩ := h
      exact (countP_eq_one_iff _).mpr ⟨j, (named c j).mpr hj, fun i hi => only i ((named c i).mp hi)⟩
    have small {c : RegionClass} {most : Nat} (h : within c most) : ¬ t.any (RegionEntry.tooLarge c most) = true :=
      not_tooLarge fun j e hj => h j e ((named c j).mp hj)
    have missing {c : RegionClass} (h : ∀ j, ¬ isOf c j) : ∀ j, ¬ passesAt (RegionEntry.isClass c) t j :=
      fun j hj => h j ((named c j).mp hj)
    have index {c : RegionClass} {j : Nat} (h : one c) (hj : isOf c j) : indexOf c t = j := by
      obtain ⟨k, hk, only⟩ := h
      exact indexOf_eq ((named c j).mpr hj) fun i hi => (only i ((named c i).mp hi)).trans (only j hj).symm
    have two {c : RegionClass} {j : Nat} (h : second c j) : t.countP (RegionEntry.isClass c) ≠ 1 ∧ secondOf c t = j := by
      obtain ⟨hj, i, lt, hi, only⟩ := h
      exact ⟨countP_ne_one_of_two ((named c i).mpr hi) ((named c j).mpr hj) lt,
        secondOf_eq ((named c i).mpr hi) ((named c j).mpr hj) lt fun m hm h => only m hm ((named c m).mp h)⟩
    have rings (h : c7) : RingsFit t :=
      ⟨single h.1.2.1, small h.1.2.2, single h.2.1, small h.2.2⟩
    have some_vital (h : ∃ j, isOf .vital j) : ¬ t.countP RegionEntry.isVital = 0 := by
      obtain ⟨j, hj⟩ := h
      exact fun e => (countP_eq_zero_iff _).mp e j ((named .vital j).mpr hj)
    refine ⟨?_, ?_, ?_, ?_, ?_, ?_, ?_, ?_, ?_, ?_, ?_, ?_⟩
    · intro j ⟨hj, least⟩
      exact tableFault_overlap (overlapsAt_iff.mpr hj) fun i lt ho => least i lt (overlapsAt_iff.mp ho)
    · intro j h ⟨hj, least⟩
      exact tableFault_beyond (apart h) (passesAt_beyond.mpr hj) fun i lt ho => least i lt (passesAt_beyond.mp ho)
    · intro j h hj
      rw [later h, laterFault_journal (two hj).1, (two hj).2]
    · intro h none_named
      rw [later h, laterFault_journal (countP_ne_one_of_none (missing none_named)), secondOf_none (missing none_named)]
    · intro j e h ho hj he lt
      rw [later h, laterFault_journalSize (single ho) (tooLarge_of ((named _ j).mpr hj) he lt), index ho hj]
    · intro j h hj
      rw [later h.1, laterFault_events (single h.2.1) (small h.2.2) (two hj).1, (two hj).2]
    · intro h none_named
      rw [later h.1, laterFault_events (single h.2.1) (small h.2.2) (countP_ne_one_of_none (missing none_named)),
        secondOf_none (missing none_named)]
    · intro j e h ho hj he lt
      rw [later h.1, laterFault_eventsSize (single h.2.1) (small h.2.2) (single ho) (tooLarge_of ((named _ j).mpr hj) he lt),
        index ho hj]
    · intro h none_named
      have no_vital : t.countP RegionEntry.isVital = 0 := (countP_eq_zero_iff _).mpr (missing none_named)
      rw [later h.1.1, laterFault_rings (rings h), if_pos no_vital]
    · intro j h hv ⟨hj, least⟩
      rw [later h.1.1, laterFault_rings (rings h), if_neg (some_vital hv), vitalExcess_first hj least]
    · intro h keys
      rw [later h.1.1.1, laterFault_rings (rings h.1), if_neg (some_vital h.2.1), vitalExcess_none h.2.2]
      simp [keys]
    · intro h keys no_identity
      rw [later h.1.1.1, laterFault_rings (rings h.1), if_neg (some_vital h.2.1), vitalExcess_none h.2.2]
      simp [keys, no_identity]

end Sys2Proof.Machine
end

section
namespace Sys2Proof.Machine
-- One proof after the other: side by side they pass the memory that the check allows.
set_option Elab.async false

/-! ### The sum of the word hashes (04 sections 4.2 to 4.4) -/

/-- The sum of the hashes over some addresses splits into one address's hash and what does not turn on its value. -/
theorem sum_wordHash_split (k : Keys) (f : Nat → Word) (a : Nat) (new : Word) {addrs : List Nat} (distinct : addrs.Nodup)
    (h : a ∈ addrs) : ∃ others, (addrs.map (fun b => wordHash k b (f b))).sum = wordHash k a (f a) + others ∧
      (addrs.map (fun b => wordHash k b (if b = a then new else f b))).sum = wordHash k a new + others := by
  induction addrs with
  | nil => simp at h
  | cons x addrs ih =>
    obtain ⟨fresh, distinct⟩ := List.nodup_cons.mp distinct
    by_cases same : x = a
    · subst same
      refine ⟨(addrs.map (fun b => wordHash k b (f b))).sum, by simp, ?_⟩
      have kept : addrs.map (fun b => wordHash k b (if b = x then new else f b)) = addrs.map (fun b => wordHash k b (f b)) :=
        List.map_congr_left fun b hb => by
          rw [if_neg (fun (e : b = x) => fresh (e ▸ hb))]
      simp [kept]
    · obtain ⟨others, h1, h2⟩ := ih distinct ((List.mem_cons.mp h).resolve_left (Ne.symm same))
      exact ⟨wordHash k x (f x) + others, by simp [h1]; omega, by simp [h2, same]; omega⟩

/-- Settles O42: the hash taken out and the hash put in are those of the one address. -/
theorem incrementalUpdateKeepsTheSum : Obligations.IncrementalUpdateKeepsTheSum := by
  intro k addrs f a new distinct h
  obtain ⟨others, before, after⟩ := sum_wordHash_split k f a new distinct h
  have old : wordHash k a (f a) < modulus := wordHash_lt _ _ _
  rw [before, after, foldChange]
  rw [modulus_eq] at *
  omega

/-! ### Vital ordinals (01 section 1.1.3) -/

section
variable {t : List RegionEntry} {e e' : RegionEntry} {l o a b : Nat}

theorem vitalBelow_mono (h : a ≤ b) : vitalBelow t a ≤ vitalBelow t b := by
  induction t with
  | nil => exact Nat.le_refl _
  | cons x t ih =>
    rw [vitalBelow, vitalBelow]
    refine Nat.add_le_add ?_ ih
    by_cases below : (x.isVital && decide (x.base < a)) = true
    · have above : (x.isVital && decide (x.base < b)) = true := by
        simp only [Bool.and_eq_true, decide_eq_true_eq] at below ⊢
        exact ⟨below.1, by omega⟩
      rw [if_pos below, if_pos above]
    · rw [if_neg below]
      exact Nat.zero_le _

/-- A vital entry lies between its own ordinals and those of what begins above it. -/
theorem vitalBelow_entry (he : e ∈ t) (hv : e.isVital = true) (h : e.base < b) :
    vitalBelow t e.base + e.count ≤ vitalBelow t b := by
  induction t with
  | nil => simp at he
  | cons x t ih =>
    rw [vitalBelow, vitalBelow]
    rcases List.mem_cons.mp he with rfl | later
    · have := vitalBelow_mono (t := t) (Nat.le_of_lt h)
      simp only [hv, h, Nat.lt_irrefl, decide_false, decide_true, Bool.and_false, Bool.and_true, if_true]
      simp only [Bool.false_eq_true, if_false]
      omega
    · have tail := ih later
      by_cases below : (x.isVital && decide (x.base < e.base)) = true
      · have above : (x.isVital && decide (x.base < b)) = true := by
          simp only [Bool.and_eq_true, decide_eq_true_eq] at below ⊢
          exact ⟨below.1, by omega⟩
        rw [if_pos below, if_pos above]
        omega
      · rw [if_neg below]
        omega

theorem vitalBelow_le (t : List RegionEntry) (b : Nat) : vitalBelow t b ≤ vitalLines t := by
  induction t with
  | nil => exact Nat.le_refl _
  | cons x t ih =>
    rw [vitalBelow, vitalLines]
    refine Nat.add_le_add ?_ ih
    by_cases below : (x.isVital && decide (x.base < b)) = true
    · have vital : x.isVital = true := (Bool.and_eq_true _ _ ▸ below).1
      rw [if_pos below, if_pos vital]
    · rw [if_neg below]
      exact Nat.zero_le _

/-- High enough every vital line lies below. -/
theorem vitalBelow_top (t : List RegionEntry) : ∃ b, vitalBelow t b = vitalLines t := by
  suffices ∃ b, ∀ c, b ≤ c → vitalBelow t c = vitalLines t from this.imp fun b h => h b (Nat.le_refl b)
  induction t with
  | nil => exact ⟨0, fun _ _ => rfl⟩
  | cons x t ih =>
    obtain ⟨b, hb⟩ := ih
    refine ⟨max b (x.base + 1), fun c hc => ?_⟩
    have below : x.base < c := by omega
    rw [vitalBelow, vitalLines, hb c (by omega)]
    simp [below]

theorem apart_symm (h : apart e e') : apart e' e := by
  rcases h with h | h | h | h
  · exact .inr (.inl h)
  · exact .inl h
  · exact .inr (.inr (.inr h))
  · exact .inr (.inr (.inl h))

theorem apart_of_ne (ht : t.Pairwise apart) (he : e ∈ t) (he' : e' ∈ t) (hne : e ≠ e') : apart e e' :=
  haveI : Std.Symm apart := ⟨fun _ _ => apart_symm⟩
  ht.forall he he' hne

theorem holds_iff : e.holds l = true ↔ e.valid = true ∧ e.base ≤ l ∧ l < e.base + e.count := by
  simp [RegionEntry.holds]

theorem isVital_iff : e.isVital = true ↔ e.valid = true ∧ e.cls = .vital := by simp [RegionEntry.isVital]

theorem holds_unique (ht : t.Pairwise apart) (he : e ∈ t) (he' : e' ∈ t) (h : e.holds l = true) (h' : e'.holds l = true) :
    e = e' := by
  by_contra hne
  rw [holds_iff] at h h'
  obtain ⟨v, h1, h2⟩ := h
  obtain ⟨v', h3, h4⟩ := h'
  rcases apart_of_ne ht he he' hne with hf | hf | hf | hf
  · simp [v] at hf
  · simp [v'] at hf
  · omega
  · omega

theorem findRegion_some {i j : Nat} (h : findRegion t i l = some (j, e)) : e ∈ t ∧ e.holds l = true := by
  induction t generalizing i with
  | nil => cases h
  | cons x t ih =>
    rw [findRegion] at h
    split at h
    · obtain ⟨-, rfl⟩ := Prod.mk.inj (Option.some.inj h)
      exact ⟨List.mem_cons_self, ‹_›⟩
    · obtain ⟨he, hl⟩ := ih h
      exact ⟨List.mem_cons_of_mem _ he, hl⟩

theorem findRegion_of_holds (i : Nat) (ht : t.Pairwise apart) (he : e ∈ t) (hl : e.holds l = true) :
    ∃ j, findRegion t i l = some (j, e) := by
  have found : ∃ j x, findRegion t i l = some (j, x) := by
    clear ht
    induction t generalizing i with
    | nil => simp at he
    | cons x t ih =>
      rw [findRegion]
      split
      · exact ⟨i, x, rfl⟩
      · rename_i not_held
        rcases List.mem_cons.mp he with rfl | later
        · exact absurd hl not_held
        · exact ih (i + 1) later
  obtain ⟨j, x, hx⟩ := found
  obtain ⟨hm, hh⟩ := findRegion_some hx
  obtain rfl := holds_unique ht hm he hh hl
  exact ⟨j, hx⟩

/-- The ordinal of a line, by the vital entry that holds it. -/
theorem ordinalOf_iff (ht : t.Pairwise apart) : ordinalOf t l = some o ↔
    ∃ e ∈ t, e.isVital = true ∧ e.base ≤ l ∧ l < e.base + e.count ∧ o = vitalBelow t e.base + (l - e.base) := by
  constructor
  · intro h
    unfold ordinalOf at h
    split at h
    · rename_i j e found
      split at h
      · rename_i vital
        obtain ⟨he, hl⟩ := findRegion_some found
        obtain ⟨valid, lo, hi⟩ := holds_iff.mp hl
        exact ⟨e, he, isVital_iff.mpr ⟨valid, vital⟩, lo, hi, (Option.some.inj h).symm⟩
      · cases h
    · cases h
  · rintro ⟨e, he, hv, lo, hi, rfl⟩
    obtain ⟨valid, vital⟩ := isVital_iff.mp hv
    obtain ⟨j, found⟩ := findRegion_of_holds 0 ht he (holds_iff.mpr ⟨valid, lo, hi⟩)
    simp [ordinalOf, found, vital]

/-- An ordinal lies in the range of a vital entry. -/
def inRange (t : List RegionEntry) (o : Nat) (e : RegionEntry) : Bool :=
  e.isVital && decide (vitalBelow t e.base ≤ o ∧ o < vitalBelow t e.base + e.count)

theorem inRange_iff : inRange t o e = true ↔
    e.isVital = true ∧ vitalBelow t e.base ≤ o ∧ o < vitalBelow t e.base + e.count := by
  simp [inRange]

theorem vital_before (ht : t.Pairwise apart) (he : e ∈ t) (he' : e' ∈ t) (hv : e.isVital = true) (hv' : e'.isVital = true)
    (hne : e ≠ e') : e.base + e.count ≤ e'.base ∨ e'.base + e'.count ≤ e.base := by
  rcases apart_of_ne ht he he' hne with h | h | h | h
  · simp [(isVital_iff.mp hv).1] at h
  · simp [(isVital_iff.mp hv').1] at h
  · exact .inl h
  · exact .inr h

theorem inRange_unique (ht : t.Pairwise apart) (he : e ∈ t) (he' : e' ∈ t) (h : inRange t o e = true)
    (h' : inRange t o e' = true) : e = e' := by
  by_contra hne
  obtain ⟨hv, h1, h2⟩ := inRange_iff.mp h
  obtain ⟨hv', h3, h4⟩ := inRange_iff.mp h'
  rcases vital_before ht he he' hv hv' hne with first | first
  · have := vitalBelow_entry (b := e'.base) he hv (by omega)
    omega
  · have := vitalBelow_entry (b := e.base) he' hv' (by omega)
    omega

theorem lineOfGo_some {u : List RegionEntry} (h : lineOfGo t u o = some l) :
    ∃ e ∈ u, inRange t o e = true ∧ l = e.base + (o - vitalBelow t e.base) := by
  induction u with
  | nil => cases h
  | cons x u ih =>
    rw [lineOfGo] at h
    split at h
    · exact ⟨x, List.mem_cons_self, ‹_›, (Option.some.inj h).symm⟩
    · obtain ⟨e, he, hr⟩ := ih h
      exact ⟨e, List.mem_cons_of_mem _ he, hr⟩

theorem lineOfGo_isSome {u : List RegionEntry} (he : e ∈ u) (hr : inRange t o e = true) : ∃ l, lineOfGo t u o = some l := by
  induction u with
  | nil => simp at he
  | cons x u ih =>
    rw [lineOfGo]
    split
    · exact ⟨_, rfl⟩
    · rename_i not_in
      rcases List.mem_cons.mp he with rfl | later
      · exact absurd hr not_in
      · exact ih later

/-- The line of an ordinal, by the vital entry in whose range it lies. -/
theorem lineOf_iff (ht : t.Pairwise apart) : lineOf t o = some l ↔
    ∃ e ∈ t, inRange t o e = true ∧ l = e.base + (o - vitalBelow t e.base) := by
  refine ⟨lineOfGo_some, ?_⟩
  rintro ⟨e, he, hr, rfl⟩
  obtain ⟨l, hl⟩ := lineOfGo_isSome he hr
  obtain ⟨x, hx, hxr, rfl⟩ := lineOfGo_some hl
  obtain rfl := inRange_unique ht hx he hxr hr
  exact hl

/-- Where the count of vital lines below rises, one vital entry begins, and it makes the whole rise. -/
theorem vitalBelow_rises (ht : t.Pairwise apart) (h : vitalBelow t b < vitalBelow t (b + 1)) :
    ∃ e ∈ t, e.isVital = true ∧ e.base = b ∧ vitalBelow t (b + 1) = vitalBelow t b + e.count := by
  induction t with
  | nil => simp [vitalBelow] at h
  | cons x t ih =>
    obtain ⟨fresh, tail⟩ := List.pairwise_cons.mp ht
    rw [vitalBelow, vitalBelow] at h ⊢
    by_cases begins : x.isVital = true ∧ x.base = b ∧ 0 < x.count
    · obtain ⟨hv, hb, hc⟩ := begins
      have here : (if (x.isVital && decide (x.base < b)) = true then x.count else 0) = 0 := by simp [hb]
      have there : (if (x.isVital && decide (x.base < b + 1)) = true then x.count else 0) = x.count := by simp [hv, hb]
      have still : vitalBelow t (b + 1) = vitalBelow t b := by
        by_contra moved
        have := vitalBelow_mono (t := t) (Nat.le_add_right b 1)
        obtain ⟨e, he, hev, heb, rise⟩ := ih tail (by omega)
        have := vital_before ht List.mem_cons_self (List.mem_cons_of_mem _ he) hv hev
        rcases fresh e he with hf | hf | hf | hf
        · simp [(isVital_iff.mp hv).1] at hf
        · simp [(isVital_iff.mp hev).1] at hf
        · omega
        · omega
      exact ⟨x, List.mem_cons_self, hv, hb, by rw [here, there, still]; omega⟩
    · have same : (if (x.isVital && decide (x.base < b)) = true then x.count else 0) =
          (if (x.isVital && decide (x.base < b + 1)) = true then x.count else 0) := by
        cases hv : x.isVital with
        | false => simp
        | true =>
          by_cases below : x.base < b
          · have : x.base < b + 1 := by omega
            simp [below, this]
          · by_cases at_b : x.base = b
            · have empty : x.count = 0 := by
                by_contra some_lines
                exact begins ⟨hv, at_b, by omega⟩
              simp [empty]
            · have : ¬ x.base < b + 1 := by omega
              simp [below, this]
      obtain ⟨e, he, hev, heb, rise⟩ := ih tail (by omega)
      exact ⟨e, List.mem_cons_of_mem _ he, hev, heb, by omega⟩

/-- Every ordinal below V lies in the range of a vital entry. -/
theorem inRange_exists (ht : t.Pairwise apart) (h : o < vitalLines t) : ∃ e ∈ t, inRange t o e = true := by
  obtain ⟨top, htop⟩ := vitalBelow_top t
  have reached : ∃ b, o < vitalBelow t b := ⟨top, htop ▸ h⟩
  have bottom : vitalBelow t 0 = 0 := by
    clear ht h htop reached
    induction t with
    | nil => rfl
    | cons x t ih => simp [vitalBelow, ih]
  obtain ⟨b, hb⟩ : ∃ b, Nat.find reached = b + 1 := Nat.exists_eq_succ_of_ne_zero fun e => by
    have := Nat.find_spec reached
    rw [e] at this
    omega
  have above : o < vitalBelow t (b + 1) := hb ▸ Nat.find_spec reached
  have below : vitalBelow t b ≤ o := Nat.not_lt.mp (Nat.find_min reached (by omega))
  obtain ⟨e, he, hv, rfl, rise⟩ := vitalBelow_rises ht (Nat.lt_of_le_of_lt below above)
  exact ⟨e, he, inRange_iff.mpr ⟨hv, below, by omega⟩⟩

end

/-- Settles O43: both directions go through the one vital entry that holds the line and has the ordinal in its range. -/
theorem vitalOrdinalsAreABijection : Obligations.VitalOrdinalsAreABijection := by
  intro t ht
  have bound {o : Nat} {e : RegionEntry} (he : e ∈ t) (hr : inRange t o e = true) : o < vitalLines t := by
    obtain ⟨hv, -, hi⟩ := inRange_iff.mp hr
    have := vitalBelow_entry (b := e.base + 1) he hv (by omega)
    have := vitalBelow_le t (e.base + 1)
    omega
  refine ⟨fun l o h => ?_, fun l o h => ?_, fun l m o p hl hm lt => ?_, fun o h => ?_, fun o h => ?_⟩
  · obtain ⟨e, he, hv, lo, hi, rfl⟩ := (ordinalOf_iff ht).mp h
    have hr : inRange t (vitalBelow t e.base + (l - e.base)) e = true := inRange_iff.mpr ⟨hv, by omega, by omega⟩
    exact ⟨(lineOf_iff ht).mpr ⟨e, he, hr, by omega⟩, bound he hr⟩
  · obtain ⟨e, he, hr, rfl⟩ := (lineOf_iff ht).mp h
    obtain ⟨hv, lo, hi⟩ := inRange_iff.mp hr
    exact (ordinalOf_iff ht).mpr ⟨e, he, hv, by omega, by omega, by omega⟩
  · obtain ⟨e, he, hv, lo, hi, rfl⟩ := (ordinalOf_iff ht).mp hl
    obtain ⟨e', he', hv', lo', hi', rfl⟩ := (ordinalOf_iff ht).mp hm
    by_cases same : e = e'
    · subst same
      omega
    · rcases vital_before ht he he' hv hv' same with first | first
      · have := vitalBelow_entry (b := e'.base) he hv (by omega)
        omega
      · omega
  · obtain ⟨e, he, hr⟩ := inRange_exists ht h
    exact ⟨_, (lineOf_iff ht).mpr ⟨e, he, hr, rfl⟩⟩
  · cases hl : lineOf t o with
    | none => rfl
    | some l =>
      obtain ⟨e, he, hr, -⟩ := (lineOf_iff ht).mp hl
      have := bound he hr
      omega

end Sys2Proof.Machine
end

section
namespace Sys2Proof.Machine
-- One proof after the other: side by side they pass the memory that the check allows.
set_option Elab.async false

/-! ### Frames (R136, R189) -/

section
variable {k n : Nat}

theorem fieldAt_leBytes_low (k n : Nat) (tl : List Byte) : fieldAt (leBytes (k + 1) n ++ tl) 0 1 = n % 256 := by
  simp [fieldAt, leBytes, leNat]

theorem fieldAt_leBytes_low_last (k n : Nat) : fieldAt (leBytes (k + 1) n) 0 1 = n % 256 := by
  simpa using fieldAt_leBytes_low k n []

theorem fieldAt_leBytes_last (k n : Nat) : fieldAt (leBytes k n) 0 k = n % 256 ^ k := by
  simpa using fieldAt_leBytes_first k n []

theorem cycle_of_bytes (x : BitVec 32) : BitVec.ofNat 32 (x.toNat % 256 ^ 4) = x :=
  BitVec.eq_of_toNat_eq (by have := x.isLt; simp; omega)

theorem word_of_bytes (x : Word) : BitVec.ofNat 64 (x.toNat % 256 ^ 8) = x :=
  BitVec.eq_of_toNat_eq (by have := x.isLt; simp; omega)

theorem state_of_bytes (st : Option ChannelState) : channelStateOf (optCode ChannelState.code st % 256) = st := by
  rcases st with _ | st
  · rfl
  · cases st <;> rfl

theorem base_of_bytes (b : Option Cycle) : baseOf (baseFlag b % 256) (baseCycle b % 256 ^ 4) = b := by
  cases b with
  | none => rfl
  | some c => exact congrArg some (cycle_of_bytes c)

theorem ordinals_of_bytes (need : List (BitVec 32)) :
    (fields 4 need.length (need.flatMap (fun o => leBytes 4 o.toNat))).map (BitVec.ofNat 32) = need := by
  have split := fields_flatMap BitVec.toNat 4 need (fun x _ => by have := x.isLt; omega) []
  rw [List.append_nil] at split
  rw [split, List.map_map]
  simp [Function.comp_def]

/-- The bytes of a base, a count of ordinals and the ordinals. -/
theorem parse_request (b : Option Cycle) (need : List (BitVec 32)) (h : need.length ≤ 8) :
    parsePayload 4 (Payload.request b need).bytes = some (.request b need) := by
  have flag : fieldAt (Payload.request b need).bytes 0 1 = baseFlag b % 256 := fieldAt_leBytes_low 0 _ _
  have count : fieldAt (Payload.request b need).bytes 1 1 = need.length := by
    have read : fieldAt (Payload.request b need).bytes 1 1 = need.length % 256 := by
      simp (disch := omega) only [Payload.bytes, fieldAt_leBytes_skip]
      exact fieldAt_leBytes_low 2 _ _
    omega
  have cycle : fieldAt (Payload.request b need).bytes 4 4 = baseCycle b % 256 ^ 4 := by
    simp (disch := omega) only [Payload.bytes, fieldAt_leBytes_skip]
    exact fieldAt_leBytes_first 4 _ _
  have length : (Payload.request b need).bytes.length = 8 + 4 * need.length := by
    simp only [Payload.bytes, List.length_append, leBytes_length, flatMap_length]
    omega
  have behind : (Payload.request b need).bytes.drop 8 = need.flatMap (fun o => leBytes 4 o.toNat) := by
    simp [Payload.bytes, leBytes]
  have parsed : parsePayload 4 (Payload.request b need).bytes =
      if fieldAt (Payload.request b need).bytes 1 1 ≤ 8 ∧
          (Payload.request b need).bytes.length = 8 + 4 * fieldAt (Payload.request b need).bytes 1 1 then
        some (.request (baseOf (fieldAt (Payload.request b need).bytes 0 1) (fieldAt (Payload.request b need).bytes 4 4))
          ((fields 4 (fieldAt (Payload.request b need).bytes 1 1) ((Payload.request b need).bytes.drop 8)).map (BitVec.ofNat 32)))
      else none := rfl
  rw [parsed, flag, count, cycle, length, behind, if_pos ⟨h, rfl⟩, base_of_bytes, ordinals_of_bytes]

/-- The lengths of Table 11-3 that turn on a payload's own lists. -/
def Payload.listsFit : Payload → Prop
  | .request _ need => need.length ≤ 8
  | .line _ ws => ws.length = 256
  | _ => True

/-- Every payload reads back from its bytes. -/
theorem parsePayload_bytes (p : Payload) (h : p.listsFit) : parsePayload p.kind.code p.bytes = some p := by
  cases p with
  | request b need => exact parse_request b need h
  | line o ws => exact parse_line o ws h
  | hold => rfl
  | go => rfl
  | hail d st k n =>
    simp (disch := omega) only [Payload.kind, FrameKind.code, Payload.bytes, parsePayload, List.length_append, leBytes_length,
      if_true, fieldAt_leBytes_skip, fieldAt_leBytes_first, fieldAt_leBytes_low, fieldAt_leBytes_last, Nat.sub_self,
      Nat.reduceSub, cycle_of_bytes, state_of_bytes]
  | beat st k n =>
    simp (disch := omega) only [Payload.kind, FrameKind.code, Payload.bytes, parsePayload, List.length_append, leBytes_length,
      if_true, fieldAt_leBytes_skip, fieldAt_leBytes_first, fieldAt_leBytes_low, fieldAt_leBytes_last, Nat.sub_self,
      Nat.reduceSub, cycle_of_bytes, state_of_bytes]
  | sign k n st sg =>
    simp (disch := omega) only [Payload.kind, FrameKind.code, Payload.bytes, parsePayload, List.length_append, leBytes_length,
      if_true, fieldAt_leBytes_skip, fieldAt_leBytes_first, fieldAt_leBytes_low, fieldAt_leBytes_last, Nat.sub_self,
      Nat.reduceSub, cycle_of_bytes, word_of_bytes, state_of_bytes]
  | accept b n =>
    simp (disch := omega) only [Payload.kind, FrameKind.code, Payload.bytes, parsePayload, List.length_append, leBytes_length,
      if_true, fieldAt_leBytes_skip, fieldAt_leBytes_first, fieldAt_leBytes_low, fieldAt_leBytes_last, Nat.sub_self,
      Nat.reduceSub, cycle_of_bytes, base_of_bytes]
  | close k n t =>
    simp (disch := omega) only [Payload.kind, FrameKind.code, Payload.bytes, parsePayload, List.length_append, leBytes_length,
      if_true, fieldAt_leBytes_skip, fieldAt_leBytes_first, fieldAt_leBytes_last, Nat.sub_self, Nat.reduceSub, cycle_of_bytes,
      word_of_bytes]
  | refuse r => cases r <;> rfl
  | verdict v => cases v <;> rfl
  | abort r => cases r <;> rfl

theorem Payload.bytes_length_lt (p : Payload) (h : p.listsFit) : p.bytes.length < 65536 := by
  cases p with
  | request b need =>
    have short : need.length ≤ 8 := h
    simp only [Payload.bytes, List.length_append, leBytes_length, flatMap_length]
    omega
  | line o ws =>
    have whole : ws.length = 256 := h
    simp only [Payload.bytes, List.length_append, leBytes_length, flatMap_length]
    omega
  | _ => simp [Payload.bytes, leBytes_length]

theorem flags_testBit (a m r : Bool) : Nat.testBit (flagCode a + 2 * flagCode m + 4 * flagCode r) 0 = a ∧
    Nat.testBit (flagCode a + 2 * flagCode m + 4 * flagCode r) 1 = m ∧
    Nat.testBit (flagCode a + 2 * flagCode m + 4 * flagCode r) 2 = r := by
  revert a m r
  decide

theorem keptFlags_eq (f : Frame) (kind : Nat) : keptFlags kind f.flagsByte =
    (decide (kind = 1) && f.ack, decide (kind = 1) && f.mismatch, decide (kind = 3) && f.relayed) := by
  obtain ⟨h0, h1, h2⟩ := flags_testBit f.ack f.mismatch f.relayed
  rw [keptFlags, Frame.flagsByte, h0, h1, h2]

/-- The flags that a kind uses survive the byte they are sent in (Table 8-3). -/
theorem keptFlags_flagsByte (f : Frame) (h : f.wellFormed = true) :
    keptFlags f.payload.kind.code f.flagsByte = (f.ack, f.mismatch, f.relayed) := by
  simp only [Frame.wellFormed, Bool.and_eq_true] at h
  obtain ⟨⟨-, flags⟩, -⟩ := h
  rw [keptFlags_eq]
  cases hp : f.payload with
  | hail d st k n =>
    have no_relay : f.relayed = false := by simpa [hp] using flags
    simp [Payload.kind, FrameKind.code, no_relay]
  | sign k n st sg =>
    have flagless : f.ack = false ∧ f.mismatch = false := by simpa [hp] using flags
    simp [Payload.kind, FrameKind.code, flagless]
  | _ =>
    have flagless : (f.ack = false ∧ f.mismatch = false) ∧ f.relayed = false := by simpa [hp] using flags
    simp [Payload.kind, FrameKind.code, flagless]

end

/-- Settles O56, from the payload, the flags and the identities reading back. -/
theorem framesReadBackAsTheyWereSent : Obligations.FramesReadBackAsTheyWereSent := by
  intro f hf
  have parts := hf
  simp only [Frame.wellFormed, Bool.and_eq_true] at parts
  obtain ⟨⟨lists, -⟩, identities⟩ := parts
  have fits : f.payload.listsFit := by
    cases hp : f.payload with
    | request b need => simpa [hp, Payload.listsFit] using lists
    | line o ws => simpa [hp, Payload.listsFit] using lists
    | _ => trivial
  exact checkFrame_of_parts f (f.payload.bytes_length_lt fits) (parsePayload_bytes _ fits) (keptFlags_flagsByte f hf) identities

end Sys2Proof.Machine
end

section
/-! Withdrawal (R101) and the seal abort (R73): what a grant's UNCORRECTABLE vital word comes to, as `Withdrew` and
`sealAborted` state it. -/

namespace Sys2Proof.Machine
-- One proof after the other: side by side they pass the memory that the check allows.
set_option Elab.async false

/-! ### Frames on a link, relations of a peer -/

/-- A link that is UP sends every frame, and its beat timer starts again. -/
theorem sendFrame_up {l : LinkId} {f : Frame} {s : State} (hu : (getLink s l).status = .up) : sendFrame l f s = sentUp l f s := by
  simp only [sendFrame, hu, sentUp]

/-- A payload of this channel's own on a link that is UP. -/
theorem send_up {l : LinkId} {pl : Payload} {s : State} {me : Identity} (hid : s.mgmt.params.channelId = some me)
    (hu : (getLink s l).status = .up) : send l pl s = sentUp l (ownFrame me pl) s := by
  simp only [send, hid]
  exact sendFrame_up hu

/-- A frame sent on a link joins its frames at the end. -/
theorem framesOf_sentUp (l : LinkId) (f : Frame) (s : State) : framesOf (sentUp l f s) l = framesOf s l ++ [f] := by
  cases l <;> rfl

/-- A change of a peer's entry touches the two entries only. -/
theorem updPeer_frame (i : Identity) (f : Peer → Peer) (s : State) : updPeer i f s = { s with vote := (updPeer i f s).vote } := by
  simp only [updPeer]
  split <;> rfl

theorem setRelation_frame (i : Identity) (r : Option Relation) (s : State) :
    setRelation i r s = { s with vote := (setRelation i r s).vote } := updPeer_frame i _ s

@[simp] theorem setRelation_slot0 (i : Identity) (r : Option Relation) (s : State) :
    (setRelation i r s).vote.peer0.slot = s.vote.peer0.slot := by
  simp only [setRelation, updPeer]
  split <;> rfl

@[simp] theorem setRelation_slot1 (i : Identity) (r : Option Relation) (s : State) :
    (setRelation i r s).vote.peer1.slot = s.vote.peer1.slot := by
  simp only [setRelation, updPeer]
  split <;> rfl

/-! ### Changes of the channel state -/

/-- A change of the channel state writes both copies and hands its record. -/
theorem changeState_eq (st : ChannelState) (c : Cause) (s : State) : changeState st c s = { s with
    csr := { s.csr with state := st, stateInv := ~~~ BitVec.ofNat 8 st.code }
    ev := evAfter .stateChange c.code (.channelState s.csr.state) (wordOf s.csr.committed.toNat) (setState st s) } :=
  hand_as_evAfter _ _ _ _ _

/-- The seal is aborted with its two records (R73). -/
theorem abortSeal_eq (a : Nat) (s : State) : abortSeal a s = sealAborted a s := by
  simp only [abortSeal, changeState_eq, hand_as_evAfter]
  rfl

/-- A withdrawal is one for SEALED, VOTING and HELD: the latch is set and the channel is in OUT with its record, the vote
cancelled. -/
def leftForOut (s : State) : State := cancelVote (emptySlots (changeState .out .withdrawal (setLatch s)))

/-- The record of a withdrawal's STATE-CHANGE. -/
def leftEvents (s : State) : EventUnit :=
  evAfter .stateChange 8 (.channelState s.csr.state) (wordOf s.csr.committed.toNat)
    { s with csr := { s.csr with state := .out, stateInv := ~~~ (7 : BitVec 8) }, ev.faultLatch := true }

theorem leftForOut_eq (s : State) : leftForOut s = { s with
    csr := { s.csr with state := .out, stateInv := ~~~ (7 : BitVec 8) }
    ev := leftEvents s
    vote := { s.vote with record := VoteRecord.cleared, peer0.slot := none, peer1.slot := none } } := by
  simp only [leftForOut, changeState_eq]
  rfl

/-! ### The end of a source role -/

/-- A role that is no source is not aborted. -/
theorem abortSource_other {why : AbortReason} {tell : Bool} {s : State} (h : ∀ r, s.repair.role ≠ .source r) :
    abortSource why tell s = s := by
  unfold abortSource
  split
  · exact absurd ‹_› (h _)
  · rfl

/-- A source role that is aborted: R is cleared, the role ends, its record is handed. -/
theorem abortSource_source {why : AbortReason} {s : State} {r : SourceRole} (h : s.repair.role = .source r) :
    abortSource why true s = { setRelation r.joiner none (send r.link (.abort why) s) with
      repair := { s.repair with role := .none, r := [] }
      ev := evAfter .repair (3 + why.code) (.peer r.joiner) (wordOf r.linesSent) s } := by
  unfold abortSource
  rw [h]
  simp only [endSource, hand_as_evAfter, if_true]
  apply State.ext_parts
  case h_ev =>
    refine evAfter_of _ _ _ _ _ _ ?_ ?_ ?_ ?_ <;> simp
  case h_repair => simp
  case h_vote => simp [setRelation, updPeer, peerSlot]; split <;> simp
  all_goals simp

/-- The role's end and its record where a source role is held, as a withdrawal has them. -/
def partedEvents (s : State) : EventUnit :=
  match s.repair.role with
  | .source r => evAfter .repair 4 (.peer r.joiner) (wordOf r.linesSent)
      { s with csr := { s.csr with state := .out, stateInv := ~~~ (7 : BitVec 8) }, ev := leftEvents s }
  | _ => leftEvents s

/-- The maps with a source's R cleared. -/
def partedRepair (s : State) : List Nat :=
  match s.repair.role with
  | .source _ => []
  | _ => s.repair.r

/-- The state from which a withdrawal requests its rollback: out of SEALED, VOTING or HELD, a source role aborted. -/
def partedForOut (s : State) : State := abortSource .sourceFault true (leftForOut s)

theorem partedForOut_keeps (s : State) : (partedForOut s).mem = s.mem ∧ (partedForOut s).port = s.port ∧
    (partedForOut s).arb = s.arb ∧ (partedForOut s).regions = s.regions ∧ (partedForOut s).counters = s.counters ∧
    (partedForOut s).spare = s.spare ∧ (partedForOut s).scrub = s.scrub ∧ (partedForOut s).mgmt = s.mgmt ∧
    (partedForOut s).out.responses = s.out.responses ∧ (partedForOut s).sig = s.sig ∧ (partedForOut s).jnl = s.jnl ∧
    (partedForOut s).csr = { s.csr with state := .out, stateInv := ~~~ (7 : BitVec 8) } ∧
    (partedForOut s).vote.record = VoteRecord.cleared := by
  simp [partedForOut, leftForOut_eq]

theorem partedForOut_slots (s : State) :
    (partedForOut s).vote.peer0.slot = none ∧ (partedForOut s).vote.peer1.slot = none := by
  unfold partedForOut
  by_cases h : ∃ r, (leftForOut s).repair.role = .source r
  · obtain ⟨r, hr⟩ := h
    rw [abortSource_source hr]
    simp [leftForOut_eq]
  · rw [abortSource_other fun r hr => h ⟨r, hr⟩]
    simp [leftForOut_eq]

theorem partedForOut_ev (s : State) : (partedForOut s).ev = partedEvents s := by
  unfold partedForOut partedEvents
  split
  · rename_i r hr
    rw [abortSource_source (r := r) (by rw [leftForOut_eq]; exact hr)]
    exact evAfter_of _ _ _ _ _ _ (by rw [leftForOut_eq]) (by rw [leftForOut_eq]) (by rw [leftForOut_eq]) (by rw [leftForOut_eq])
  · rename_i hr
    rw [abortSource_other fun r h => hr r (by rw [leftForOut_eq] at h; exact h), leftForOut_eq]

theorem partedForOut_repair (s : State) (role : Role) : { (partedForOut s).repair with role := role } =
    { s.repair with role := role, r := partedRepair s } := by
  unfold partedForOut partedRepair
  split
  · rename_i r hr
    rw [abortSource_source (r := r) (by rw [leftForOut_eq]; exact hr), leftForOut_eq]
  · rename_i hr
    rw [abortSource_other fun r h => hr r (by rw [leftForOut_eq] at h; exact h), leftForOut_eq]

theorem partedForOut_told {s : State} {r : SourceRole} {me : Identity} (hr : s.repair.role = .source r)
    (hid : s.mgmt.params.channelId = some me) (hu : (getLink s r.link).status = .up) :
    framesOf (partedForOut s) r.link = framesOf s r.link ++ [ownFrame me (.abort .sourceFault)] := by
  have hu' : (getLink (leftForOut s) r.link).status = .up := by
    rw [leftForOut_eq]
    cases hl : r.link <;> rw [hl] at hu <;> exact hu
  unfold partedForOut
  rw [abortSource_source (r := r) (by rw [leftForOut_eq]; exact hr),
    send_up (me := me) (by rw [leftForOut_eq]; exact hid) hu', setRelation_frame]
  have h := framesOf_sentUp r.link (ownFrame me (.abort .sourceFault)) (leftForOut s)
  rw [leftForOut_eq] at h ⊢
  cases hl : r.link <;> rw [hl] at h <;> exact h

theorem partedForOut_quiet {s : State} (h : ∀ r, s.repair.role ≠ .source r) :
    (partedForOut s).out = s.out ∧ (partedForOut s).link1 = s.link1 ∧ (partedForOut s).link2 = s.link2 := by
  unfold partedForOut
  rw [abortSource_other (by rw [leftForOut_eq]; exact h), leftForOut_eq]
  exact ⟨rfl, rfl, rfl⟩

/-! ### The withdrawal -/

/-- Preparation takes a rollback result with S invalid: the preparation walk starts. -/
theorem beginPreparation_invalid (res : RollbackResult) {s : State} (hv : s.sig.valid = false) :
    beginPreparation (some res) s = startWalk .preparation
      { s with repair.role := .joiner { freshJoiner false with result := some res } } := by
  simp only [beginPreparation, prepareResult, prepareSignature, hv]
  rfl

/-- A withdrawal with no rollback under way requests its own. -/
theorem withdraw_eq {s : State} (hr : s.jnl.rb.rolling = false) : withdraw s =
    beginPreparation (requestRollback .withdrawal (partedForOut s)).2 (requestRollback .withdrawal (partedForOut s)).1 := by
  have hroll : rolling (partedForOut s) = false := by rw [rolling, (partedForOut_keeps s).2.2.2.2.2.2.2.2.2.2.1]; exact hr
  unfold withdraw
  rw [if_neg (by rw [show abortSource .sourceFault true (cancelVote (emptySlots (changeState .out .withdrawal (setLatch s)))) =
    partedForOut s from rfl, hroll]; exact Bool.false_ne_true)]
  rfl

/-- With entries in an intact journal the withdrawal's rollback rolls. -/
theorem withdraw_rolls {s : State} (hv : s.sig.valid = false) (hr : s.jnl.rb.rolling = false)
    (hj : s.jnl.broken = false ∧ s.jnl.entries ≠ 0) : withdraw s = { partedForOut s with
      jnl := { s.jnl with rb := requested .withdrawal true s }
      repair := { s.repair with role := .joiner (freshJoiner false), r := partedRepair s } } := by
  obtain ⟨-, -, -, -, -, -, -, -, -, hsig, hjnl, hcsr, -⟩ := partedForOut_keeps s
  rw [withdraw_eq hr, requestRollback_invalid _ _ (by rw [hsig]; exact hv), if_pos (by rw [hjnl]; exact hj)]
  have hreq : requested .withdrawal true (partedForOut s) = requested .withdrawal true s := by
    simp only [requested, hsig, hcsr]
  rw [hreq, hjnl]
  simp only [beginPreparation, partedForOut_repair]

/-- The result of a withdrawal's rollback that ends at once. -/
def endedAtOnce (s : State) : RollbackResult := if s.jnl.broken then .broken else .unsigned

/-- The event unit behind a withdrawal whose rollback has ended at once. -/
def endedEvents (s : State) : EventUnit :=
  if s.jnl.broken = true then
    evAfter .rollbackCheck 2 (.region (journalIndex s)) 0 { s with
      csr := { s.csr with
        state := .out, stateInv := ~~~ (7 : BitVec 8), counter := s.csr.committed, counterInv := ~~~ s.csr.committed }
      ev := partedEvents s }
  else partedEvents s

/-- With an empty or a broken journal the withdrawal's rollback has ended, and the preparation walk has begun. -/
theorem withdraw_ends {s : State} (hv : s.sig.valid = false) (hr : s.jnl.rb.rolling = false)
    (hj : ¬ (s.jnl.broken = false ∧ s.jnl.entries ≠ 0)) : withdraw s = { partedForOut s with
      csr := { s.csr with
        state := .out, stateInv := ~~~ (7 : BitVec 8), counter := s.csr.committed, counterInv := ~~~ s.csr.committed }
      sig := { s.sig with walk := .preparation, cursor := 0, acc := 0, poisoned := [], overflow := false }
      jnl := { JournalUnit.reset with rb := requested .withdrawal false s }
      vote := (setCounter s.csr.committed (partedForOut s)).vote
      ev := endedEvents s
      repair := { s.repair with
        role := .joiner { freshJoiner false with result := some (endedAtOnce s) }, r := partedRepair s } } := by
  obtain ⟨-, -, -, hreg, -, -, -, -, -, hsig, hjnl, hcsr, -⟩ := partedForOut_keeps s
  rw [withdraw_eq hr, requestRollback_invalid _ _ (by rw [hsig]; exact hv), if_neg (by rw [hjnl]; exact hj)]
  have hreq : requested .withdrawal false (partedForOut s) = requested .withdrawal false s := by
    simp only [requested, hsig, hcsr]
  have hidx : journalIndex (partedForOut s) = journalIndex s := by simp only [journalIndex, journalEntry, hreg]
  simp only [hreq, hjnl, hidx]
  have hcom : (partedForOut s).csr.committed = s.csr.committed := by rw [hcsr]
  cases hb : s.jnl.broken
  all_goals
    rw [beginPreparation_invalid _ (by simp [hsig, hv])]
    apply State.ext_parts
    case h_csr => simp [hcsr]
    case h_sig => simp [hsig]
    case h_jnl => simp
    case h_vote => simp [hcom, setCounter_vote]
    case h_repair => simpa [endedAtOnce, hb] using partedForOut_repair s .none
  case false.h_ev => simp [endedEvents, hb, partedForOut_ev]
  case true.h_ev =>
    simp only [endedEvents, hb, startWalk_keeps]
    exact evAfter_of _ _ _ _ _ _ (by simp [hcsr]) (by simp [hcsr]) (by simp [hreg]) (by simp [partedForOut_ev])
  all_goals simp

/-- An emptied slot stays empty when the counter is written. -/
theorem setCounter_slots {n : Cycle} {s : State} (h : s.vote.peer0.slot = none ∧ s.vote.peer1.slot = none) :
    (setCounter n s).vote.peer0.slot = none ∧ (setCounter n s).vote.peer1.slot = none := by
  rw [setCounter_vote]
  split
  · exact h
  · exact ⟨rfl, rfl⟩

/-- With S invalid and no rollback running a withdrawal is the one that `Withdrew` states (R101). -/
theorem withdraw_withdrew {s : State} (hv : s.sig.valid = false) (hr : s.jnl.rb.rolling = false) : Withdrew s (withdraw s) := by
  obtain ⟨hmem, hport, harb, hreg, hcou, hspa, hscr, hmg, hres, hsig, hjnl, hcsr, hrec⟩ := partedForOut_keeps s
  by_cases hj : s.jnl.broken = false ∧ s.jnl.entries ≠ 0
  · obtain ⟨hb, he⟩ := hj
    rw [withdraw_rolls hv hr ⟨hb, he⟩]
    exact {
      kept := ⟨hmem, hport, harb, hreg, hcou, hspa, hscr, hmg, hres⟩
      vote := ⟨hrec, partedForOut_slots s⟩
      rolls := fun _ _ => ⟨hcsr, hsig, rfl⟩
      ends := fun h => by rcases h with h | h <;> simp_all
      role := ⟨freshJoiner false, rfl, rfl, rfl, rfl, rfl, rfl, by simp [hb, he, freshJoiner]⟩
      told := fun r me hr hid hu => partedForOut_told hr hid hu
      quiet := fun h => partedForOut_quiet h
      records := (partedForOut_ev s).trans (if_neg (by simp [hb])).symm }
  · rw [withdraw_ends hv hr hj]
    exact {
      kept := ⟨hmem, hport, harb, hreg, hcou, hspa, hscr, hmg, hres⟩
      vote := ⟨by simp [hrec], setCounter_slots (partedForOut_slots s)⟩
      rolls := fun hb he => absurd ⟨hb, he⟩ hj
      ends := fun _ => ⟨rfl, rfl, rfl⟩
      role := ⟨_, rfl, rfl, rfl, rfl, rfl, rfl, by
        cases hb : s.jnl.broken
        · have he : s.jnl.entries = 0 := by simpa [hb] using hj
          simp [endedAtOnce, hb, he]
        · simp [endedAtOnce, hb]⟩
      told := fun r me hr hid hu => partedForOut_told hr hid hu
      quiet := fun h => partedForOut_quiet h
      records := rfl }

end Sys2Proof.Machine
end

section
/-! The processor's read (R14): its words or a bus error, and what an UNCORRECTABLE word has for consequences (R26). -/

namespace Sys2Proof.Machine
-- One proof after the other: side by side they pass the memory that the check allows.
set_option Elab.async false

/-! ### Words that read UNCORRECTABLE -/

/-- A word read UNCORRECTABLE is one of those read. -/
theorem mem_of_mem_badWords {s : State} {as : List Nat} {a : Nat} (h : a ∈ badWords (outcomesAt s as)) : a ∈ as := by
  induction as with
  | nil => simp [outcomesAt, badWords] at h
  | cons x as ih =>
    simp only [outcomesAt, List.map_cons] at h ih
    cases hx : decodeStored (storedAt s x) x <;> rw [hx] at h <;> simp only [badWords, List.mem_cons] at h ⊢
    case clean => exact .inr (ih h)
    case corrected => exact .inr (ih h)
    case uncorrectable => exact h.imp_right ih

/-- A word read UNCORRECTABLE has that outcome. -/
theorem outcome_of_mem_badWords {rs : List (Nat × ReadOutcome)} {a : Nat} (h : a ∈ badWords rs) :
    ∃ raw, (a, ReadOutcome.uncorrectable raw) ∈ rs := by
  induction rs with
  | nil => simp [badWords] at h
  | cons x rs ih =>
    obtain ⟨b, o⟩ := x
    cases o with
    | clean v => exact (ih h).imp fun raw hr => List.mem_cons_of_mem _ hr
    | corrected v => exact (ih h).imp fun raw hr => List.mem_cons_of_mem _ hr
    | uncorrectable raw =>
      rcases List.mem_cons.mp h with rfl | h
      · exact ⟨raw, List.mem_cons_self⟩
      · exact (ih h).imp fun raw hr => List.mem_cons_of_mem _ hr

/-- Words outside JOURNAL mark no segment. -/
theorem markSegments_other {bad : List Nat} {s : State} (h : ∀ a ∈ bad, classOf s (a / 256) ≠ some .journal) :
    markSegments bad s = s := by
  induction bad with
  | nil => rfl
  | cons a as ih =>
    simp only [markSegments, if_neg (h a List.mem_cons_self)]
    exact ih fun b hb => h b (List.mem_cons_of_mem _ hb)

section Consequences
variable {by_ : ReadBy} {b : Nat} {bs : List Nat} {s : State}

/-- Words that are neither vital nor of the journal, and vital words in CONFIGURED, have no consequences beyond their
reports. -/
theorem consequences_none (hj : ∀ a ∈ b :: bs, classOf s (a / 256) ≠ some .journal)
    (hv : (∀ a ∈ b :: bs, classOf s (a / 256) ≠ some .vital) ∨ s.csr.state = .configured) :
    consequences by_ (b :: bs) s = s := by
  simp only [consequences, markSegments_other hj]
  rcases hv with hv | hs
  · have none : (b :: bs).filter (fun a => decide (classOf s (a / 256) = some .vital)) = [] := by
      rw [List.filter_eq_nil_iff]
      intro a ha
      simpa using hv a ha
    rw [none]
  · rw [hs]
    split <;> rfl

/-- Vital words act by the channel state. -/
theorem consequences_vital (h : ∀ a ∈ b :: bs, classOf s (a / 256) = some .vital) :
    consequences by_ (b :: bs) s = match s.csr.state with
      | .sealed => withdraw s
      | .voting => withdraw s
      | .held => withdraw s
      | .sealing => abortSeal b s
      | .receiving => abortReceiving .joinerFault true s
      | .out => vitalInOut by_ (b :: bs) s
      | .unconfigured => s
      | .configured => s
      | .halted => s := by
  have all : (b :: bs).filter (fun a => decide (classOf s (a / 256) = some .vital)) = b :: bs := by
    rw [List.filter_eq_self]
    intro a ha
    simpa using h a ha
  simp only [consequences, markSegments_other (fun a ha => by rw [h a ha]; simp), all] <;> rfl

/-- In SEALING the seal is aborted (R73). -/
theorem consequences_sealing (h : ∀ a ∈ b :: bs, classOf s (a / 256) = some .vital) (hs : s.csr.state = .sealing) :
    consequences by_ (b :: bs) s = sealAborted b s := by
  rw [consequences_vital h, hs]
  exact abortSeal_eq b s

/-- In SEALED, VOTING and HELD the channel withdraws (R101). -/
theorem consequences_signed (h : ∀ a ∈ b :: bs, classOf s (a / 256) = some .vital)
    (hs : s.csr.state = .sealed ∨ s.csr.state = .voting ∨ s.csr.state = .held) :
    consequences by_ (b :: bs) s = withdraw s := by
  rw [consequences_vital h]
  rcases hs with hs | hs | hs <;> rw [hs]

end Consequences

/-! ### The processor's grant -/

/-- The processor's grant, given or next, carries out the head. -/
theorem processorGrant_granted {d : Direction} {s : State} {t : Transaction} {rest : List Transaction}
    (hq : s.port.queue = t :: rest) (hd : t.direction = d) (hg : granted .processor s) : processorGrant d s =
      consequences .processor (transactionWork t { s with arb.grant := none }).2
        (transactionWork t { s with arb.grant := none }).1 := by
  have head : headDirection s = some d := by simp [headDirection, hq, hd]
  rw [processorGrant, if_pos head, runGrant_granted hg, processorBody]
  simp only [headWork, hq]

/-- The first word of a stretch, and the words behind it. -/
theorem wordsFrom_succ (a n : Nat) : wordsFrom a (n + 1) = a :: wordsFrom (a + 1) n := by
  simp only [wordsFrom, List.range_succ_eq_map, List.map_cons, List.map_map, Nat.add_zero]
  congr 1
  apply List.map_congr_left
  intro i _
  simp
  omega

/-- Words that decode CLEAN are delivered, and their reads do nothing. -/
theorem readWords_cleanAt (by_ : ReadBy) {s : State} (vs : List Word) (a : Nat) (h : cleanAt s a vs) :
    badWords (readWords by_ (wordsFrom a vs.length) s).1 = [] ∧
    readValues (readWords by_ (wordsFrom a vs.length) s).1 = vs ∧ (readWords by_ (wordsFrom a vs.length) s).2 = s := by
  induction vs generalizing a with
  | nil => exact ⟨rfl, rfl, rfl⟩
  | cons v vs ih =>
    obtain ⟨hb, hv, hs⟩ := ih (a + 1) h.2
    simp only [List.length_cons, wordsFrom_succ, readWords, readWord_clean h.1, badWords, readValues, hb, hv, hs]
    exact ⟨trivial, rfl, trivial⟩

section Line
variable {a : BitVec 29} {n : Nat} {s : State}

/-- The reads of the words of one line. -/
theorem readWords_line (hl : a.toNat / 8 % 256 + n ≤ 256) : readWords .processor (transactionWords (.read a n)) s =
    (outcomesAt s (wordsFrom (a.toNat / 8) n), met .processor (outcomesAt s (wordsFrom (a.toNat / 8) n)) s) :=
  have line := wordsFrom_inLine _ n hl
  readWords_met .processor (wordsFrom (a.toNat / 8) n) s _ line.1 line.2

/-- With every word of a line delivered the read is answered. -/
theorem readWork_good (hl : a.toNat / 8 % 256 + n ≤ 256) (hb : badWords (outcomesAt s (wordsFrom (a.toNat / 8) n)) = []) :
    readWork (.read a n) s = (answerHead (.data (readValues (outcomesAt s (wordsFrom (a.toNat / 8) n))))
      (met .processor (outcomesAt s (wordsFrom (a.toNat / 8) n)) s), []) := by
  simp only [readWork]
  rw [if_pos (by rw [readWords_line hl]; exact hb), readWords_line hl]

/-- With a word UNCORRECTABLE the read is refused. -/
theorem readWork_bad {b : Nat} {bs : List Nat} (hl : a.toNat / 8 % 256 + n ≤ 256)
    (hb : badWords (outcomesAt s (wordsFrom (a.toNat / 8) n)) = b :: bs) : readWork (.read a n) s =
      (uncorrectableHead (.read a n) (b :: bs) (met .processor (outcomesAt s (wordsFrom (a.toNat / 8) n)) s), b :: bs) := by
  simp only [readWork]
  rw [if_neg (by rw [readWords_line hl, hb]; exact List.cons_ne_nil _ _), readWords_line hl, hb]

end Line

/-- Words decode CLEAN whatever grant is under way. -/
theorem cleanAt_grant {s : State} (g : Option Requester) (vs : List Word) (a : Nat) (h : cleanAt s a vs) :
    cleanAt { s with arb.grant := g } a vs := by
  induction vs generalizing a with
  | nil => trivial
  | cons v vs ih => exact ⟨h.1, ih _ h.2⟩

/-- Values delivered for every word are the values read. -/
theorem readValues_of_values {rs : List (Nat × ReadOutcome)} {vs : List Word}
    (h : rs.map (fun x => x.2.value) = vs.map some) : badWords rs = [] ∧ readValues rs = vs := by
  induction rs generalizing vs with
  | nil => cases vs with
    | nil => exact ⟨rfl, rfl⟩
    | cons v vs => simp at h
  | cons x rs ih =>
    obtain ⟨a, o⟩ := x
    cases vs with
    | nil => simp at h
    | cons v vs =>
      simp only [List.map_cons, List.cons.injEq] at h
      obtain ⟨ho, hr⟩ := h
      obtain ⟨hb, hv⟩ := ih hr
      cases o <;> simp_all [ReadOutcome.value, badWords, readValues]

/-! ### The read's answer -/

/-- The state after the reads of a grant, with the head answered. -/
def answeredAfter (seen : List (Nat × ReadOutcome)) (rest : List Transaction) (r : Response) (p : LastRefusal) (s : State) :
    State :=
  { met .processor seen { s with arb.grant := none } with
    port := { s.port with queue := rest, held := none, lastRefusal := p }
    out.responses := s.out.responses ++ [r] }

section Answered
variable {s : State} {t : Transaction} {rest : List Transaction} {seen : List (Nat × ReadOutcome)}

/-- A head answered behind the reads of its grant. -/
theorem answerHead_met (hq : s.port.queue = t :: rest) (r : Response) :
    answerHead r (met .processor seen { s with arb.grant := none }) = answeredAfter seen rest r s.port.lastRefusal s := by
  obtain ⟨-, hp, -, -, -, -, -, -, -, -, -, -, -, -, -, -, -, -, ho, -⟩ := met_keeps .processor seen { s with arb.grant := none }
  simp only [answerHead, respond, answeredAfter, hp, ho, hq, List.tail_cons]

/-- A head refused behind the reads of its grant. -/
theorem uncorrectableHead_met (hq : s.port.queue = t :: rest) {b : Nat} {bs : List Nat} :
    uncorrectableHead t (b :: bs) (met .processor seen { s with arb.grant := none }) = answeredAfter seen rest .busError
      { reason := some .uncorrectable, addr := byteAddr b, direction := t.direction } s := by
  obtain ⟨-, hp, -, -, -, -, -, -, -, -, -, -, -, -, -, -, -, -, ho, -⟩ := met_keeps .processor seen { s with arb.grant := none }
  simp only [uncorrectableHead, answerHead, respond, answeredAfter, hp, ho, hq, List.tail_cons, List.headD_cons]

/-- The table, the channel state and the journal's rollback are as they were behind the reads of a grant. -/
theorem answeredAfter_keeps (r : Response) (p : LastRefusal) :
    (answeredAfter seen rest r p s).csr = s.csr ∧ (answeredAfter seen rest r p s).regions = s.regions ∧
    (answeredAfter seen rest r p s).jnl = s.jnl := by
  obtain ⟨hc, -, -, hr, -, -, -, -, -, -, -, -, hj, -⟩ := met_keeps .processor seen { s with arb.grant := none }
  exact ⟨hc, hr, hj⟩

end Answered

/-! ### A refused head's consequences -/

section Refused
variable {s : State} {as : List Nat} {l b : Nat} {bs : List Nat} {rest : List Transaction} {r : Response} {p : LastRefusal}

/-- The words met UNCORRECTABLE lie in the line that was read. -/
theorem class_of_badWords (line : ∀ x ∈ as, x / 256 = l) (hbad : badWords (outcomesAt s as) = b :: bs) :
    ∀ x ∈ b :: bs, classOf (answeredAfter (outcomesAt s as) rest r p s) (x / 256) = classOf s l := fun x hx => by
  rw [line x (mem_of_mem_badWords (by rw [hbad]; exact hx))]
  simp only [classOf, regionOf, (answeredAfter_keeps r p).2.1]

/-- Outside JOURNAL and VITAL, and in CONFIGURED, a refused head has no consequences. -/
theorem consequences_refused_none (line : ∀ x ∈ as, x / 256 = l) (hbad : badWords (outcomesAt s as) = b :: bs)
    (hj : classOf s l ≠ some .journal) (hv : classOf s l ≠ some .vital ∨ s.csr.state = .configured) :
    consequences .processor (b :: bs) (answeredAfter (outcomesAt s as) rest r p s) =
      answeredAfter (outcomesAt s as) rest r p s :=
  have cls := class_of_badWords (rest := rest) (r := r) (p := p) line hbad
  consequences_none (fun x hx => by rw [cls x hx]; exact hj)
    (hv.imp (fun h x hx => by rw [cls x hx]; exact h) (fun h => by rw [(answeredAfter_keeps r p).1]; exact h))

/-- In SEALING a refused head aborts the seal. -/
theorem consequences_refused_sealing (line : ∀ x ∈ as, x / 256 = l) (hbad : badWords (outcomesAt s as) = b :: bs)
    (hv : classOf s l = some .vital) (hs : s.csr.state = .sealing) :
    consequences .processor (b :: bs) (answeredAfter (outcomesAt s as) rest r p s) =
      sealAborted b (answeredAfter (outcomesAt s as) rest r p s) :=
  consequences_sealing (fun x hx => by rw [class_of_badWords line hbad x hx, hv])
    (by rw [(answeredAfter_keeps r p).1]; exact hs)

/-- In SEALED, VOTING and HELD a refused head withdraws the channel. -/
theorem consequences_refused_withdrew (line : ∀ x ∈ as, x / 256 = l) (hbad : badWords (outcomesAt s as) = b :: bs)
    (hv : classOf s l = some .vital) (hs : s.csr.state = .sealed ∨ s.csr.state = .voting ∨ s.csr.state = .held)
    (hroll : s.jnl.rb.rolling = false) :
    Withdrew (answeredAfter (outcomesAt s as) rest r p s)
      (consequences .processor (b :: bs) (answeredAfter (outcomesAt s as) rest r p s)) := by
  rw [consequences_signed (fun x hx => by rw [class_of_badWords line hbad x hx, hv])
    (by rw [(answeredAfter_keeps r p).1]; exact hs)]
  obtain ⟨raw, hraw⟩ := outcome_of_mem_badWords (rs := outcomesAt s as) (a := b) (by rw [hbad]; exact List.mem_cons_self)
  refine withdraw_withdrew ?_ (by rw [(answeredAfter_keeps r p).2.2]; exact hroll)
  exact met_invalid .processor _ { s with arb.grant := none } b raw hraw (by
    rw [line b (mem_of_mem_badWords (by rw [hbad]; exact List.mem_cons_self))]; exact hv)

end Refused

/-- The outcomes do not depend on the grant under way. -/
theorem outcomesAt_grant (s : State) (g : Option Requester) (as : List Nat) :
    outcomesAt { s with arb.grant := g } as = outcomesAt s as := rfl

/-- Settles O8: with a clean, a single and any stretch of words. -/
theorem processorReadReturnsItsWordsOrABusError : Obligations.ProcessorReadReturnsItsWordsOrABusError := by
  unfold Obligations.ProcessorReadReturnsItsWordsOrABusError
  refine ⟨?_, ?_, ?_⟩
  · intro s a vs rest hq hg hc
    obtain ⟨hb, hv, hs⟩ := readWords_cleanAt .processor (s := { s with arb.grant := none }) vs (a.toNat / 8)
      (cleanAt_grant none vs _ hc)
    refine congrArg Host.Outcome.next ?_
    rw [processorGrant_granted (d := .read) hq rfl hg]
    have work : transactionWork (.read a vs.length) { s with arb.grant := none } =
        (answerHead (.data vs) { s with arb.grant := none }, []) := by
      refine (if_pos hb).trans ?_
      rw [show transactionWords (.read a vs.length) = wordsFrom (a.toNat / 8) vs.length from rfl, hv, hs]
    rw [work, consequences_nil]
    simp only [answerHead, respond, hq, List.tail_cons]
  · intro s a raw rest hq hg hd
    have seen : outcomesAt s (wordsFrom (a.toNat / 8) 1) = [(a.toNat / 8, .uncorrectable raw)] := by
      simp [outcomesAt, wordsFrom, hd]
    refine ⟨_, rfl, ?_⟩
    rw [processorGrant_granted (d := .read) hq rfl hg, transactionWork, readWork_bad (b := a.toNat / 8) (bs := []) (by omega)
      (by rw [outcomesAt_grant, seen]; rfl), uncorrectableHead_met hq, outcomesAt_grant, seen]
    refine ⟨?_, ?_, ?_, ?_⟩
    case refine_3 => simp [answeredAfter, met, Transaction.direction]
    all_goals simp [answeredAfter, met, reportUncorrectable]
    all_goals split <;> simp
  · intro s a n rest word seen answered hq hg hl
    have runs : exec .processorRead s = .next (consequences .processor
        (readWork (.read a n) { s with arb.grant := none }).2 (readWork (.read a n) { s with arb.grant := none }).1) :=
      congrArg Host.Outcome.next (processorGrant_granted (d := .read) hq rfl hg)
    rw [runs]
    refine ⟨fun vs hvs => ?_, fun b bs hbad => ?_⟩
    · obtain ⟨hb, hv⟩ := readValues_of_values hvs
      rw [readWork_good (s := { s with arb.grant := none }) hl hb, outcomesAt_grant, hv]
      exact congrArg Host.Outcome.next (answerHead_met hq _)
    · intro refused cls
      have line := (wordsFrom_inLine word n hl).2
      have isRefused : uncorrectableHead (.read a n) (b :: bs) (met .processor seen { s with arb.grant := none }) =
          answeredAfter seen rest .busError { reason := some .uncorrectable, addr := byteAddr b, direction := .read } s :=
        uncorrectableHead_met hq
      rw [readWork_bad (s := { s with arb.grant := none }) hl hbad, outcomesAt_grant, isRefused]
      refine ⟨fun hj hv => ?_, fun hv hs => ?_, fun hv hs hroll => ?_⟩
      · exact congrArg Host.Outcome.next (consequences_refused_none line hbad hj hv)
      · exact congrArg Host.Outcome.next (consequences_refused_sealing line hbad hv hs)
      · exact ⟨_, rfl, consequences_refused_withdrew line hbad hv hs hroll⟩

end Sys2Proof.Machine
end

section
/-! The processor's write (R15, R16): the words it reads, what it stores outside the vital sequence. -/

namespace Sys2Proof.Machine
-- One proof after the other: side by side they pass the memory that the check allows.
set_option Elab.async false

/-! ### The words that take part -/

/-- The words that take part lie in the line of the first, once each. -/
theorem takingPart_inLine {w : Nat} {ws : List WriteWord} (h : w % 256 + ws.length ≤ 256) :
    ∀ x ∈ takingPart w ws, x.1 / 256 = w / 256 := by
  rintro ⟨j, y⟩ hx
  obtain ⟨k, hk, -, rfl⟩ := mem_takingPart.mp hx
  have := (List.getElem?_eq_some_iff.mp hk).1
  show (w + k) / 256 = w / 256
  omega

/-- A word that takes part lies at the first word or behind it. -/
theorem le_of_mem_takingPart {w : Nat} {ws : List WriteWord} {x : Nat × WriteWord} (h : x ∈ takingPart w ws) : w ≤ x.1 := by
  obtain ⟨j, y⟩ := x
  obtain ⟨k, -, -, rfl⟩ := mem_takingPart.mp h
  exact Nat.le_add_right w k

/-- The words that take part have distinct addresses. -/
theorem takingPart_nodup (w : Nat) (ws : List WriteWord) : ((takingPart w ws).map Prod.fst).Nodup := by
  induction ws generalizing w with
  | nil => exact List.nodup_nil
  | cons x ws ih =>
    simp only [takingPart]
    split
    · exact ih (w + 1)
    · rw [List.map_cons, List.nodup_cons]
      refine ⟨fun h => ?_, ih (w + 1)⟩
      obtain ⟨y, hy, he⟩ := List.mem_map.mp h
      have := le_of_mem_takingPart hy
      simp only at he
      omega

/-- The addresses that a write reads. -/
theorem oldReads_sublist (tracked : Bool) (ps : List (Nat × WriteWord)) : (oldReads tracked ps).Sublist (ps.map Prod.fst) :=
  List.filter_sublist.map _

theorem oldReads_tracked (ps : List (Nat × WriteWord)) : oldReads true ps = ps.map Prod.fst := by simp [oldReads]

theorem oldReads_merged (ps : List (Nat × WriteWord)) :
    oldReads false ps = (ps.filter (fun x => decide (x.2.enables ≠ 0xFF))).map Prod.fst := by
  simp only [oldReads, Bool.false_or]
  rfl

/-! ### Old values -/

/-- A word that was read and is not UNCORRECTABLE delivers its value. -/
theorem deliveredFor_outcomes {s : State} {as : List Nat} {a : Nat} (ha : a ∈ as) (hb : badWords (outcomesAt s as) = []) :
    deliveredFor a (outcomesAt s as) = some (valueAt s a) := by
  induction as with
  | nil => simp at ha
  | cons x as ih =>
    simp only [outcomesAt, List.map_cons, deliveredFor] at hb ih ⊢
    by_cases e : a = x
    · subst e
      rw [if_pos rfl, valueAt]
      cases hd : decodeStored (storedAt s a) a <;> rw [hd] at hb <;> simp [badWords, ReadOutcome.value] at hb ⊢
    · rw [if_neg e]
      refine ih ((List.mem_cons.mp ha).resolve_left e) ?_
      cases hd : decodeStored (storedAt s x) x <;> rw [hd] at hb <;> simp [badWords] at hb <;> exact hb

/-- Word address, old and new value of each word that takes part, from the words as they are stored. -/
def changesFrom (s : State) (ps : List (Nat × WriteWord)) : List (Nat × Word × Word) :=
  ps.map (fun x => (x.1, valueAt s x.1,
    if x.2.enables = 0xFF then x.2.data else mergeLanes x.2.enables x.2.data (valueAt s x.1)))

/-- With every taking-part word read the changes are those from the stored words. -/
theorem changesOf_tracked {s : State} {ps : List (Nat × WriteWord)} (hb : badWords (outcomesAt s (ps.map Prod.fst)) = []) :
    changesOf (outcomesAt s (ps.map Prod.fst)) ps = changesFrom s ps := by
  refine List.map_congr_left fun x hx => ?_
  rw [deliveredFor_outcomes (List.mem_map_of_mem hx) hb]
  rfl

/-- The stored values of a write that reads the merged words only. -/
theorem changesOf_merged {s : State} {ps : List (Nat × WriteWord)} (hb : badWords (outcomesAt s (oldReads false ps)) = []) :
    (changesOf (outcomesAt s (oldReads false ps)) ps).map (fun c => (c.1, c.2.2)) =
      ps.map (fun x => (x.1, if x.2.enables = 0xFF then x.2.data else mergeLanes x.2.enables x.2.data (valueAt s x.1))) := by
  simp only [changesOf, List.map_map]
  refine List.map_congr_left fun x hx => ?_
  have full : (BitVec.allOnes 8) = 0xFF := rfl
  simp only [Function.comp, newValue, full]
  by_cases he : x.2.enables = 0xFF
  · simp only [he, if_true]
  · have read : x.1 ∈ oldReads false ps := List.mem_map_of_mem (List.mem_filter.mpr ⟨hx, by simpa [full] using he⟩)
    rw [deliveredFor_outcomes read hb]

/-! ### The write's grant -/

/-- Whether a write is tracked: to a vital line, in SEALED, VOTING or SEALING (R17, R18). -/
def isTracked (s : State) (l : Nat) : Bool :=
  (ordinalOf s.regions.committed l).isSome && (s.csr.state.marking || decide (s.csr.state = .sealing))

/-- A line has an ordinal just when its class is VITAL. -/
theorem ordinalOf_none_iff {s : State} {l : Nat} : ordinalOf s.regions.committed l = none ↔ classOf s l ≠ some .vital := by
  simp only [ordinalOf, classOf, regionOf]
  cases findRegion s.regions.committed 0 l with
  | none => simp
  | some x => by_cases hv : x.2.cls = .vital <;> simp [hv]

/-- A line outside VITAL, and any line in CONFIGURED, is not tracked. -/
theorem isTracked_untracked {s : State} {l : Nat} (h : classOf s l ≠ some .vital ∨ s.csr.state = .configured) :
    isTracked s l = false := by
  rcases h with h | h
  · simp [isTracked, ordinalOf_none_iff.mpr h]
  · simp [isTracked, h, ChannelState.marking]

/-- There the writing part stores the new values. -/
theorem carryOut_untracked {s : State} {l : Nat} (h : classOf s l ≠ some .vital ∨ s.csr.state = .configured)
    (cs : List (Nat × Word × Word)) (t : State) (ht : t.csr = s.csr) :
    carryOut (ordinalOf s.regions.committed l) cs t = writeWords (cs.map (fun c => (c.1, c.2.2))) t := by
  unfold carryOut
  rcases h with h | h
  · rw [ordinalOf_none_iff.mpr h]
  · split
    · rfl
    · split
      · rename_i e
        rw [e]
        rfl
      · rw [if_neg (by rw [ht, h]; simp [ChannelState.marking]), if_neg (by rw [ht, h]; simp)]

/-- The reads of a grant find the words as they are stored, and leave the state that `met` gives. -/
def readsAsStored (as : List Nat) (s : State) : Prop :=
  readWords .processor as s = (outcomesAt s as, met .processor (outcomesAt s as) s)

section Write
variable {a : BitVec 29} {ws : List WriteWord} {s : State}

/-- The words that a write in one line reads. -/
theorem readsAsStored_line (tracked : Bool) (hl : a.toNat / 8 % 256 + ws.length ≤ 256) :
    readsAsStored (oldReads tracked (takingPart (a.toNat / 8) ws)) s := by
  have sub := oldReads_sublist tracked (takingPart (a.toNat / 8) ws)
  refine readWords_met .processor _ s (a.toNat / 8 / 256) ((takingPart_nodup _ ws).sublist sub) fun b hb => ?_
  obtain ⟨x, hx, rfl⟩ := List.mem_map.mp (sub.subset hb)
  exact takingPart_inLine hl x hx

/-- A write's words in order of its reading and writing. -/
theorem writeWork_eq : writeWork (.write a ws) s =
    (let rd := readWords .processor (oldReads (isTracked s (a.toNat / 8 / 256)) (takingPart (a.toNat / 8) ws)) s
     if badWords rd.1 = [] then
      (answerHead .completion (carryOut (ordinalOf s.regions.committed (a.toNat / 8 / 256))
        (changesOf rd.1 (takingPart (a.toNat / 8) ws)) rd.2), [])
     else (uncorrectableHead (.write a ws) (badWords rd.1) rd.2, badWords rd.1)) := rfl

/-- With every old value delivered the write is carried out and completes. -/
theorem writeWork_good {tracked : Bool} (ht : isTracked s (a.toNat / 8 / 256) = tracked)
    (hl : readsAsStored (oldReads tracked (takingPart (a.toNat / 8) ws)) s)
    (hb : badWords (outcomesAt s (oldReads tracked (takingPart (a.toNat / 8) ws))) = []) :
    writeWork (.write a ws) s = (answerHead .completion (carryOut (ordinalOf s.regions.committed (a.toNat / 8 / 256))
      (changesOf (outcomesAt s (oldReads tracked (takingPart (a.toNat / 8) ws))) (takingPart (a.toNat / 8) ws))
      (met .processor (outcomesAt s (oldReads tracked (takingPart (a.toNat / 8) ws))) s)), []) := by
  simp only [writeWork_eq]
  rw [ht, if_pos (by rw [show readWords .processor _ s = _ from hl]; exact hb), show readWords .processor _ s = _ from hl]

/-- With an old value UNCORRECTABLE the write is refused. -/
theorem writeWork_bad {tracked : Bool} {b : Nat} {bs : List Nat} (ht : isTracked s (a.toNat / 8 / 256) = tracked)
    (hl : readsAsStored (oldReads tracked (takingPart (a.toNat / 8) ws)) s)
    (hb : badWords (outcomesAt s (oldReads tracked (takingPart (a.toNat / 8) ws))) = b :: bs) :
    writeWork (.write a ws) s = (uncorrectableHead (.write a ws) (b :: bs)
      (met .processor (outcomesAt s (oldReads tracked (takingPart (a.toNat / 8) ws))) s), b :: bs) := by
  simp only [writeWork_eq]
  rw [ht, if_neg (by rw [show readWords .processor _ s = _ from hl, hb]; exact List.cons_ne_nil _ _), show readWords .processor _ s = _ from hl, hb]

end Write

/-- What a granted write answers. -/
theorem exec_write {a : BitVec 29} {ws : List WriteWord} {rest : List Transaction} {s : State}
    (hq : s.port.queue = .write a ws :: rest) (hg : granted .processor s) : exec .processorWrite s = .next
      (consequences .processor (writeWork (.write a ws) { s with arb.grant := none }).2
        (writeWork (.write a ws) { s with arb.grant := none }).1) :=
  congrArg Host.Outcome.next (processorGrant_granted (d := .write) hq rfl hg)

/-- A write outside the vital sequence, its merged words all delivered. -/
theorem exec_write_untracked {a : BitVec 29} {ws : List WriteWord} {rest : List Transaction} {s : State}
    (hq : s.port.queue = .write a ws :: rest) (hg : granted .processor s)
    (hl : readsAsStored (oldReads false (takingPart (a.toNat / 8) ws)) { s with arb.grant := none })
    (hc : classOf s (a.toNat / 8 / 256) ≠ some .vital ∨ s.csr.state = .configured)
    (hb : badWords (outcomesAt s (oldReads false (takingPart (a.toNat / 8) ws))) = []) :
    let seen := outcomesAt s (oldReads false (takingPart (a.toNat / 8) ws))
    let read := met .processor seen { s with arb.grant := none }
    exec .processorWrite s = .next { read with
      mem := (writeWords ((takingPart (a.toNat / 8) ws).map (fun x => (x.1,
        if x.2.enables = 0xFF then x.2.data else mergeLanes x.2.enables x.2.data (valueAt s x.1)))) read).mem
      port := { s.port with queue := rest, held := none }
      out.responses := s.out.responses ++ [.completion] } := by
  intro seen read
  obtain ⟨hcsr, hp, -, -, -, -, -, -, -, -, -, -, -, -, -, -, -, -, ho, -⟩ :=
    met_keeps .processor seen { s with arb.grant := none }
  rw [exec_write hq hg, writeWork_good (s := { s with arb.grant := none }) (isTracked_untracked hc) hl hb, consequences_nil]
  refine congrArg Host.Outcome.next ?_
  rw [outcomesAt_grant, carryOut_untracked (s := { s with arb.grant := none }) hc _ _ hcsr, changesOf_merged hb, writeWords_frame]
  simp only [answerHead, respond, hp, ho, hq, List.tail_cons, read, seen]

/-- Settles O9: the general clause, from which the single merged word follows; full words are not read. -/
theorem untrackedWriteStoresItsData : Obligations.UntrackedWriteStoresItsData := by
  unfold Obligations.UntrackedWriteStoresItsData
  refine ⟨?_, ?_, ?_⟩
  · intro s a ws rest hq hg hen hc
    have unread : oldReads false (takingPart (a.toNat / 8) ws) = [] := by
      rw [oldReads_merged, List.map_eq_nil_iff, List.filter_eq_nil_iff]
      rintro ⟨j, w⟩ hx
      obtain ⟨k, hk, hne, -⟩ := mem_takingPart.mp hx
      simpa using (hen w (List.mem_of_getElem? hk)).resolve_left hne
    have full : ∀ x ∈ takingPart (a.toNat / 8) ws, x.2.enables = 0xFF := by
      rintro ⟨j, w⟩ hx
      obtain ⟨k, hk, hne, -⟩ := mem_takingPart.mp hx
      exact (hen w (List.mem_of_getElem? hk)).resolve_left hne
    rw [exec_write_untracked hq hg (by rw [unread]; rfl) hc (by rw [unread]; rfl), unread]
    have stored : (takingPart (a.toNat / 8) ws).map (fun x => (x.1,
        if x.2.enables = 0xFF then x.2.data else mergeLanes x.2.enables x.2.data (valueAt s x.1))) =
        (takingPart (a.toNat / 8) ws).map (fun x => (x.1, x.2.data)) :=
      List.map_congr_left fun x hx => by rw [if_pos (full x hx)]
    refine congrArg Host.Outcome.next (State.ext_parts rfl ?_ rfl rfl rfl rfl rfl rfl rfl rfl rfl rfl rfl rfl rfl rfl rfl rfl)
    rw [stored]
    exact writeWords_mem_congr _ rfl rfl rfl
  · intro s a w old rest hq hg h0 hF hc hd
    have part : takingPart (a.toNat / 8) [w] = [(a.toNat / 8, w)] := by rw [takingPart, if_neg h0]; rfl
    have reads : oldReads false [(a.toNat / 8, w)] = [a.toNat / 8] := by
      rw [oldReads_merged]
      simp only [List.filter_cons, List.filter_nil, decide_eq_true_iff.mpr hF, if_true, List.map_cons, List.map_nil]
    have seen : outcomesAt s [a.toNat / 8] = [(a.toNat / 8, .clean old)] := by simp [outcomesAt, hd]
    have value : valueAt s (a.toNat / 8) = old := by simp [valueAt, hd, ReadOutcome.value]
    rw [exec_write_untracked hq hg (readsAsStored_line false (by simp; omega)) hc (by rw [part, reads, seen]; rfl)]
    simp only [part, reads, seen, met, List.map_cons, List.map_nil, if_neg hF, value, writeWords]
    refine congrArg Host.Outcome.next (State.ext_parts rfl ?_ rfl rfl rfl rfl rfl rfl rfl rfl rfl rfl rfl rfl rfl rfl rfl rfl)
    exact writeWord_mem_congr _ _ rfl rfl rfl
  · intro s a ws rest word parts seen read answered hq hg hl hc
    have reads : outcomesAt s (oldReads false parts) = seen := by rw [oldReads_merged]
    refine ⟨fun hb => ?_, fun b bs hbad hj => ?_⟩
    · have h := exec_write_untracked hq hg (readsAsStored_line false hl) hc (by rw [reads]; exact hb)
      rw [reads] at h
      exact h
    · have line : ∀ x ∈ oldReads false parts, x / 256 = word / 256 := fun x hx => by
        obtain ⟨y, hy, rfl⟩ := List.mem_map.mp ((oldReads_sublist false parts).subset hx)
        exact takingPart_inLine hl y hy
      rw [exec_write hq hg, writeWork_bad (s := { s with arb.grant := none }) (isTracked_untracked hc)
        (readsAsStored_line false hl) (by rw [← hbad, ← reads]; rfl), outcomesAt_grant, uncorrectableHead_met hq,
        consequences_refused_none line (by rw [reads]; exact hbad) hj hc, reads]
      rfl

end Sys2Proof.Machine
end

section
/-! The vital write (R17, R18): the entries that a grant appends to the journal, and what it does with the signature, the
maps and the words. -/

namespace Sys2Proof.Machine
-- One proof after the other: side by side they pass the memory that the check allows.
set_option Elab.async false

/-! ### Appends -/

/-- The ring slot of the `i`-th append from now. -/
def ringPlace (s : State) (i : Nat) : Nat := if i = 0 then s.jnl.tail else (s.jnl.tail + i) % journalCapacity s

/-- How many of `n` appends find room. -/
def fitting (s : State) (n : Nat) : Nat := if s.jnl.openOver then 0 else min n (journalCapacity s - s.jnl.entries)

/-- The two words of each of some entries, in the ring from the tail on. -/
def ringWords (tag : BitVec 16) (xs : List (Nat × Word)) (s : State) : List (Nat × Word) :=
  xs.zipIdx.flatMap (fun x => [(journalSlot s (ringPlace s x.2), journalWord x.1.1 tag),
    (journalSlot s (ringPlace s x.2) + 1, x.1.2)])

/-- `n` appends report pressure. -/
def pressed (s : State) (n : Nat) : Bool :=
  decide (1 ≤ fitting s n ∧ s.jnl.pressure = false ∧ pressureLevel s ≤ s.jnl.entries + fitting s n)

/-- `n` appends overflow the ring. -/
def overflows (s : State) (n : Nat) : Bool := decide (s.jnl.openOver = false ∧ fitting s n < n)

/-- The journal behind `n` appends. -/
def appendedJournal (s : State) (n : Nat) : JournalUnit := { s.jnl with
  tail := ringPlace s (fitting s n), openCount := s.jnl.openCount + fitting s n
  pressure := s.jnl.pressure || pressed s n, openOver := s.jnl.openOver || overflows s n }

/-- The record of pressure, where `n` appends report it. -/
def pressedEvents (s : State) (n : Nat) : EventUnit :=
  if pressed s n then evAfter .journalPressure 0 (.region (journalIndex s)) (wordOf (max (pressureLevel s) (s.jnl.entries + 1))) s
  else s.ev

/-- The event unit behind `n` appends. -/
def appendedEvents (opn : Cycle) (s : State) (n : Nat) : EventUnit :=
  if overflows s n then evAfter .journalOverflow 1 (.region (journalIndex s)) (wordOf opn.toNat) { s with ev := pressedEvents s n }
  else pressedEvents s n

/-- With the open overflowed flag set appends do nothing (R83). -/
theorem appendEntries_over (tag : BitVec 16) (opn : Cycle) (xs : List (Nat × Word)) {s : State} (h : s.jnl.openOver = true) :
    appendEntries tag opn xs s = s := by
  induction xs with
  | nil => rfl
  | cons x xs ih =>
    obtain ⟨a, old⟩ := x
    rw [appendEntries, appendEntry, if_pos h, ih]

/-- Logical writes one after the other. -/
theorem writeWords_append (xs ys : List (Nat × Word)) (s : State) : writeWords (xs ++ ys) s = writeWords ys (writeWords xs s) := by
  induction xs generalizing s with
  | nil => rfl
  | cons x xs ih =>
    obtain ⟨a, v⟩ := x
    exact ih _

/-- An append with room in the ring (R83, R84). -/
def appendedOne (tag : BitVec 16) (a : Nat) (old : Word) (s : State) : State :=
  let due := decide (pressureLevel s ≤ s.jnl.entries + 1 ∧ s.jnl.pressure = false)
  { s with
    mem := (writeWords [(journalSlot s s.jnl.tail, journalWord a tag), (journalSlot s s.jnl.tail + 1, old)] s).mem
    jnl := { s.jnl with
      tail := (s.jnl.tail + 1) % journalCapacity s, openCount := s.jnl.openCount + 1, pressure := s.jnl.pressure || due }
    ev := if due then evAfter .journalPressure 0 (.region (journalIndex s)) (wordOf (s.jnl.entries + 1)) s else s.ev }

theorem appendEntry_room {tag : BitVec 16} {opn : Cycle} {a : Nat} {old : Word} {s : State} (ho : s.jnl.openOver = false)
    (hr : s.jnl.entries < journalCapacity s) : appendEntry tag opn a old s = appendedOne tag a old s := by
  rw [appendEntry, if_neg (by simp [ho]), if_neg (by omega)]
  have mem := writeWords_frame [(journalSlot s s.jnl.tail, journalWord a tag), (journalSlot s s.jnl.tail + 1, old)] s
  simp only [writeWords] at mem
  simp only [appendedOne, writeWords]
  by_cases hp : pressureLevel s ≤ s.jnl.entries + 1 ∧ s.jnl.pressure = false
  · rw [if_pos hp, hand_as_evAfter, mem]
    simp only [decide_eq_true hp, Bool.or_true, if_true]
    refine State.ext_parts rfl rfl rfl rfl rfl rfl rfl rfl rfl rfl rfl rfl rfl rfl rfl rfl ?_ rfl
    exact evAfter_of _ _ _ _ _ _ rfl rfl rfl rfl
  · rw [if_neg hp, mem]
    simp only [decide_eq_false hp, Bool.or_false, Bool.false_eq_true, if_false]

theorem appendEntry_full {tag : BitVec 16} {opn : Cycle} {a : Nat} {old : Word} {s : State} (ho : s.jnl.openOver = false)
    (hr : journalCapacity s ≤ s.jnl.entries) : appendEntry tag opn a old s = { s with
      jnl.openOver := true, ev := evAfter .journalOverflow 1 (.region (journalIndex s)) (wordOf opn.toNat) s } := by
  rw [appendEntry, if_neg (by simp [ho]), if_pos hr, hand_as_evAfter]
  refine State.ext_parts rfl rfl rfl rfl rfl rfl rfl rfl rfl rfl rfl rfl rfl rfl rfl rfl ?_ rfl
  exact evAfter_of _ _ _ _ _ _ rfl rfl rfl rfl

section Step
variable {tag : BitVec 16} {a n : Nat} {old : Word} {s : State}

/-- One append with room leaves room for one less. -/
theorem fitting_succ (ho : s.jnl.openOver = false) (hr : s.jnl.entries < journalCapacity s) :
    fitting s (n + 1) = fitting (appendedOne tag a old s) n + 1 := by
  have cap : journalCapacity (appendedOne tag a old s) = journalCapacity s := rfl
  have ents : (appendedOne tag a old s).jnl.entries = s.jnl.entries + 1 := by
    simp only [JournalUnit.entries, appendedOne]; omega
  have still : (appendedOne tag a old s).jnl.openOver = false := ho
  simp only [fitting, ho, still, cap, ents, Bool.false_eq_true, if_false]
  omega

/-- The slots behind the first append. -/
theorem ringPlace_succ (i : Nat) : ringPlace s (i + 1) = ringPlace (appendedOne tag a old s) i := by
  have cap : journalCapacity (appendedOne tag a old s) = journalCapacity s := rfl
  have tail : (appendedOne tag a old s).jnl.tail = (s.jnl.tail + 1) % journalCapacity s := rfl
  simp only [ringPlace, cap, tail]
  rw [if_neg (Nat.succ_ne_zero i)]
  split
  · rename_i h; rw [h]
  · rw [Nat.mod_add_mod]; congr 1; omega

/-- The words of the entries behind the first. -/
theorem ringWords_cons (ys : List (Nat × Word)) : ringWords tag ((a, old) :: ys) s =
    [(journalSlot s s.jnl.tail, journalWord a tag), (journalSlot s s.jnl.tail + 1, old)] ++
      ringWords tag ys (appendedOne tag a old s) := by
  rw [ringWords, List.zipIdx_cons, List.flatMap_cons, List.zipIdx_succ, List.flatMap_map]
  refine congrArg _ (List.flatMap_congr fun x _ => ?_)
  rw [ringPlace_succ (tag := tag) (a := a) (old := old)]
  rfl

/-- Pressure is reported by the first of the appends or by those behind it. -/
theorem pressed_succ (ho : s.jnl.openOver = false) (hr : s.jnl.entries < journalCapacity s) : pressed s (n + 1) =
    (decide (pressureLevel s ≤ s.jnl.entries + 1 ∧ s.jnl.pressure = false) || pressed (appendedOne tag a old s) n) := by
  have level : pressureLevel (appendedOne tag a old s) = pressureLevel s := rfl
  have ents : (appendedOne tag a old s).jnl.entries = s.jnl.entries + 1 := by
    simp only [JournalUnit.entries, appendedOne]; omega
  have flag : (appendedOne tag a old s).jnl.pressure =
      (s.jnl.pressure || decide (pressureLevel s ≤ s.jnl.entries + 1 ∧ s.jnl.pressure = false)) := rfl
  rw [pressed, pressed, fitting_succ (tag := tag) (a := a) (old := old) ho hr, level, ents, flag, Bool.eq_iff_iff]
  generalize fitting (appendedOne tag a old s) n = k
  cases s.jnl.pressure <;> simp
  omega

theorem overflows_succ (ho : s.jnl.openOver = false) (hr : s.jnl.entries < journalCapacity s) :
    overflows s (n + 1) = overflows (appendedOne tag a old s) n := by
  have still : (appendedOne tag a old s).jnl.openOver = s.jnl.openOver := rfl
  simp only [overflows, still, fitting_succ (tag := tag) (a := a) (old := old) ho hr, Nat.add_lt_add_iff_right]

theorem appendedJournal_succ (ho : s.jnl.openOver = false) (hr : s.jnl.entries < journalCapacity s) :
    appendedJournal (appendedOne tag a old s) n = appendedJournal s (n + 1) := by
  simp only [appendedJournal, fitting_succ (tag := tag) (a := a) (old := old) ho hr,
    overflows_succ (tag := tag) (a := a) (old := old) ho hr, pressed_succ (tag := tag) (a := a) (old := old) ho hr,
    ringPlace_succ (tag := tag) (a := a) (old := old)]
  simp only [appendedOne, Bool.or_assoc, Nat.add_assoc, Nat.add_comm 1]

/-- The record of pressure is that of the append that reaches the level. -/
theorem pressedEvents_succ (ho : s.jnl.openOver = false) (hr : s.jnl.entries < journalCapacity s) :
    pressedEvents (appendedOne tag a old s) n = pressedEvents s (n + 1) := by
  have ents : (appendedOne tag a old s).jnl.entries = s.jnl.entries + 1 := by
    simp only [JournalUnit.entries, appendedOne]; omega
  have level : pressureLevel (appendedOne tag a old s) = pressureLevel s := rfl
  have index : journalIndex (appendedOne tag a old s) = journalIndex s := rfl
  rw [pressedEvents, pressedEvents, pressed_succ (tag := tag) (a := a) (old := old) ho hr, ents, level, index]
  by_cases due : pressureLevel s ≤ s.jnl.entries + 1 ∧ s.jnl.pressure = false
  · have quiet : pressed (appendedOne tag a old s) n = false := by
      simp [pressed, appendedOne, due]
    rw [quiet, Nat.max_eq_right due.1]
    simp [appendedOne, due]
  · simp only [decide_eq_false due, Bool.false_or]
    have same : (appendedOne tag a old s).ev = s.ev := by simp [appendedOne, due]
    by_cases later : pressed (appendedOne tag a old s) n = true
    · have clear : s.jnl.pressure = false := by
        have := (of_decide_eq_true later).2.1
        simp only [appendedOne, Bool.or_eq_false_iff] at this
        exact this.1
      have above : s.jnl.entries + 1 < pressureLevel s := by
        by_contra h
        exact due ⟨by omega, clear⟩
      rw [if_pos later, if_pos later, Nat.max_eq_left (by omega), Nat.max_eq_left (by omega)]
      exact evAfter_of _ _ _ _ _ _ rfl rfl rfl same
    · rw [if_neg later, if_neg later, same]

theorem appendedEvents_succ {opn : Cycle} (ho : s.jnl.openOver = false) (hr : s.jnl.entries < journalCapacity s) :
    appendedEvents opn (appendedOne tag a old s) n = appendedEvents opn s (n + 1) := by
  simp only [appendedEvents, overflows_succ (tag := tag) (a := a) (old := old) ho hr,
    pressedEvents_succ (tag := tag) (a := a) (old := old) ho hr]
  split
  · exact evAfter_of _ _ _ _ _ _ rfl rfl rfl rfl
  · rfl

end Step

/-- Without room none of the appends fits. -/
theorem fitting_zero {s : State} {n : Nat} (h : s.jnl.openOver = true ∨ journalCapacity s ≤ s.jnl.entries ∨ n = 0) :
    fitting s n = 0 := by
  unfold fitting
  split
  · rfl
  · rename_i ho
    rcases h with h | h | h
    · exact absurd h ho
    · omega
    · omega

/-- The appends of a grant together: the entries that fit go in, in order, from the tail on. -/
theorem appendEntries_eq (tag : BitVec 16) (opn : Cycle) (xs : List (Nat × Word)) (s : State) :
    appendEntries tag opn xs s = { s with
      mem := (writeWords (ringWords tag (xs.take (fitting s xs.length)) s) s).mem
      jnl := appendedJournal s xs.length
      ev := appendedEvents opn s xs.length } := by
  induction xs generalizing s with
  | nil =>
    have none : fitting s 0 = 0 := fitting_zero (.inr (.inr rfl))
    simp [appendEntries, none, ringWords, writeWords, appendedJournal, appendedEvents, overflows, pressedEvents, pressed, ringPlace]
  | cons x xs ih =>
    obtain ⟨a, old⟩ := x
    cases ho : s.jnl.openOver with
    | true =>
      have none : fitting s (xs.length + 1) = 0 := fitting_zero (.inl ho)
      have quiet : overflows s (xs.length + 1) = false := by simp [overflows, ho]
      rw [appendEntries_over tag opn _ ho]
      simp [none, quiet, ringWords, writeWords, appendedJournal, appendedEvents, pressedEvents, pressed, ringPlace]
    | false =>
      rcases Nat.lt_or_ge s.jnl.entries (journalCapacity s) with hr | hr
      · rw [appendEntries, appendEntry_room ho hr, ih, List.length_cons, appendedJournal_succ ho hr, appendedEvents_succ ho hr,
          fitting_succ (tag := tag) (a := a) (old := old) ho hr, List.take_succ_cons, ringWords_cons, writeWords_append]
        refine State.ext_parts rfl ?_ rfl rfl rfl rfl rfl rfl rfl rfl rfl rfl rfl rfl rfl rfl rfl rfl
        exact writeWords_mem_congr _ rfl (by rw [writeWords_frame]; rfl) (by rw [writeWords_frame]; rfl)
      · have none : fitting s (xs.length + 1) = 0 := fitting_zero (.inr (.inl hr))
        rw [appendEntries, appendEntry_full ho hr, appendEntries_over _ _ _ rfl]
        simp [none, ringWords, writeWords, appendedJournal, appendedEvents, overflows, pressedEvents, pressed, ringPlace, ho]

end Sys2Proof.Machine
end

section
/-! The vital write's grant (R17, R18), in SEALED and VOTING and in SEALING. -/

namespace Sys2Proof.Machine
-- One proof after the other: side by side they pass the memory that the check allows.
set_option Elab.async false

/-! ### The signature, the maps and the words -/

/-- Some changes folded into a sum, in order (R64, R71). -/
def foldedIn (k : Keys) (cs : List (Nat × Word × Word)) (sum : Nat) : Nat :=
  cs.foldl (fun sum c => foldChange k sum c.1 c.2.1 c.2.2) sum

theorem updateWordsS_eq (cs : List (Nat × Word × Word)) (s : State) : updateWordsS cs s =
    { s with sig.s := if s.sig.valid then foldedIn s.sig.committedKeys cs s.sig.s else s.sig.s } := by
  induction cs generalizing s with
  | nil => simp [updateWordsS, foldedIn]
  | cons c cs ih =>
    obtain ⟨a, old, new⟩ := c
    rw [updateWordsS, ih, updateS]
    cases hv : s.sig.valid <;> simp [foldedIn, hv]

theorem updateWordsAcc_eq (cs : List (Nat × Word × Word)) (s : State) :
    updateWordsAcc cs s = { s with sig.acc := foldedIn s.sig.committedKeys cs s.sig.acc } := by
  induction cs generalizing s with
  | nil => rfl
  | cons c cs ih =>
    obtain ⟨a, old, new⟩ := c
    rw [updateWordsAcc, ih]
    rfl

/-- The maps once a line has been marked: Do, and R while a source role is active. -/
def markedRepair (o : Nat) (s : State) : RepairUnit := { s.repair with
  dO := setInsert o s.repair.dO
  r := match s.repair.role with
    | .source _ => setInsert o s.repair.r
    | _ => s.repair.r }

theorem markLine_eq (o : Nat) (s : State) : markLine o s = { s with repair := markedRepair o s } := by
  cases hr : s.repair.role <;> simp only [markLine, markedRepair, hr]

/-- Steps 3 to 6 of R17 together. -/
theorem trackedWrite_eq (o : Nat) (cs : List (Nat × Word × Word)) (s : State) : trackedWrite o cs s = { s with
    mem := (writeWords (ringWords (BitVec.ofNat 16 (openCycle s).toNat)
      ((cs.map (fun c => (c.1, c.2.1))).take (fitting s cs.length)) s ++ cs.map (fun c => (c.1, c.2.2))) s).mem
    jnl := appendedJournal s cs.length
    ev := appendedEvents (openCycle s) s cs.length
    sig.s := if s.sig.valid then foldedIn s.sig.committedKeys cs s.sig.s else s.sig.s
    repair := markedRepair o s } := by
  simp only [trackedWrite, appendEntries_eq, updateWordsS_eq, markLine_eq, List.length_map]
  rw [writeWords_frame]
  refine State.ext_parts rfl ?_ rfl rfl rfl rfl rfl rfl rfl rfl rfl rfl rfl rfl rfl rfl rfl rfl
  rw [writeWords_append]
  exact writeWords_mem_congr _ rfl (by rw [writeWords_frame]) (by rw [writeWords_frame])

/-- Steps 3 and 4 of R18 together. -/
theorem sealingWrite_eq (o : Nat) (cs : List (Nat × Word × Word)) (s : State) : sealingWrite o cs s = { s with
    mem := (writeWords (cs.map (fun c => (c.1, c.2.2))) s).mem
    sig.acc := if o < s.sig.cursor then foldedIn s.sig.committedKeys cs s.sig.acc else s.sig.acc } := by
  simp only [sealingWrite, updateWordsAcc_eq]
  split
  · rw [writeWords_frame]
    refine State.ext_parts rfl ?_ rfl rfl rfl rfl rfl rfl rfl rfl rfl rfl rfl rfl rfl rfl rfl rfl
    exact writeWords_mem_congr _ rfl rfl rfl
  · exact writeWords_frame _ _

/-- Without an UNCORRECTABLE word the signature unit stays. -/
theorem met_sig {by_ : ReadBy} {rs : List (Nat × ReadOutcome)} {s : State} (h : badWords rs = []) : (met by_ rs s).sig = s.sig := by
  induction rs generalizing s with
  | nil => rfl
  | cons x rs ih =>
    obtain ⟨a, o⟩ := x
    cases o with
    | clean v => exact ih h
    | corrected v => rw [met, ih h]; simp
    | uncorrectable raw => simp [badWords] at h

/-- The parts that the reads of the processor's grant leave as they were. -/
theorem met_released (rs : List (Nat × ReadOutcome)) (s : State) :
    (met .processor rs { s with arb.grant := none }).csr = s.csr ∧
    (met .processor rs { s with arb.grant := none }).port = s.port ∧
    (met .processor rs { s with arb.grant := none }).regions = s.regions ∧
    (met .processor rs { s with arb.grant := none }).jnl = s.jnl ∧
    (met .processor rs { s with arb.grant := none }).repair = s.repair ∧
    (met .processor rs { s with arb.grant := none }).mgmt = s.mgmt ∧
    (met .processor rs { s with arb.grant := none }).out = s.out := by
  obtain ⟨hcsr, hport, -, hreg, -, -, -, -, -, -, -, -, hjnl, -, -, -, hrep, hmg, hout, -⟩ :=
    met_keeps .processor rs { s with arb.grant := none }
  exact ⟨hcsr, hport, hreg, hjnl, hrep, hmg, hout⟩

/-! ### The journal's figures behind the reads of a grant -/

section Same
variable {s t : State} (hj : t.jnl = s.jnl) (hr : t.regions = s.regions) (hm : t.mgmt = s.mgmt)
include hr

theorem journalCapacity_congr : journalCapacity t = journalCapacity s := by simp only [journalCapacity, journalEntry, hr]

theorem journalSlot_congr (i : Nat) : journalSlot t i = journalSlot s i := by simp only [journalSlot, journalEntry, hr]

theorem journalIndex_congr : journalIndex t = journalIndex s := by simp only [journalIndex, journalEntry, hr]

include hm in
theorem pressureLevel_congr : pressureLevel t = pressureLevel s := by
  simp only [pressureLevel, journalCapacity_congr hr]
  rw [hm]

include hj

theorem ringPlace_congr (i : Nat) : ringPlace t i = ringPlace s i := by simp only [ringPlace, hj, journalCapacity_congr hr]

theorem fitting_congr (n : Nat) : fitting t n = fitting s n := by simp only [fitting, hj, journalCapacity_congr hr]

theorem ringWords_congr (tag : BitVec 16) (xs : List (Nat × Word)) : ringWords tag xs t = ringWords tag xs s := by
  simp only [ringWords, ringPlace_congr hj hr, journalSlot_congr hr]

theorem overflows_congr (n : Nat) : overflows t n = overflows s n := by simp only [overflows, hj, fitting_congr hj hr]

include hm

theorem pressed_congr (n : Nat) : pressed t n = pressed s n := by
  simp only [pressed, hj, fitting_congr hj hr, pressureLevel_congr hr hm]

theorem appendedJournal_congr (n : Nat) : appendedJournal t n = appendedJournal s n := by
  simp only [appendedJournal, ringPlace_congr hj hr, fitting_congr hj hr, overflows_congr hj hr, pressed_congr hj hr hm, hj]

/-- What the event unit makes of some appends depends on no more. -/
theorem appendedEvents_congr (hc : t.csr = s.csr) (he : t.ev = s.ev) (opn : Cycle) (n : Nat) :
    appendedEvents opn t n = appendedEvents opn s n := by
  have before : pressedEvents t n = pressedEvents s n := by
    simp only [pressedEvents, pressed_congr hj hr hm, journalIndex_congr hr, pressureLevel_congr hr hm, hj, he]
    split
    · exact evAfter_of _ _ _ _ _ _ (by rw [hc]) (by rw [hc]) hr he
    · rfl
  simp only [appendedEvents, overflows_congr hj hr, before, journalIndex_congr hr]
  split
  · exact evAfter_of _ _ _ _ _ _ (by rw [hc]) (by rw [hc]) hr rfl
  · rfl

end Same

/-! ### The grant -/

section Vital
variable {a : BitVec 29} {ws : List WriteWord} {rest : List Transaction} {s : State} {o : Nat}

/-- A tracked write reads every word that takes part. -/
theorem isTracked_vital (ho : ordinalOf s.regions.committed (a.toNat / 8 / 256) = some o)
    (hs : s.csr.state = .sealing ∨ s.csr.state = .sealed ∨ s.csr.state = .voting) : isTracked s (a.toNat / 8 / 256) = true := by
  rcases hs with hs | hs | hs <;> simp [isTracked, ho, hs, ChannelState.marking]

/-- What a tracked write with every old value delivered comes to. -/
theorem exec_write_tracked (hq : s.port.queue = .write a ws :: rest) (hg : granted .processor s)
    (hl : a.toNat / 8 % 256 + ws.length ≤ 256) (ho : ordinalOf s.regions.committed (a.toNat / 8 / 256) = some o)
    (hs : s.csr.state = .sealing ∨ s.csr.state = .sealed ∨ s.csr.state = .voting)
    (hb : badWords (outcomesAt s ((takingPart (a.toNat / 8) ws).map Prod.fst)) = []) :
    exec .processorWrite s = .next (answerHead .completion (carryOut (some o) (changesFrom s (takingPart (a.toNat / 8) ws))
      (met .processor (outcomesAt s ((takingPart (a.toNat / 8) ws).map Prod.fst)) { s with arb.grant := none }))) := by
  have reads := oldReads_tracked (takingPart (a.toNat / 8) ws)
  rw [exec_write hq hg, writeWork_good (s := { s with arb.grant := none }) (isTracked_vital ho hs)
    (readsAsStored_line true hl) (by rw [reads]; exact hb), consequences_nil, outcomesAt_grant, reads, changesOf_tracked hb]
  rw [show ({ s with arb.grant := none } : State).regions = s.regions from rfl, ho]

/-- A write with no enable set completes and changes nothing. -/
theorem exec_write_unenabled (hq : s.port.queue = .write a ws :: rest) (hg : granted .processor s)
    (hp : takingPart (a.toNat / 8) ws = []) : exec .processorWrite s = .next (answerHead .completion { s with arb.grant := none }) := by
  have work : writeWork (.write a ws) { s with arb.grant := none } = (answerHead .completion { s with arb.grant := none }, []) := by
    simp only [writeWork_eq, hp, oldReads, List.filter_nil, List.map_nil]
    refine (if_pos rfl).trans ?_
    simp only [changesOf, List.map_nil, carryOut, readWords]
    split <;> rfl
  rw [exec_write hq hg, work, consequences_nil]

/-- In SEALING the change is folded into the accumulator below the cursor. -/
theorem exec_write_sealing (hq : s.port.queue = .write a ws :: rest) (hg : granted .processor s)
    (hl : a.toNat / 8 % 256 + ws.length ≤ 256) (ho : ordinalOf s.regions.committed (a.toNat / 8 / 256) = some o)
    (hp : takingPart (a.toNat / 8) ws ≠ []) (hb : badWords (outcomesAt s ((takingPart (a.toNat / 8) ws).map Prod.fst)) = [])
    (hs : s.csr.state = .sealing) :
    let changes := changesFrom s (takingPart (a.toNat / 8) ws)
    let read := met .processor (outcomesAt s ((takingPart (a.toNat / 8) ws).map Prod.fst)) { s with arb.grant := none }
    exec .processorWrite s = .next { read with
      mem := (writeWords (changes.map (fun c => (c.1, c.2.2))) read).mem
      sig := { s.sig with acc := if o < s.sig.cursor then foldedIn s.sig.committedKeys changes s.sig.acc else s.sig.acc }
      port := { s.port with queue := rest, held := none }
      out.responses := s.out.responses ++ [.completion] } := by
  intro changes read
  obtain ⟨hcsr, hport, -, -, -, -, hout⟩ :=
    met_released (outcomesAt s ((takingPart (a.toNat / 8) ws).map Prod.fst)) s
  have hsig : read.sig = s.sig := met_sig hb
  have state : read.csr.state = .sealing := by rw [hcsr]; exact hs
  rw [exec_write_tracked hq hg hl ho (.inl hs) hb]
  refine congrArg Host.Outcome.next ?_
  change answerHead .completion (carryOut (some o) changes read) = _
  rw [carryOut, if_neg (by simpa [changes, changesFrom] using hp),
    if_neg (by rw [state]; simp [ChannelState.marking]), if_pos state, sealingWrite_eq]
  apply State.ext_parts
  case h_sig => simp only [answerHead, respond, hsig]
  case h_port => simp only [answerHead, respond, hport, hq, List.tail_cons, read]
  case h_out => simp only [answerHead, respond, hout, read]
  all_goals rfl

/-- In SEALED and VOTING the change is journaled, folded into S and marked. -/
theorem exec_write_marking (hq : s.port.queue = .write a ws :: rest) (hg : granted .processor s)
    (hl : a.toNat / 8 % 256 + ws.length ≤ 256) (ho : ordinalOf s.regions.committed (a.toNat / 8 / 256) = some o)
    (hp : takingPart (a.toNat / 8) ws ≠ []) (hb : badWords (outcomesAt s ((takingPart (a.toNat / 8) ws).map Prod.fst)) = [])
    (hs : s.csr.state = .sealed ∨ s.csr.state = .voting) :
    let parts := takingPart (a.toNat / 8) ws
    let changes := changesFrom s parts
    let read := met .processor (outcomesAt s (parts.map Prod.fst)) { s with arb.grant := none }
    exec .processorWrite s = .next { read with
      mem := (writeWords (ringWords (BitVec.ofNat 16 (s.csr.counter + 1).toNat)
        ((changes.map (fun c => (c.1, c.2.1))).take (fitting s parts.length)) s ++ changes.map (fun c => (c.1, c.2.2))) read).mem
      jnl := appendedJournal s parts.length
      ev := appendedEvents (s.csr.counter + 1) read parts.length
      sig := { s.sig with s := if s.sig.valid then foldedIn s.sig.committedKeys changes s.sig.s else s.sig.s }
      repair := markedRepair o s
      port := { s.port with queue := rest, held := none }
      out.responses := s.out.responses ++ [.completion] } := by
  intro parts changes read
  obtain ⟨hcsr, hport, hreg, hjnl, hrep, hmg, hout⟩ := met_released (outcomesAt s (parts.map Prod.fst)) s
  have hsig : read.sig = s.sig := met_sig hb
  have marking : read.csr.state.marking = true := by
    rw [hcsr]; rcases hs with hs | hs <;> simp [hs, ChannelState.marking]
  have opn : openCycle read = s.csr.counter + 1 := by rw [openCycle, hcsr]
  have count : changes.length = parts.length := by simp [changes, changesFrom]
  rw [exec_write_tracked hq hg hl ho (.inr hs) hb]
  refine congrArg Host.Outcome.next ?_
  change answerHead .completion (carryOut (some o) changes read) = _
  rw [carryOut, if_neg (by simpa [changes, changesFrom] using hp), if_pos marking, trackedWrite_eq, opn, count,
    fitting_congr hjnl hreg, ringWords_congr hjnl hreg, appendedJournal_congr hjnl hreg hmg]
  apply State.ext_parts
  case h_sig => simp only [answerHead, respond, hsig]
  case h_repair => simp only [answerHead, respond, markedRepair, read, hrep]
  case h_port => simp only [answerHead, respond, hport, hq, List.tail_cons, read]
  case h_out => simp only [answerHead, respond, hout, read]
  all_goals rfl

end Vital

end Sys2Proof.Machine
end

section
/-! O10: the vital write of one word and of any words of a line. -/

namespace Sys2Proof.Machine
-- One proof after the other: side by side they pass the memory that the check allows.
set_option Elab.async false

/-! ### One word -/

section Single
variable {s : State} {a : BitVec 29} {w : WriteWord} {old : Word} {o : Nat} {rest : List Transaction}

/-- The word's new value. -/
def newWord (w : WriteWord) (old : Word) : Word := if w.enables = 0xFF then w.data else mergeLanes w.enables w.data old

theorem takingPart_single (h : w.enables ≠ 0) (i : Nat) : takingPart i [w] = [(i, w)] := by
  rw [takingPart, if_neg h]
  rfl

theorem outcomesAt_single {i : Nat} (h : decodeStored (storedAt s i) i = .clean old) :
    outcomesAt s ([(i, w)].map Prod.fst) = [(i, .clean old)] := by
  simp [outcomesAt, h]

theorem changesFrom_single {i : Nat} (h : decodeStored (storedAt s i) i = .clean old) :
    changesFrom s [(i, w)] = [(i, old, newWord w old)] := by
  have value : valueAt s i = old := by simp [valueAt, h, ReadOutcome.value]
  simp only [changesFrom, List.map_cons, List.map_nil, value, newWord]

/-- A vital write of one CLEAN word in SEALED or VOTING. -/
theorem exec_write_marking_single (hq : s.port.queue = .write a [w] :: rest) (hg : granted .processor s)
    (h0 : w.enables ≠ 0) (ho : ordinalOf s.regions.committed (a.toNat / 8 / 256) = some o)
    (hs : s.csr.state = .sealed ∨ s.csr.state = .voting)
    (hd : decodeStored (storedAt s (a.toNat / 8)) (a.toNat / 8) = .clean old) :
    exec .processorWrite s = .next { s with
      mem := (writeWords (ringWords (BitVec.ofNat 16 (s.csr.counter + 1).toNat) ([(a.toNat / 8, old)].take (fitting s 1)) s ++
        [(a.toNat / 8, newWord w old)]) s).mem
      jnl := appendedJournal s 1
      ev := appendedEvents (s.csr.counter + 1) s 1
      sig.s := if s.sig.valid then foldChange s.sig.committedKeys s.sig.s (a.toNat / 8) old (newWord w old) else s.sig.s
      repair := markedRepair o s
      arb.grant := none
      port := { s.port with queue := rest, held := none }
      out.responses := s.out.responses ++ [.completion] } := by
  have part := takingPart_single h0 (a.toNat / 8)
  have seen : outcomesAt s ((takingPart (a.toNat / 8) [w]).map Prod.fst) = [(a.toNat / 8, .clean old)] := by
    rw [part]; exact outcomesAt_single hd
  rw [exec_write_marking hq hg (by simp; omega) ho (by rw [part]; simp) (by rw [seen]; rfl) hs]
  refine congrArg Host.Outcome.next ?_
  simp only [part, outcomesAt_single hd]
  simp only [changesFrom_single hd, met, List.map_cons, List.map_nil, List.length_singleton]
  apply State.ext_parts
  case h_mem => exact writeWords_mem_congr _ rfl rfl rfl
  case h_ev => exact appendedEvents_congr (s := s) (t := { s with arb.grant := none }) rfl rfl rfl rfl rfl (s.csr.counter + 1) 1
  all_goals rfl

/-- A vital write of one CLEAN word in SEALING. -/
theorem exec_write_sealing_single (hq : s.port.queue = .write a [w] :: rest) (hg : granted .processor s)
    (h0 : w.enables ≠ 0) (ho : ordinalOf s.regions.committed (a.toNat / 8 / 256) = some o) (hs : s.csr.state = .sealing)
    (hd : decodeStored (storedAt s (a.toNat / 8)) (a.toNat / 8) = .clean old) :
    exec .processorWrite s = .next { s with
      mem := (writeWord (a.toNat / 8) (newWord w old) s).mem
      sig.acc := if o < s.sig.cursor then foldChange s.sig.committedKeys s.sig.acc (a.toNat / 8) old (newWord w old)
        else s.sig.acc
      arb.grant := none
      port := { s.port with queue := rest, held := none }
      out.responses := s.out.responses ++ [.completion] } := by
  have part := takingPart_single h0 (a.toNat / 8)
  have seen : outcomesAt s ((takingPart (a.toNat / 8) [w]).map Prod.fst) = [(a.toNat / 8, .clean old)] := by
    rw [part]; exact outcomesAt_single hd
  rw [exec_write_sealing hq hg (by simp; omega) ho (by rw [part]; simp) (by rw [seen]; rfl) hs]
  refine congrArg Host.Outcome.next ?_
  simp only [part, outcomesAt_single hd]
  simp only [changesFrom_single hd, met, List.map_cons, List.map_nil]
  apply State.ext_parts
  case h_mem => exact writeWord_mem_congr _ _ rfl rfl rfl
  all_goals rfl

end Single

/-! ### The journal's figures for one append -/

section One
variable {s : State}

theorem fitting_one (ho : s.jnl.openOver = false) (hr : s.jnl.entries < journalCapacity s) : fitting s 1 = 1 := by
  rw [fitting, if_neg (by simp [ho])]
  omega

/-- An append with room and without a record of pressure. -/
theorem appended_quiet (ho : s.jnl.openOver = false) (hr : s.jnl.entries < journalCapacity s)
    (hp : s.jnl.entries + 1 < pressureLevel s ∨ s.jnl.pressure = true) (opn : Cycle) :
    appendedJournal s 1 = { s.jnl with tail := (s.jnl.tail + 1) % journalCapacity s, openCount := s.jnl.openCount + 1 } ∧
    appendedEvents opn s 1 = s.ev := by
  have fits := fitting_one ho hr
  have quiet : pressed s 1 = false := by
    rw [pressed, fits]
    refine decide_eq_false fun h => ?_
    rcases hp with hp | hp
    · omega
    · rw [hp] at h; simp at h
  have kept : overflows s 1 = false := by simp [overflows, fits]
  simp [appendedJournal, appendedEvents, pressedEvents, fits, quiet, kept, ringPlace]

/-- The append that reaches the pressure level. -/
theorem appended_pressed (ho : s.jnl.openOver = false) (hr : s.jnl.entries < journalCapacity s)
    (hp : pressureLevel s ≤ s.jnl.entries + 1) (hq : s.jnl.pressure = false) (opn : Cycle) :
    appendedJournal s 1 = { s.jnl with
      tail := (s.jnl.tail + 1) % journalCapacity s, openCount := s.jnl.openCount + 1, pressure := true } ∧
    appendedEvents opn s 1 =
      evAfter .journalPressure 0 (.region (journalIndex s)) (wordOf (s.jnl.entries + 1)) s := by
  have fits := fitting_one ho hr
  have due : pressed s 1 = true := by
    rw [pressed, fits]
    exact decide_eq_true ⟨Nat.le_refl 1, hq, hp⟩
  have kept : overflows s 1 = false := by simp [overflows, fits]
  simp [appendedJournal, appendedEvents, pressedEvents, fits, due, kept, ringPlace, Nat.max_eq_right hp]

/-- The write that overflows the ring. -/
theorem appended_full (ho : s.jnl.openOver = false) (hr : journalCapacity s ≤ s.jnl.entries) (opn : Cycle) :
    appendedJournal s 1 = { s.jnl with openOver := true } ∧
    appendedEvents opn s 1 = evAfter .journalOverflow 1 (.region (journalIndex s)) (wordOf opn.toNat) s := by
  have none : fitting s 1 = 0 := fitting_zero (.inr (.inl hr))
  have quiet : pressed s 1 = false := by simp [pressed, none]
  have lost : overflows s 1 = true := by simp [overflows, none, ho]
  simp [appendedJournal, appendedEvents, pressedEvents, none, quiet, lost, ringPlace]

/-- A write behind an overflow. -/
theorem appended_lost (ho : s.jnl.openOver = true) (opn : Cycle) :
    appendedJournal s 1 = s.jnl ∧ appendedEvents opn s 1 = s.ev := by
  have none : fitting s 1 = 0 := fitting_zero (.inl ho)
  have quiet : pressed s 1 = false := by simp [pressed, none]
  have kept : overflows s 1 = false := by simp [overflows, ho]
  simp [appendedJournal, appendedEvents, pressedEvents, none, quiet, kept, ringPlace]

/-- The words of one entry. -/
theorem ringWords_single (tag : BitVec 16) (a : Nat) (old : Word) : ringWords tag [(a, old)] s =
    [(journalSlot s s.jnl.tail, journalWord a tag), (journalSlot s s.jnl.tail + 1, old)] := by
  simp [ringWords, ringPlace]

end One

/-- The words of the entries, from the changes. -/
theorem ringWords_changes (tag : BitVec 16) (cs : List (Nat × Word × Word)) (k : Nat) (s : State) :
    ringWords tag ((cs.map (fun c => (c.1, c.2.1))).take k) s = (cs.take k).zipIdx.flatMap (fun x =>
      [(journalSlot s (ringPlace s x.2), journalWord x.1.1 tag), (journalSlot s (ringPlace s x.2) + 1, x.1.2.1)]) := by
  rw [ringWords, ← List.map_take, List.zipIdx_map, List.flatMap_map]
  rfl

/-- Settles O10: one word in the cases of the ring, one word in SEALING, any words of a line. -/
theorem vitalWriteIsTracked : Obligations.VitalWriteIsTracked := by
  unfold Obligations.VitalWriteIsTracked
  refine ⟨?_, ?_, ?_, ?_⟩
  · intro s a w old o rest word new slot hq hg h0 ho hs hd hv hr hp
    obtain ⟨hj, he⟩ := appended_quiet hv hr hp (s.csr.counter + 1)
    rw [exec_write_marking_single hq hg h0 ho hs hd, hj, he, fitting_one hv hr, List.take_one, List.head?_cons,
      Option.toList_some, ringWords_single]
    rfl
  · intro s a w old o rest word new hq hg h0 ho hs hd
    exact exec_write_sealing_single hq hg h0 ho hs hd
  · intro s a w old o rest word new opn slot hq hg h0 ho hs hd after
    have runs := exec_write_marking_single hq hg h0 ho hs hd
    refine ⟨fun hv => ?_, fun hv hr => ?_, fun hv hr hp hq' => ?_⟩
    · obtain ⟨hj, he⟩ := appended_lost hv (s.csr.counter + 1)
      rw [runs, hj, he, fitting_zero (.inl hv)]
      rfl
    · obtain ⟨hj, he⟩ := appended_full hv hr (s.csr.counter + 1)
      rw [runs, hj, he, fitting_zero (.inr (.inl hr))]
      rfl
    · obtain ⟨hj, he⟩ := appended_pressed hv hr hp hq' (s.csr.counter + 1)
      rw [runs, hj, he, fitting_one hv hr, List.take_one, List.head?_cons, Option.toList_some, ringWords_single]
      rfl
  · intro s a ws o rest word parts seen read changes folded stored answered hq hg hl ho
    refine ⟨fun hp => ?_, fun hp hb hs => ?_, fun hp hb hs => ?_, fun b bs hbad => ?_⟩
    · rw [exec_write_unenabled hq hg hp]
      simp only [answerHead, respond, hq, List.tail_cons]
      rfl
    · rw [exec_write_sealing hq hg hl ho hp hb hs]
      have hsig : read.sig = s.sig := met_sig hb
      refine congrArg Host.Outcome.next ?_
      apply State.ext_parts
      case h_sig => show _ = ({ read.sig with acc := _ } : SignatureUnit); rw [hsig]; rfl
      all_goals rfl
    · intro cap opn place k entries pressed lost told
      have hsig : read.sig = s.sig := met_sig hb
      obtain ⟨-, -, hreg, hjnl, -, hmg, -⟩ := met_released seen s
      have told_eq : pressedEvents read parts.length = told := by
        rw [pressedEvents, pressed_congr hjnl hreg hmg, journalIndex_congr hreg, pressureLevel_congr hreg hmg, hjnl]
        rfl
      rw [exec_write_marking hq hg hl ho hp hb hs]
      refine congrArg Host.Outcome.next ?_
      apply State.ext_parts
      case h_mem => exact congrArg (fun ws => (writeWords (ws ++ stored) read).mem) (ringWords_changes _ changes k s)
      case h_ev =>
        show appendedEvents (s.csr.counter + 1) read parts.length = _
        rw [appendedEvents, told_eq, overflows_congr hjnl hreg, journalIndex_congr hreg]
        rfl
      case h_sig => show _ = ({ read.sig with s := _ } : SignatureUnit); rw [hsig]; rfl
      all_goals rfl
    · intro refused
      have reads : oldReads true parts = parts.map Prod.fst := oldReads_tracked parts
      have line : ∀ x ∈ parts.map Prod.fst, x / 256 = word / 256 := fun x hx => by
        obtain ⟨y, hy, rfl⟩ := List.mem_map.mp hx
        exact takingPart_inLine hl y hy
      have vital : classOf s (word / 256) = some .vital := by
        by_contra h
        rw [ordinalOf_none_iff.mpr h] at ho
        exact nomatch ho
      have runs (hs : s.csr.state = .sealing ∨ s.csr.state = .sealed ∨ s.csr.state = .voting) :
          exec .processorWrite s = .next (consequences .processor (b :: bs) (answeredAfter seen rest .busError
            { reason := some .uncorrectable, addr := byteAddr b, direction := .write } s)) := by
        rw [exec_write hq hg, writeWork_bad (s := { s with arb.grant := none }) (isTracked_vital ho hs)
          (readsAsStored_line true hl) (by rw [← hbad, reads]; rfl), outcomesAt_grant, uncorrectableHead_met hq, reads]
        rfl
      refine ⟨fun hs => ?_, fun hs hroll => ?_⟩
      · rw [runs (.inl hs), consequences_refused_sealing line hbad vital hs]
        rfl
      · exact ⟨_, runs (.inr hs), consequences_refused_withdrew line hbad vital (hs.imp_right .inl) hroll⟩

end Sys2Proof.Machine
end

section
/-! Words that decode outside CLEAN (R24, R25), and the grants of the scrub walk and of the proof test and the initialise. -/

namespace Sys2Proof.Machine
-- One proof after the other: side by side they pass the memory that the check allows.
set_option Elab.async false

/-! ### A word outside CLEAN -/

/-- The suspect table behind one more corrected error of a line it holds (R43). -/
def raisedSuspects (l n : Nat) (crossed : Bool) (x : Suspect) (t : List (Option Suspect)) : List (Option Suspect) :=
  t.map (Option.map (fun y =>
    let y1 := if y.recency < x.recency then { y with recency := y.recency + 1 } else y
    if y.line = l then { y1 with count := n, recency := 0, pending := y.pending || crossed } else y1))

theorem updSuspect_moveDown (l n : Nat) (crossed : Bool) (x : Suspect) (t : List (Option Suspect)) :
    updSuspect l (fun e => { e with count := n, recency := 0, pending := e.pending || crossed }) (moveDown x.recency t) =
      raisedSuspects l n crossed x t := by
  simp only [updSuspect, moveDown, raisedSuspects, List.map_map]
  refine List.map_congr_left fun o _ => ?_
  cases o with
  | none => rfl
  | some y =>
    simp only [Function.comp, Option.map_some]
    by_cases hr : y.recency < x.recency <;> simp only [hr, if_true, if_false]

/-- A corrected error on a line that the table holds. -/
theorem suspectError_held {l : Nat} {s : State} {x : Suspect} (h : findSuspect s.spare.suspects l = some x) :
    let n := min (max x.count 15) (x.count + 1)
    let crossed := decide (x.count < s.mgmt.params.retireThreshold ∧ s.mgmt.params.retireThreshold ≤ n) && !x.pending
    suspectError l s = { s with
      spare.suspects := raisedSuspects l n crossed x s.spare.suspects
      ev := if crossed then evAfter .lineSuspect 2 (.line l) (wordOf n) s else s.ev } := by
  intro n crossed
  have count : (if x.count < 15 then x.count + 1 else x.count) = n := by
    simp only [n]; split <;> omega
  unfold suspectError
  rw [h]
  simp only [count, updSuspect_moveDown]
  have cross : crosses s.mgmt.params.retireThreshold x.count n x.pending = crossed := rfl
  rw [cross]
  cases crossed
  · rfl
  · rw [if_pos rfl, if_pos rfl, hand_as_evAfter]
    refine State.ext_parts rfl rfl rfl rfl rfl rfl rfl rfl rfl rfl rfl rfl rfl rfl rfl rfl ?_ rfl
    exact evAfter_of _ _ _ _ _ _ rfl rfl rfl rfl

/-- An UNCORRECTABLE word is counted and reported, and makes S invalid where it is vital. -/
theorem reportUncorrectable_eq (by_ : ReadBy) (a : Nat) (raw : Word) (s : State) : reportUncorrectable by_ a raw s = { s with
    counters.uncorrectable := satSucc s.counters.uncorrectable
    sig.valid := s.sig.valid && decide (classOf s (a / 256) ≠ some .vital)
    ev := evAfter .uncorrectable by_.code (.word a) raw s } := by
  have told : evAfter .uncorrectable by_.code (.word a) raw
      { s with counters.uncorrectable := satSucc s.counters.uncorrectable } = evAfter .uncorrectable by_.code (.word a) raw s :=
    evAfter_of _ _ _ _ _ _ rfl rfl rfl rfl
  simp only [reportUncorrectable, hand_as_evAfter, told]
  by_cases hc : classOf s (a / 256) = some .vital
  · rw [if_pos hc]
    simp [invalidateS, hc]
  · rw [if_neg hc]
    simp [hc]

/-- Settles O34: the write-back, the count and the table's entry; the report. -/
theorem wordsReadOutsideCleanAreReported : Obligations.WordsReadOutsideCleanAreReported := by
  unfold Obligations.WordsReadOutsideCleanAreReported
  constructor
  · intro by_ a v s i e x hd hr hx n crossed r
    have read : r = (.corrected v, correct a v s) := readWord_corrected hd
    rw [read, correct_inRegion v hr]
    refine ⟨rfl, (suspectError_held (s := counted i a v s) hx).trans ?_⟩
    refine State.ext_parts rfl rfl rfl rfl rfl rfl rfl rfl rfl rfl rfl rfl rfl rfl rfl rfl ?_ rfl
    show (if crossed then evAfter .lineSuspect 2 (.line (a / 256)) (wordOf n) (counted i a v s) else s.ev) = _
    rw [evAfter_of .lineSuspect 2 (.line (a / 256)) (wordOf n) s (counted i a v s) rfl rfl rfl rfl]
  · intro by_ a raw s hd
    rw [readWord_uncorrectable hd, reportUncorrectable_eq]

end Sys2Proof.Machine
end

section
/-! The grants of the proof test and the initialise (R37, R40). -/

namespace Sys2Proof.Machine
-- One proof after the other: side by side they pass the memory that the check allows.
set_option Elab.async false

/-- The state with the grant taken off, from which a requester's body runs. -/
def ungranted (s : State) : State := { s with arb.grant := none }

/-- A requester whose operation is under way, with the next grant, runs its body. -/
theorem runGrant_runs {r : Requester} {body : State → State} {s : State} (h : runs r s) :
    runGrant r body s = body (ungranted s) := runGrant_granted h.1

/-- The pattern of a pass, as two halves. -/
theorem testPattern_eq (p : Pass) (a : Nat) : testPattern p a = match p with
    | .a => BitVec.ofNat 32 a ++ BitVec.ofNat 32 a
    | .b => ~~~ (BitVec.ofNat 32 a ++ BitVec.ofNat 32 a) := by
  have halves : wordOf (a % 4294967296 * 4294967297) = BitVec.ofNat 32 a ++ BitVec.ofNat 32 a := by
    apply BitVec.eq_of_toNat_eq
    have low : a % 4294967296 < 2 ^ 32 := Nat.mod_lt _ (by decide)
    rw [BitVec.toNat_append, BitVec.toNat_ofNat, wordOf, BitVec.toNat_ofNat, ← Nat.shiftLeft_add_eq_or_of_lt low,
      Nat.shiftLeft_eq]
    omega
  cases p <;> simp only [testPattern, halves]

/-- The record of a proof test behind a word, where the test goes on. -/
def proofMoved (p : ProofRecord) : ProofRecord :=
  if p.position + 1 < p.count * 256 then { p with position := p.position + 1 }
  else match p.phase, p.pass with
    | .write, _ => { p with phase := .read, position := 0 }
    | .read, .a => { p with pass := .b, phase := .write, position := 0 }
    | .read, .b => { p with loops := satSucc p.loops, pass := .a, phase := .write, position := 0 }

/-- The test goes on behind a word, but for the last read of pass B without the loop flag. -/
theorem proofNext_moved {s : State} (h : s.scrub.proof.position + 1 < s.scrub.proof.count * 256 ∨ s.scrub.proof.phase = .write ∨
    s.scrub.proof.pass = .a ∨ s.scrub.proof.loop = true) : proofNext s = { s with scrub.proof := proofMoved s.scrub.proof } := by
  unfold proofNext proofMoved
  by_cases hn : s.scrub.proof.position + 1 < s.scrub.proof.count * 256
  · simp only [hn, if_true]
  · simp only [hn, if_false, false_or] at h ⊢
    cases hp : s.scrub.proof.phase <;> cases ha : s.scrub.proof.pass <;> simp only
    case read.b =>
      have hl : s.scrub.proof.loop = true := by simpa [hp, ha] using h
      simp only [hl, if_true]

/-- An ended proof test hands its record. -/
theorem proofEnds_eq (st : ProofStatus) (v : Word) (s : State) : proofEnds st v s = { s with
    scrub.proof.status := st
    ev := evAfter .proofResult (st.code - 2) (.line s.scrub.proof.first) v s } := by
  rw [proofEnds, hand_as_evAfter]
  refine State.ext_parts rfl rfl rfl rfl rfl rfl rfl rfl rfl rfl rfl rfl rfl rfl rfl rfl ?_ rfl
  exact evAfter_of _ _ _ _ _ _ rfl rfl rfl rfl

/-- A fault ends the test FAILED with the address, the values and the outcome. -/
theorem proofFault_eq (a : Nat) (expected found : Word) (how : FaultOutcome) (s : State) : proofFault a expected found how s =
    { s with
      scrub.proof := { s.scrub.proof with
        status := .failed, faultAddr := a, expected := expected, found := found, outcome := how }
      ev := evAfter .proofResult 2 (.line s.scrub.proof.first) (wordOf a) s } := by
  rw [proofFault, proofEnds_eq]
  refine State.ext_parts rfl rfl rfl rfl rfl rfl rfl rfl rfl rfl rfl rfl rfl rfl rfl rfl ?_ rfl
  exact evAfter_of _ _ _ _ _ _ rfl rfl rfl rfl

/-! ### The body of a proof test, by phase and outcome -/

section Body
variable {s : State}

/-- The word address and the pattern of the test's next word. -/
def proofAddr (s : State) : Nat := s.scrub.proof.first * 256 + s.scrub.proof.position
def proofPattern (s : State) : Word := testPattern s.scrub.proof.pass (proofAddr s)

theorem proofBody_write (h : s.scrub.proof.phase = .write) : proofBody s = { s with
    mem := (writeWord (proofAddr s) (proofPattern s) s).mem, scrub.proof := proofMoved s.scrub.proof } := by
  simp only [proofBody, h]
  have frame := writeWord_frame (proofAddr s) (proofPattern s) s
  have same : (writeWord (proofAddr s) (proofPattern s) s).scrub = s.scrub := by rw [frame]
  refine (proofNext_moved (s := writeWord (proofAddr s) (proofPattern s) s) (by rw [same]; exact .inr (.inl h))).trans ?_
  rw [same, frame]

theorem proofBody_equal (h : s.scrub.proof.phase = .read)
    (hd : decodeStored (storedAt s (proofAddr s)) (proofAddr s) = .clean (proofPattern s)) : proofBody s = proofNext s := by
  simp only [proofBody, h]
  rw [show readWord .proofTest (s.scrub.proof.first * 256 + s.scrub.proof.position) s = _ from readWord_clean hd]
  exact if_pos rfl

theorem proofBody_other {found : Word} (h : s.scrub.proof.phase = .read)
    (hd : decodeStored (storedAt s (proofAddr s)) (proofAddr s) = .clean found) (hne : found ≠ proofPattern s) :
    proofBody s = proofFault (proofAddr s) (proofPattern s) found .clean s := by
  simp only [proofBody, h]
  rw [show readWord .proofTest (s.scrub.proof.first * 256 + s.scrub.proof.position) s = _ from readWord_clean hd]
  exact if_neg hne

theorem proofBody_corrected {found : Word} (h : s.scrub.proof.phase = .read)
    (hd : decodeStored (storedAt s (proofAddr s)) (proofAddr s) = .corrected found) : proofBody s =
      proofFault (proofAddr s) (proofPattern s) found .corrected (correct (proofAddr s) found s) := by
  simp only [proofBody, h]
  rw [show readWord .proofTest (s.scrub.proof.first * 256 + s.scrub.proof.position) s = _ from readWord_corrected hd]
  rfl

theorem proofBody_uncorrectable {raw : Word} (h : s.scrub.proof.phase = .read)
    (hd : decodeStored (storedAt s (proofAddr s)) (proofAddr s) = .uncorrectable raw) : proofBody s =
      consequences .proofTest [proofAddr s] (proofFault (proofAddr s) (proofPattern s) raw .uncorrectable
        (reportUncorrectable .proofTest (proofAddr s) raw s)) := by
  simp only [proofBody, h]
  rw [show readWord .proofTest (s.scrub.proof.first * 256 + s.scrub.proof.position) s = _ from readWord_uncorrectable hd]
  rfl

end Body

/-- In CONFIGURED and HALTED a word outside JOURNAL has no consequences beyond its report. -/
theorem consequences_resting {by_ : ReadBy} {a : Nat} {s : State} (hs : s.csr.state = .configured ∨ s.csr.state = .halted)
    (hj : classOf s (a / 256) ≠ some .journal) : consequences by_ [a] s = s := by
  by_cases hv : classOf s (a / 256) = some .vital
  · rw [consequences_vital (by simpa using hv)]
    rcases hs with hs | hs <;> rw [hs]
  · exact consequences_none (by simpa using hj) (.inl (by simpa using hv))

/-- The initialise's step, before its last word and at it. -/
theorem initBody_more {s : State} (h : s.scrub.init.written + 1 < s.scrub.init.count * 256) : initBody s = { s with
    mem := (writeWord (s.scrub.init.first * 256 + s.scrub.init.written) 0 s).mem
    scrub.init.written := s.scrub.init.written + 1 } := by
  unfold initBody
  rw [writeWord_frame]
  exact if_pos h

theorem initBody_last {s : State} (h : ¬ s.scrub.init.written + 1 < s.scrub.init.count * 256) : initBody s = { s with
    mem := (writeWord (s.scrub.init.first * 256 + s.scrub.init.written) 0 s).mem
    scrub.init := { s.scrub.init with status := .idle, written := s.scrub.init.written + 1 }
    ev := evAfter .initDone 1 (.line s.scrub.init.first) (wordOf (s.scrub.init.written + 1)) s } := by
  unfold initBody
  rw [writeWord_frame]
  refine (if_neg h).trans ?_
  rw [initEnds, hand_as_evAfter]
  refine State.ext_parts rfl rfl rfl rfl rfl rfl rfl rfl rfl rfl rfl rfl rfl rfl rfl rfl ?_ rfl
  exact evAfter_of _ _ _ _ _ _ rfl rfl rfl rfl

/-- Settles O38: by the phase and the outcome of the read, then the initialise. -/
theorem engineStepsWriteAndCheckTheirRange : Obligations.EngineStepsWriteAndCheckTheirRange := by
  unfold Obligations.EngineStepsWriteAndCheckTheirRange
  constructor
  · intro s hr p a half v
    have pattern : testPattern p.pass a = v := testPattern_eq _ _
    have runs : exec .proofStep s = .next (proofBody (ungranted s)) := congrArg Host.Outcome.next (runGrant_runs hr)
    have written : (writeWord a v (ungranted s)).mem = (writeWord a v s).mem := writeWord_mem_congr a v rfl rfl rfl
    have same : proofPattern (ungranted s) = v := pattern
    have onWrite (h : p.phase = .write) : proofBody (ungranted s) = { ungranted s with
        mem := (writeWord a v s).mem, scrub := { s.scrub with proof := proofMoved p } } := by
      rw [proofBody_write (s := ungranted s) h, same, ← written]
      rfl
    have onRead (h : p.phase = .read) (hd : decodeStored (storedAt s a) a = .clean v) :
        proofBody (ungranted s) = proofNext (ungranted s) :=
      proofBody_equal (s := ungranted s) h (by rw [same]; exact hd)
    have moved (hm : p.position + 1 < p.count * 256 ∨ p.phase = .write ∨ p.pass = .a ∨ p.loop = true) :
        proofNext (ungranted s) = { ungranted s with scrub := { s.scrub with proof := proofMoved p } } :=
      proofNext_moved (s := ungranted s) hm
    rw [runs]
    refine ⟨fun h hn => ?_, fun h hd hn => ?_, fun hm hd => ?_, fun found i e h hd hreg => ?_, fun raw h hd hs hj => ?_,
      fun found h hd hne => ?_, fun h hb hl hd hn => ?_⟩
    · rw [onWrite h, proofMoved, if_pos hn]
      rfl
    · rw [onRead h hd, moved (.inl hn), proofMoved, if_pos hn]
      rfl
    · by_cases h : p.phase = .write
      · rw [onWrite h, if_pos h]
        rfl
      · have hread : p.phase = .read := by
          cases hp : p.phase
          · exact absurd hp h
          · rfl
        rw [onRead hread (hd.resolve_left h), moved hm, if_neg h]
        rfl
    · have body := proofBody_corrected (s := ungranted s) h hd
      rw [proofFault_eq, correct_inRegion (s := ungranted s) (a := proofAddr (ungranted s)) found hreg, same] at body
      refine ⟨_, rfl, ?_⟩
      rw [body]
      simp only [suspectError_keeps]
      exact ⟨rfl, rfl, rfl, rfl, rfl, rfl, rfl, rfl⟩
    · intro read
      have body := proofBody_uncorrectable (s := ungranted s) h hd
      rw [proofFault_eq, reportUncorrectable_eq, same] at body
      rw [body, consequences_resting (by exact hs) (by exact hj)]
      refine congrArg Host.Outcome.next (State.ext_parts rfl rfl rfl rfl rfl rfl rfl rfl rfl rfl rfl rfl rfl rfl rfl rfl ?_ rfl)
      exact evAfter_of _ _ _ _ _ _ rfl rfl rfl (evAfter_of _ _ _ _ _ _ rfl rfl rfl rfl)
    · rw [proofBody_other (s := ungranted s) h hd (by rw [same]; exact hne), proofFault_eq, same]
      refine congrArg Host.Outcome.next (State.ext_parts rfl rfl rfl rfl rfl rfl rfl rfl rfl rfl rfl rfl rfl rfl rfl rfl ?_ rfl)
      exact evAfter_of _ _ _ _ _ _ rfl rfl rfl rfl
    · have last : proofNext (ungranted s) = proofEnds .passed (wordOf p.loops) (ungranted s) := by
        unfold proofNext
        rw [if_neg (by show ¬ p.position + 1 < p.count * 256; omega),
          show (ungranted s).scrub.proof.phase = .read from h, show (ungranted s).scrub.proof.pass = .b from hb]
        exact if_neg (by rw [show (ungranted s).scrub.proof.loop = false from hl]; exact Bool.false_ne_true)
      rw [onRead h hd, last, proofEnds_eq]
      refine congrArg Host.Outcome.next (State.ext_parts rfl rfl rfl rfl rfl rfl rfl rfl rfl rfl rfl rfl rfl rfl rfl rfl ?_ rfl)
      exact evAfter_of _ _ _ _ _ _ rfl rfl rfl rfl
  · intro s hr p a m
    have runs : exec .initStep s = .next (initBody (ungranted s)) := congrArg Host.Outcome.next (runGrant_runs hr)
    have written : (writeWord a 0 (ungranted s)).mem = m := writeWord_mem_congr a 0 rfl rfl rfl
    rw [runs]
    refine ⟨fun hn => ?_, fun hn => ?_⟩
    · rw [initBody_more (s := ungranted s) hn]
      exact congrArg Host.Outcome.next (State.ext_parts rfl written rfl rfl rfl rfl rfl rfl rfl rfl rfl rfl rfl rfl rfl rfl rfl rfl)
    · rw [initBody_last (s := ungranted s) (by show ¬ p.written + 1 < p.count * 256; omega)]
      refine congrArg Host.Outcome.next (State.ext_parts rfl written rfl rfl rfl rfl rfl rfl rfl rfl rfl rfl rfl rfl rfl rfl ?_ rfl)
      exact evAfter_of _ _ _ _ _ _ rfl rfl rfl rfl

end Sys2Proof.Machine
end

section
/-! The line sparing unit (R48 to R55): the choice of a spare, the spare test and the line copy. -/

namespace Sys2Proof.Machine
-- One proof after the other: side by side they pass the memory that the check allows.
set_option Elab.async false

/-! ### The choice of a spare -/

section Choice
variable {s : State} {l i : Nat}

/-- The lowest READY spare is taken for a copy. -/
theorem chooseSpare_ready (h : findRemap (fun e => decide (e = .ready)) s.spare.remap 0 = some i) :
    chooseSpare l s = beginCopy i l s := by
  simp only [chooseSpare, h]

/-- With none READY the lowest UNTESTED spare is tested. -/
theorem chooseSpare_untested (hr : findRemap (fun e => decide (e = .ready)) s.spare.remap 0 = none)
    (h : findRemap (fun e => decide (e = .untested)) s.spare.remap 0 = some i) : chooseSpare l s = beginTest i l s := by
  simp only [chooseSpare, hr, h]

/-- With neither the spares are exhausted. -/
theorem chooseSpare_none (hr : findRemap (fun e => decide (e = .ready)) s.spare.remap 0 = none)
    (h : findRemap (fun e => decide (e = .untested)) s.spare.remap 0 = none) : chooseSpare l s = exhaust l s := by
  simp only [chooseSpare, hr, h]

/-- The copy that begins, and the spare that served the line before. -/
theorem beginCopy_eq (i l : Nat) (s : State) : beginCopy i l s = { s with
    spare.remap := (match activeSpare s l with
      | some t => s.spare.remap.set t .bad
      | none => s.spare.remap).set i (.copying l)
    spare.op := { s.spare.op with kind := .copying, spare := i, target := l, source := readLine s l, cursor := 0 } } := by
  cases h : activeSpare s l <;> simp only [beginCopy, h] <;> rfl

/-- Exhaustion is reported once. -/
theorem exhaust_eq (l : Nat) (s : State) : exhaust l s = { s with
    spare := { s.spare with
      suspects := s.spare.suspects.map (Option.map (fun e => if e.line = l then { e with pending := false } else e))
      op := { s.spare.op with kind := .idle }, exhaustionReported := true }
    ev := if s.spare.exhaustionReported then s.ev
      else evAfter .sparesExhausted 0 (.line l) (wordOf (s.spare.remap.countP (fun e => decide (e = .bad)))) s } := by
  unfold exhaust
  cases h : s.spare.exhaustionReported
  · rw [if_neg Bool.false_ne_true, if_neg Bool.false_ne_true, hand_as_evAfter]
    refine State.ext_parts rfl rfl rfl rfl rfl rfl rfl rfl rfl rfl rfl rfl rfl rfl rfl rfl ?_ rfl
    exact evAfter_of _ _ _ _ _ _ rfl rfl rfl rfl
  · rw [if_pos rfl, if_pos rfl, ← h]
    rfl

end Choice

/-- Settles O39: by the lowest READY and the lowest UNTESTED spare. -/
theorem sparePendingLineIsServed : Obligations.SparePendingLineIsServed := by
  unfold Obligations.SparePendingLineIsServed
  intro s l hi hp
  have serves : exec .serveSparePending s = .next (chooseSpare l s) := by
    refine congrArg Host.Outcome.next ?_
    simp only [servePending, hi, hp, if_true]
  rw [serves]
  refine ⟨fun i hr => ?_, fun i hr hu => ?_, fun hr hu => ?_⟩
  · rw [chooseSpare_ready hr, beginCopy_eq] <;> rfl
  · rw [chooseSpare_untested hr hu]
    rfl
  · rw [chooseSpare_none hr hu, exhaust_eq]

/-! ### The spare test -/

section Test
variable {s : State}

/-- The physical word of the test, and its pattern. -/
theorem spareTestBody_write (h : s.spare.op.phase = .write) : spareTestBody s = spareTestNext { s with
    mem := s.mem.write (spareTestAddr s) (goodWord (spareTestAddr s) (testPattern s.spare.op.pass (spareTestAddr s))) } := by
  simp only [spareTestBody, h]
  rfl

theorem spareTestBody_equal (h : s.spare.op.phase = .read)
    (hd : decodeStored (s.mem.read (spareTestAddr s)) (spareTestAddr s) = .clean (testPattern s.spare.op.pass (spareTestAddr s))) :
    spareTestBody s = spareTestNext s := by
  simp only [spareTestBody, h, hd, if_true]

/-- An outcome of a spare test's read that fails the spare, with the detail of its record. -/
def spareFault (s : State) (detail : Nat) : Prop :=
  let a := spareTestAddr s
  let d := decodeStored (s.mem.read a) a
  (detail = 1 ∧ ∃ w, d = .clean w ∧ w ≠ testPattern s.spare.op.pass a) ∨ (detail = 2 ∧ ∃ w, d = .corrected w) ∨
    (detail = 3 ∧ ∃ w, d = .uncorrectable w)

theorem spareTestBody_fault {detail : Nat} (h : s.spare.op.phase = .read) (hf : spareFault s detail) :
    spareTestBody s = spareFails detail s := by
  rcases hf with ⟨rfl, w, hd, hne⟩ | ⟨rfl, w, hd⟩ | ⟨rfl, w, hd⟩ <;> simp only [spareTestBody, h, hd]
  · rw [if_neg hne]
    rfl
  · rfl
  · rfl

/-- The spare that failed is BAD, with its record, before the next is chosen. -/
def spareFailed (detail : Nat) (s : State) : State := { s with
  spare := { s.spare with remap := s.spare.remap.set s.spare.op.spare .bad, op := { s.spare.op with kind := .idle } }
  ev := evAfter .spareBad detail (.line (spareLine s s.spare.op.spare)) (wordOf (spareTestAddr s)) s }

theorem spareFails_eq (detail : Nat) (s : State) : spareFails detail s = chooseSpare s.spare.op.serving (spareFailed detail s) := by
  simp only [spareFails, hand_as_evAfter]
  refine congrArg _ (State.ext_parts rfl rfl rfl rfl rfl rfl rfl rfl rfl rfl rfl rfl rfl rfl rfl rfl ?_ rfl)
  exact evAfter_of _ _ _ _ _ _ rfl rfl rfl rfl

/-- The word moves on within the phase. -/
theorem spareTestNext_word (h : s.spare.op.word < 255) :
    spareTestNext s = { s with spare.op := { s.spare.op with word := s.spare.op.word + 1 } } := by
  simp only [spareTestNext, h, if_true]

theorem spareTestNext_write (h : ¬ s.spare.op.word < 255) (hp : s.spare.op.phase = .write) :
    spareTestNext s = { s with spare.op := { s.spare.op with phase := .read, word := 0 } } := by
  simp only [spareTestNext, h, if_false, hp]

theorem spareTestNext_passA (h : ¬ s.spare.op.word < 255) (hp : s.spare.op.phase = .read) (ha : s.spare.op.pass = .a) :
    spareTestNext s = { s with spare.op := { s.spare.op with pass := .b, phase := .write, word := 0 } } := by
  simp only [spareTestNext, h, if_false, hp, ha]

theorem spareTestNext_passB (h : ¬ s.spare.op.word < 255) (hp : s.spare.op.phase = .read) (hb : s.spare.op.pass = .b) :
    spareTestNext s = sparePasses s := by
  simp only [spareTestNext, h, if_false, hp, hb]

end Test

/-! ### The line copy -/

/-- The spare's word of the copy's cursor. -/
def copyPlace (s : State) : Nat := spareLine s s.spare.op.spare * 256 + s.spare.op.cursor

/-- The source's word of the copy's cursor. -/
def copyAddr (s : State) : Nat := s.spare.op.target * 256 + s.spare.op.cursor

/-- A copy step stores a word and moves the cursor, before the last. -/
theorem copyAdvance_more {s : State} (h : s.spare.op.cursor < 255) :
    copyAdvance s = { s with spare.op := { s.spare.op with cursor := s.spare.op.cursor + 1 } } := by
  unfold copyAdvance
  exact if_pos (by show s.spare.op.cursor + 1 < 256; omega)

/-- Removing a line's suspect entry moves the less recent ones a place up. -/
theorem removeSuspect_eq (l : Nat) (t : List (Option Suspect)) : removeSuspect l t = match findSuspect t l with
    | none => t
    | some e => t.map (fun y => match y with
      | none => none
      | some x => if x.line = l then none
        else some (if e.recency < x.recency then { x with recency := x.recency - 1 } else x)) := by
  unfold removeSuspect
  cases findSuspect t l with
  | none => rfl
  | some e =>
    simp only [moveUp, List.map_map]
    refine List.map_congr_left fun y _ => ?_
    cases y with
    | none => rfl
    | some x => by_cases hl : x.line = l <;> simp [hl]

/-- The copy completes at word 255 (R55). -/
theorem copyAdvance_last {s : State} (h : ¬ s.spare.op.cursor < 255) : copyAdvance s = { s with
    spare := { s.spare with
      suspects := removeSuspect s.spare.op.target s.spare.suspects
      remap := s.spare.remap.set s.spare.op.spare (.active s.spare.op.target)
      op := { s.spare.op with kind := .idle, cursor := s.spare.op.cursor + 1 } }
    ev := evAfter .spareDone (if s.spare.op.source = s.spare.op.target then 1 else 2) (.line s.spare.op.target)
      (wordOf (spareLine s s.spare.op.spare)) s } := by
  unfold copyAdvance
  refine (if_neg (by show ¬ s.spare.op.cursor + 1 < 256; omega)).trans ?_
  simp only [copyComplete, hand_as_evAfter]
  refine State.ext_parts rfl rfl rfl rfl rfl rfl rfl rfl rfl rfl rfl rfl rfl rfl rfl rfl ?_ rfl
  exact evAfter_of _ _ _ _ _ _ rfl rfl rfl rfl

section Copy
variable {s : State} {v raw : Word}

theorem copyWork_clean (h : decodeStored (storedAt s (copyAddr s)) (copyAddr s) = .clean v) :
    copyWork s = (copyAdvance { s with mem := s.mem.write (copyPlace s) (goodWord (copyAddr s) v) }, []) := by
  have read := readWord_clean (by_ := .copy) h
  simp only [copyAddr] at read
  simp only [copyWork, read]
  rfl

theorem copyWork_corrected (h : decodeStored (storedAt s (copyAddr s)) (copyAddr s) = .corrected v) :
    copyWork s = (copyAdvance (poke (copyPlace s) (goodWord (copyAddr s) v) (correct (copyAddr s) v s)), []) := by
  have read := readWord_corrected (by_ := .copy) h
  simp only [copyAddr] at read
  simp only [copyWork, read]
  rfl

theorem copyWork_uncorrectable (h : decodeStored (storedAt s (copyAddr s)) (copyAddr s) = .uncorrectable raw) :
    copyWork s = (copyAdvance (poke (copyPlace s) (poisonWord raw) (reportUncorrectable .copy (copyAddr s) raw s)),
      [copyAddr s]) := by
  have read := readWord_uncorrectable (by_ := .copy) h
  simp only [copyAddr] at read
  simp only [copyWork, read]
  rfl

end Copy

/-- A withdrawn channel is in OUT with its latch set, whatever the rollback does. -/
theorem withdraw_out (s : State) : (withdraw s).csr.state = .out ∧ (withdraw s).ev.faultLatch = true := by
  simp only [withdraw]
  split <;> simp

/-! ### Searches in the remap table -/

/-- A spare that is found passes. -/
theorem findRemap_passes {f : RemapEntry → Bool} {t : List RemapEntry} {k i : Nat} (h : findRemap f t k = some i) :
    ∃ m e, i = k + m ∧ t[m]? = some e ∧ f e = true := by
  induction t generalizing k with
  | nil => simp [findRemap] at h
  | cons x t ih =>
    simp only [findRemap] at h
    split at h
    · exact ⟨0, x, by simpa using h.symm, rfl, by assumption⟩
    · obtain ⟨m, e, rfl, he, hf⟩ := ih h
      exact ⟨m + 1, e, by omega, he, hf⟩

/-- An entry that fails a test changes no search that has found none. -/
theorem findRemap_set_none {f : RemapEntry → Bool} {t : List RemapEntry} {e : RemapEntry} (i : Nat) {k : Nat}
    (h : findRemap f t k = none) (he : f e = false) : findRemap f (t.set i e) k = none := by
  induction t generalizing k i with
  | nil => rfl
  | cons x t ih =>
    simp only [findRemap] at h
    split at h
    · exact nomatch h
    · rename_i hx
      cases i with
      | zero => simpa [findRemap, he] using h
      | succ i => simpa [findRemap, hx] using ih i h

/-- A BAD spare stays BAD in the choice of the next. -/
theorem chooseSpare_bad {s : State} {l i : Nat} (h : s.spare.remap[i]? = some .bad) :
    (chooseSpare l s).spare.remap[i]? = some .bad := by
  unfold chooseSpare
  split
  · rename_i j hj
    obtain ⟨m, e, rfl, he, hf⟩ := findRemap_passes hj
    have other : 0 + m ≠ i := by
      rintro rfl
      rw [Nat.zero_add, he] at h
      obtain rfl := Option.some.inj h
      simp at hf
    rw [beginCopy_eq]
    simp only [List.getElem?_set_ne other]
    split
    · rename_i t ht
      by_cases hti : t = i
      · subst hti
        rw [List.getElem?_set_self (List.getElem?_eq_some_iff.mp h).1]
      · rw [List.getElem?_set_ne hti, h]
    · exact h
  · split
    · exact h
    · rw [exhaust_eq]
      exact h

end Sys2Proof.Machine
end

section
/-! O40: the steps of the spare test and of the line copy. -/

namespace Sys2Proof.Machine
-- One proof after the other: side by side they pass the memory that the check allows.
set_option Elab.async false

/-! ### The steps from the command -/

theorem exec_spareTestStep {s : State} (h : runs .spareTest s) : exec .spareTestStep s = .next (spareTestBody (ungranted s)) :=
  congrArg Host.Outcome.next (runGrant_runs h)

theorem exec_copyStep {s : State} (h : runs .copy s) : exec .copyStep s = .next (settle (copyBody (ungranted s))) :=
  congrArg (fun t => Host.Outcome.next (settle t)) (runGrant_runs h)

/-- The last read of pass B makes the spare READY, and its copy begins. -/
theorem sparePasses_copy {s : State} (hc : copyingSpare s s.spare.op.serving = none)
    (ha : activeSpare s s.spare.op.serving = none)
    (hr : findRemap (fun e => decide (e = .ready)) (s.spare.remap.set s.spare.op.spare .ready) 0 = some s.spare.op.spare) :
    sparePasses s = { s with
      spare.remap := s.spare.remap.set s.spare.op.spare (.copying s.spare.op.serving)
      spare.op := { s.spare.op with
        kind := .copying, target := s.spare.op.serving, source := s.spare.op.serving, cursor := 0 } } := by
  have ready : sparePasses s = beginCopy s.spare.op.spare s.spare.op.serving
      (setRemap s.spare.op.spare .ready { s with spare.op := { s.spare.op with kind := .idle } }) := chooseSpare_ready hr
  have inactive : activeSpare (setRemap s.spare.op.spare .ready { s with spare.op := { s.spare.op with kind := .idle } })
      s.spare.op.serving = none := findRemap_set_none _ ha (by simp)
  have uncopied : copyingSpare (setRemap s.spare.op.spare .ready { s with spare.op := { s.spare.op with kind := .idle } })
      s.spare.op.serving = none := findRemap_set_none _ hc (by simp)
  have own : readLine (setRemap s.spare.op.spare .ready { s with spare.op := { s.spare.op with kind := .idle } })
      s.spare.op.serving = s.spare.op.serving := by simp only [readLine, inactive, uncopied]
  rw [ready, beginCopy_eq, inactive, own]
  refine State.ext_parts rfl rfl rfl rfl rfl rfl rfl rfl ?_ rfl rfl rfl rfl rfl rfl rfl rfl rfl
  simp only [setRemap, List.set_set]

/-- Settles O40: the spare test by phase, word and outcome; the copy by outcome. -/
theorem sparesAreTestedAndCopiedInto : Obligations.SparesAreTestedAndCopiedInto := by
  unfold Obligations.SparesAreTestedAndCopiedInto
  refine ⟨?_, ?_, ?_, ?_⟩
  · intro s hr o place a v
    rw [exec_spareTestStep hr]
    refine ⟨fun h hw => ?_, fun h hw hd => ?_, fun found h hd hne => ?_, fun h hb hw hd hc ha hf => ?_⟩
    · rw [spareTestBody_write (s := ungranted s) h, spareTestNext_word (by exact hw)]
      rfl
    · rw [spareTestBody_equal (s := ungranted s) h hd, spareTestNext_word (s := ungranted s) hw]
      rfl
    · refine ⟨_, rfl, ?_⟩
      rw [spareTestBody_fault (s := ungranted s) (detail := 1) h (.inl ⟨rfl, found, hd, hne⟩), spareFails_eq]
      refine ⟨by simp only [chooseSpare_keeps]; rfl, by simp only [chooseSpare_keeps]; rfl, by simp only [chooseSpare_keeps]; rfl,
        fun hlen => ?_, fun i hu hn => ?_⟩
      · exact chooseSpare_bad (List.getElem?_set_self hlen)
      · rw [chooseSpare_untested (s := spareFailed 1 (ungranted s)) hn hu]
        exact ⟨evAfter_of _ _ _ _ _ _ rfl rfl rfl rfl, rfl, rfl, rfl⟩
    · rw [spareTestBody_equal (s := ungranted s) h hd, spareTestNext_passB (s := ungranted s) (Nat.not_lt.mpr hw) h hb,
        sparePasses_copy (s := ungranted s) hc ha hf]
      rfl
  · intro s v hr o a place hd m
    rw [exec_copyStep hr]
    have body : copyBody (ungranted s) = copyAdvance { ungranted s with mem := m } := by
      rw [copyBody, copyWork_clean (s := ungranted s) hd]
      rfl
    rw [body]
    refine ⟨fun hw => ?_, fun hw => ?_⟩
    · rw [copyAdvance_more (by exact hw)]
      rfl
    · rw [copyAdvance_last (by exact Nat.not_lt.mpr hw)]
      refine congrArg (fun t => Host.Outcome.next (settle t))
        (State.ext_parts rfl rfl rfl rfl rfl rfl rfl rfl ?_ rfl rfl rfl rfl rfl rfl rfl ?_ rfl)
      · rw [removeSuspect_eq]
        rfl
      · exact evAfter_of _ _ _ _ _ _ rfl rfl rfl rfl
  · intro s hr o place a v
    rw [exec_spareTestStep hr]
    refine ⟨fun h hw => ?_, fun h ha hw hd => ?_, ?_⟩
    · rw [spareTestBody_write (s := ungranted s) h, spareTestNext_write (by exact Nat.not_lt.mpr hw) (by exact h)]
      rfl
    · rw [spareTestBody_equal (s := ungranted s) h hd, spareTestNext_passA (s := ungranted s) (Nat.not_lt.mpr hw) h ha]
      rfl
    · intro detail h hf bad told hn
      rw [spareTestBody_fault (s := ungranted s) h hf, spareFails_eq]
      have told_eq : (spareFailed detail (ungranted s)).ev = told := evAfter_of _ _ _ _ _ _ rfl rfl rfl rfl
      refine ⟨fun i hu => ?_, fun hu => ?_⟩
      · rw [chooseSpare_untested (s := spareFailed detail (ungranted s)) hn hu]
        exact congrArg Host.Outcome.next
          (State.ext_parts rfl rfl rfl rfl rfl rfl rfl rfl rfl rfl rfl rfl rfl rfl rfl rfl told_eq rfl)
      · rw [chooseSpare_none (s := spareFailed detail (ungranted s)) hn hu, exhaust_eq, told_eq]
        refine congrArg Host.Outcome.next
          (State.ext_parts rfl rfl rfl rfl rfl rfl rfl rfl rfl rfl rfl rfl rfl rfl rfl rfl ?_ rfl)
        exact congrArg (fun y => if s.spare.exhaustionReported = true then told else y)
          (evAfter_of _ _ _ _ _ _ rfl rfl rfl told_eq)
  · intro s hr o a place hw
    have line : a / 256 = o.target := by
      show (o.target * 256 + o.cursor) / 256 = o.target
      omega
    rw [exec_copyStep hr]
    refine ⟨fun raw hd => ?_, fun v i e hd hreg => ?_⟩
    · intro m
      have body : copyBody (ungranted s) = consequences .copy [a] { ungranted s with
          mem := m
          counters := { s.counters with uncorrectable := satSucc s.counters.uncorrectable }
          sig := { s.sig with valid := s.sig.valid && decide (classOf s o.target ≠ some .vital) }
          ev := evAfter .uncorrectable 4 (.word a) raw s
          spare := { s.spare with op := { o with cursor := o.cursor + 1 } } } := by
        rw [copyBody, copyWork_uncorrectable (s := ungranted s) hd, reportUncorrectable_eq, copyAdvance_more (by exact hw)]
        refine congrArg (consequences .copy [a]) (State.ext_parts rfl rfl rfl rfl rfl rfl rfl rfl rfl ?_ rfl rfl rfl rfl rfl rfl ?_ rfl)
        · rw [← line]
          rfl
        · exact evAfter_of _ _ _ _ _ _ rfl rfl rfl rfl
      rw [body]
      refine ⟨fun hv hj => ?_, fun hv hs => ?_⟩
      · rw [consequences_none (fun x hx => by rw [List.mem_singleton.mp hx, line]; exact hj)
          (.inl fun x hx => by rw [List.mem_singleton.mp hx, line]; exact hv)]
        refine congrArg (fun t => Host.Outcome.next (settle t))
          (State.ext_parts rfl rfl rfl rfl rfl rfl rfl rfl rfl ?_ rfl rfl rfl rfl rfl rfl rfl rfl)
        simp only [ne_eq, hv, not_false_eq_true, decide_true, Bool.and_true]
      · refine ⟨_, rfl, ?_⟩
        rw [consequences_signed (fun x hx => by rw [List.mem_singleton.mp hx, line]; exact hv) (by exact hs)]
        exact ⟨by simp, by simp, (withdraw_out _).1, (withdraw_out _).2, by simp⟩
    · have body : copyBody (ungranted s) = copyAdvance (poke place (goodWord a v) (suspectError (a / 256)
          (counted i a v (ungranted s)))) := by
        rw [copyBody, copyWork_corrected (s := ungranted s) hd, correct_inRegion (s := ungranted s) (a := copyAddr (ungranted s))
          v (by rw [show copyAddr (ungranted s) = a from rfl, line]; exact hreg)]
        rfl
      obtain ⟨hmem, hcsr, -, -, -, hcou, -, hop, hremap, hsig, hjnl, -, -, -, hrep, -⟩ :=
        suspectError_keeps (a / 256) (counted i a v (ungranted s))
      have cursor : (suspectError (a / 256) (counted i a v (ungranted s))).spare.op = o := hop
      refine ⟨_, rfl, ?_⟩
      rw [body, copyAdvance_more (by simp only [poke, cursor]; exact hw)]
      simp only [poke, hmem, cursor, hremap, hcou, hcsr, hsig, hjnl, hrep]
      exact ⟨rfl, trivial, rfl, rfl, rfl, rfl, rfl, rfl⟩

end Sys2Proof.Machine
end

section
/-! The scrub walk (R31 to R35): the covered lines, the cursor, the pass. -/

namespace Sys2Proof.Machine
-- One proof after the other: side by side they pass the memory that the check allows.
set_option Elab.async false

/-! ### The covered lines -/

/-- A line lies in an entry that the walk covers. -/
def coveredLine (t : List RegionEntry) (l : Nat) : Prop := ∃ e ∈ t, e.covered = true ∧ e.base ≤ l ∧ l < e.base + e.count

theorem covered_iff (e : RegionEntry) : e.covered = true ↔
    e.valid = true ∧ (e.cls = .vital ∨ e.cls = .journal ∨ e.cls = .events ∨ e.scrub = true) := by
  cases hc : e.cls <;> simp [RegionEntry.covered, hc]

/-- The next covered line from a line on is the least. -/
theorem nextCovered_finds (t : List RegionEntry) (l : Nat) : Finds (fun m => l ≤ m ∧ coveredLine t m) (nextCovered t l) := by
  induction t with
  | nil => exact fun m h => by simp [coveredLine] at h
  | cons e t ih =>
    have split (m : Nat) : coveredLine (e :: t) m ↔ (e.covered = true ∧ e.base ≤ m ∧ m < e.base + e.count) ∨ coveredLine t m := by
      simp [coveredLine]
    unfold nextCovered
    by_cases he : (e.covered && decide (max e.base l < e.base + e.count)) = true
    · rw [if_pos he]
      obtain ⟨hc, hlt⟩ := Bool.and_eq_true_iff.mp he
      have hlt := of_decide_eq_true hlt
      cases hn : nextCovered t l with
      | none =>
        rw [hn] at ih
        show Finds _ (some (max e.base l))
        refine ⟨⟨Nat.le_max_right _ _, (split _).mpr (.inl ⟨hc, Nat.le_max_left _ _, hlt⟩)⟩, fun i hi h => ?_⟩
        rcases (split i).mp h.2 with ⟨-, hb, -⟩ | hi'
        · exact absurd (Nat.max_le.mpr ⟨hb, h.1⟩) (by omega)
        · exact ih i ⟨h.1, hi'⟩
      | some k =>
        rw [hn] at ih
        obtain ⟨⟨hk, hck⟩, before⟩ := ih
        show Finds _ (some (min k (max e.base l)))
        refine ⟨⟨by omega, (split _).mpr ?_⟩, fun i hi h => ?_⟩
        · rcases Nat.le_total k (max e.base l) with le | ge
          · rw [Nat.min_eq_left le]
            exact .inr hck
          · rw [Nat.min_eq_right ge]
            exact .inl ⟨hc, Nat.le_max_left _ _, hlt⟩
        · rcases (split i).mp h.2 with ⟨-, hb, -⟩ | hi'
          · exact absurd (Nat.max_le.mpr ⟨hb, h.1⟩) (by omega)
          · exact before i (by omega) ⟨h.1, hi'⟩
    · rw [if_neg he]
      refine ih.congr fun i => ?_
      rw [split]
      refine ⟨fun h => ⟨h.1, .inr h.2⟩, fun ⟨h1, h2⟩ => ⟨h1, h2.resolve_left fun ⟨hc, hb, hlt⟩ => he ?_⟩⟩
      rw [hc, Bool.true_and]
      exact decide_eq_true (by omega)

theorem nextCovered_iff {t : List RegionEntry} {l m : Nat} : nextCovered t l = some m ↔
    coveredLine t m ∧ l ≤ m ∧ ∀ n, l ≤ n → n < m → ¬ coveredLine t n := by
  have finds := nextCovered_finds t l
  constructor
  · intro h
    rw [h] at finds
    exact ⟨finds.1.2, finds.1.1, fun n hl hn hc => finds.2 n hn ⟨hl, hc⟩⟩
  · rintro ⟨hc, hl, least⟩
    exact finds.eq_some ⟨hl, hc⟩ fun i hi h => least i h.1 hi h.2

/-- The word the walk reads next is that of the cursor, or word 0 of the lowest covered line above it. -/
theorem scrubPlace_iff {s : State} {l w : Nat} : scrubPlace s = some (l, w) ↔
    nextCovered s.regions.committed s.scrub.line = some l ∧ w = (if l = s.scrub.line then s.scrub.word else 0) := by
  unfold scrubPlace
  cases nextCovered s.regions.committed s.scrub.line with
  | none => simp
  | some m =>
    by_cases hm : m = s.scrub.line
    · simp only [hm, if_true, Option.some.injEq, Prod.mk.injEq]
      constructor
      · rintro ⟨rfl, rfl⟩; simp
      · rintro ⟨rfl, h⟩; simpa using h.symm
    · simp only [hm, if_false, Option.some.injEq, Prod.mk.injEq]
      constructor
      · rintro ⟨rfl, rfl⟩; simp [hm]
      · rintro ⟨rfl, h⟩; rw [if_neg hm] at h; exact ⟨rfl, h.symm⟩

/-! ### The pass -/

/-- An entry stays at the end of a pass. -/
def Suspect.staysOn (e : Suspect) : Bool := decide (1 < e.count) || e.pending

theorem decayEntry_some (e : Suspect) :
    decayEntry (some e) = if e.staysOn then some { e with count := max 1 (e.count - 1) } else none := by
  simp only [decayEntry, Suspect.staysOn]
  by_cases h : e.count ≤ 1
  · have small : max 1 (e.count - 1) = 1 := by omega
    have last : ¬ 1 < e.count := by omega
    simp [h, small, last]
  · have small : max 1 (e.count - 1) = e.count - 1 := by omega
    have more : 1 < e.count := by omega
    simp [h, small, more]

/-- How many entries that stay are more recent. -/
def staysAbove (t : List (Option Suspect)) (r : Nat) : Nat :=
  t.countP (fun z => match z with
    | some x => x.staysOn && decide (x.recency < r)
    | none => false)

theorem moreRecent_decay (r : Nat) (t : List (Option Suspect)) : moreRecent r (t.map decayEntry) = staysAbove t r := by
  induction t with
  | nil => rfl
  | cons o t ih =>
    unfold staysAbove at ih ⊢
    rw [List.map_cons, List.countP_cons, ← ih]
    cases o with
    | none => rfl
    | some e =>
      rw [decayEntry_some]
      by_cases hs : e.staysOn = true
      · rw [if_pos hs]
        simp only [moreRecent, hs, Bool.true_and, decide_eq_true_eq]
        omega
      · rw [if_neg hs]
        simp only [moreRecent, hs, Bool.false_and, Bool.false_eq_true, if_false, Nat.add_zero]

/-- Every count falls by one at the end of a pass, and the order of the rest stays without gaps. -/
theorem decaySuspects_eq (t : List (Option Suspect)) : decaySuspects t = t.map (fun y => match y with
    | none => none
    | some e => if e.staysOn then some { e with count := max 1 (e.count - 1), recency := staysAbove t e.recency } else none) := by
  simp only [decaySuspects, List.map_map, moreRecent_decay]
  refine List.map_congr_left fun y _ => ?_
  cases y with
  | none => rfl
  | some e =>
    simp only [Function.comp, decayEntry_some]
    by_cases hs : e.staysOn = true
    · simp only [hs, if_true, Option.map_some]
    · simp only [hs]
      rfl

/-! ### The step -/

section Step
variable {s : State} {l w : Nat}

/-- The step's word read, with its allowance spent. -/
theorem scrubWork_eq (h : scrubPlace s = some (l, w)) : scrubWork s =
    (scrubAdvance l w (readWord .scrub (l * 256 + w) (spendAllowance w s)).2,
      badWords [(l * 256 + w, (readWord .scrub (l * 256 + w) (spendAllowance w s)).1)]) := by
  simp only [scrubWork, h]

theorem spendAllowance_eq (w : Nat) (s : State) : spendAllowance w s =
    { s with scrub := { s.scrub with allowance := if w = 0 then s.scrub.allowance - 1 else s.scrub.allowance } } := by
  unfold spendAllowance
  split <;> rfl

theorem scrubAdvance_word (h : w < 255) : scrubAdvance l w s = { s with scrub := { s.scrub with line := l, word := w + 1 } } := by
  rw [scrubAdvance, if_pos h]

theorem scrubAdvance_line (h : ¬ w < 255) {m : Nat} (hm : nextCovered s.regions.committed (l + 1) = some m) :
    scrubAdvance l w s = { s with scrub := { s.scrub with line := m, word := 0 } } := by
  rw [scrubAdvance, if_neg h, hm]

/-- The walk's end completes the pass. -/
theorem scrubAdvance_pass (h : ¬ w < 255) (hn : nextCovered s.regions.committed (l + 1) = none) {m : Nat}
    (hm : nextCovered s.regions.committed 0 = some m) : scrubAdvance l w s = { s with
      scrub := { s.scrub with line := m, word := 0, passCount := s.scrub.passCount + 1 }
      spare.suspects := decaySuspects s.spare.suspects
      ev := evAfter .scrubPass 0 .none (wordOf (s.scrub.passCount + 1).toNat) s } := by
  rw [scrubAdvance, if_neg h, hn]
  simp only [passComplete, hm, hand_as_evAfter]
  refine State.ext_parts rfl rfl rfl rfl rfl rfl rfl rfl rfl rfl rfl rfl rfl rfl rfl rfl ?_ rfl
  exact evAfter_of _ _ _ _ _ _ rfl rfl rfl rfl

/-- What a scrub step on a CLEAN word does. -/
theorem scrubBody_clean {v : Word} (h : scrubPlace s = some (l, w))
    (hd : decodeStored (storedAt s (l * 256 + w)) (l * 256 + w) = .clean v) :
    scrubBody s = scrubAdvance l w (spendAllowance w s) := by
  have same : storedAt (spendAllowance w s) (l * 256 + w) = storedAt s (l * 256 + w) := by rw [spendAllowance_eq]; rfl
  rw [scrubBody, scrubWork_eq h, readWord_clean (by rw [same]; exact hd)]
  rfl

end Step

/-- The command's step, when the walk has the next grant. -/
theorem exec_scrubStep {s : State} (h : runs .scrub s) : exec .scrubStep s = .next (settle (scrubBody (ungranted s))) :=
  congrArg (fun t => Host.Outcome.next (settle t)) (runGrant_runs h)

/-! ### A correction beside the walk's own record -/

/-- The state with another grant and another record of the scrub engine. -/
def beside (x : Arbiter) (y : ScrubUnit) (s : State) : State := { s with arb := x, scrub := y }

theorem hand_beside (k : EventKind) (d : Nat) (j : Subject) (v : Word) (x : Arbiter) (y : ScrubUnit) (s : State) :
    hand k d j v (beside x y s) = beside x y (hand k d j v s) := by
  simp only [hand_as_evAfter]
  exact State.ext_parts rfl rfl rfl rfl rfl rfl rfl rfl rfl rfl rfl rfl rfl rfl rfl rfl
    (evAfter_of _ _ _ _ _ _ rfl rfl rfl rfl) rfl

theorem suspectError_beside (l : Nat) (x : Arbiter) (y : ScrubUnit) (s : State) :
    suspectError l (beside x y s) = beside x y (suspectError l s) := by
  cases h : findSuspect s.spare.suspects l with
  | some e =>
    have told (n : Nat) : evAfter .lineSuspect 2 (.line l) (wordOf n) (beside x y s) =
        evAfter .lineSuspect 2 (.line l) (wordOf n) s := evAfter_of _ _ _ _ _ _ rfl rfl rfl rfl
    rw [suspectError_held (s := beside x y s) h, suspectError_held h]
    simp only [told]
    rfl
  | none =>
    cases hp : placeSuspect (firstEntry l s) s.spare.suspects with
    | none => rw [suspectError_stays (s := beside x y s) h hp, suspectError_stays h hp]
    | some t =>
      rw [suspectError_enters (s := beside x y s) h hp, suspectError_enters h hp,
        evEntered_of l s (beside x y s) rfl rfl rfl rfl rfl]
      rfl

theorem correct_beside (a : Nat) (v : Word) (x : Arbiter) (y : ScrubUnit) (s : State) :
    correct a v (beside x y s) = beside x y (correct a v s) := by
  cases h : regionOf s (a / 256) with
  | some e =>
    obtain ⟨i, e⟩ := e
    rw [correct_inRegion (s := beside x y s) v h, correct_inRegion v h, ← suspectError_beside]
    rfl
  | none =>
    have plain (u : State) (hu : regionOf u (a / 256) = none) :
        correct a v u = suspectError (a / 256) (poke (readPlace u a) (goodWord a v) u) := by
      simp only [correct, hu]
    rw [plain _ h, plain (beside x y s) h, ← suspectError_beside]
    rfl

/-- A requester that neither has the grant nor waits takes no step. -/
theorem runGrant_unrequested {r : Requester} {body : State → State} {s : State} (hg : s.arb.grant ≠ some r)
    (hw : waits r s = false) : runGrant r body s = s := by
  unfold runGrant
  cases hs : s.arb.grant with
  | some g => exact if_neg fun e => hg (by rw [hs, e])
  | none =>
    refine if_neg fun next => ?_
    have := List.find?_some next.2
    exact Bool.false_ne_true (hw.symm.trans this)

/-- The walk's request, at the word it reads next (R33, R35). -/
theorem scrub_waits_iff {s : State} {l w : Nat} (h : scrubPlace s = some (l, w)) : waits .scrub s = true ↔
    ¬ (s.csr.state = .unconfigured ∨ s.scrub.proof.status = .running ∨ s.scrub.init.status = .running) ∧
      (w = 0 → 0 < s.scrub.allowance) := by
  simp only [waits, scrubWaits, h, engineRunning, Bool.and_eq_true, Bool.not_eq_true', Bool.or_eq_false_iff,
    decide_eq_true_eq, decide_eq_false_iff_not]
  tauto

/-- No request is made while the walk is paused. -/
theorem scrub_paused {s : State}
    (h : s.csr.state = .unconfigured ∨ s.scrub.proof.status = .running ∨ s.scrub.init.status = .running) :
    waits .scrub s = false := by
  rcases h with h | h | h <;> simp [waits, scrubWaits, engineRunning, h]

/-- A CORRECTED word is corrected, and the cursor moves on. -/
theorem scrubBody_corrected {s : State} {l w : Nat} {v : Word} (h : scrubPlace s = some (l, w)) (hw : w < 255)
    (hd : decodeStored (storedAt s (l * 256 + w)) (l * 256 + w) = .corrected v) :
    scrubBody (ungranted s) = beside { s.arb with grant := none } { s.scrub with
      line := l, word := w + 1, allowance := if w = 0 then s.scrub.allowance - 1 else s.scrub.allowance }
      (correct (l * 256 + w) v s) := by
  have spent : spendAllowance w (ungranted s) = beside { s.arb with grant := none } { s.scrub with
      allowance := if w = 0 then s.scrub.allowance - 1 else s.scrub.allowance } s := spendAllowance_eq w (ungranted s)
  rw [scrubBody, scrubWork_eq (s := ungranted s) h, spent, readWord_corrected (by exact hd), correct_beside,
    scrubAdvance_word hw]
  rfl

/-- Settles O36: the period, the step on CLEAN and CORRECTED words, the covered lines. -/
theorem scrubWalkReadsTheCoveredLines : Obligations.ScrubWalkReadsTheCoveredLines := by
  unfold Obligations.ScrubWalkReadsTheCoveredLines
  refine ⟨fun s => rfl, ?_, ?_, ?_⟩
  · intro s l w v hr hp hd left stays
    have spent := spendAllowance_eq w (ungranted s)
    rw [exec_scrubStep hr, scrubBody_clean (s := ungranted s) hp hd, spent]
    refine ⟨fun hw => ?_, fun hw m hm => ?_, fun hw hn m hm => ?_⟩
    · rw [scrubAdvance_word hw]
      rfl
    · rw [scrubAdvance_line (by omega) (by exact hm)]
      rfl
    · rw [scrubAdvance_pass (by omega) (by exact hn) (by exact hm), decaySuspects_eq]
      refine congrArg (fun t => Host.Outcome.next (settle t))
        (State.ext_parts rfl rfl rfl rfl rfl rfl rfl rfl rfl rfl rfl rfl rfl rfl rfl rfl ?_ rfl)
      exact evAfter_of _ _ _ _ _ _ rfl rfl rfl rfl
  · intro s l w v hr hp hw hd
    rw [exec_scrubStep hr, scrubBody_corrected hp hw hd]
    rfl
  · intro s covered paused
    have same (l : Nat) : covered l ↔ coveredLine s.regions.committed l := by
      simp only [covered, coveredLine, covered_iff]
      exact exists_congr fun e => and_congr_right fun _ => by tauto
    have place {l w : Nat} : scrubPlace s = some (l, w) ↔ covered l ∧ s.scrub.line ≤ l ∧
        (∀ n, s.scrub.line ≤ n → n < l → ¬ covered n) ∧ w = (if l = s.scrub.line then s.scrub.word else 0) := by
      simp only [scrubPlace_iff, nextCovered_iff, same, and_assoc]
    have stands (hg : s.arb.grant ≠ some .scrub) (hw : waits .scrub s = false) : exec .scrubStep s = .next (settle s) :=
      congrArg (fun t => Host.Outcome.next (settle t)) (runGrant_unrequested hg hw)
    refine ⟨fun l m => ?_, fun l w => place, fun l w hp => scrub_waits_iff hp, fun l hp ha hg => stands hg ?_,
      fun hpa hg => stands hg (scrub_paused hpa)⟩
    · simp only [nextCovered_iff, same]
    · rw [Bool.eq_false_iff, ne_eq, scrub_waits_iff hp]
      rintro ⟨-, h⟩
      exact absurd (h rfl) (by omega)

end Sys2Proof.Machine
end

section
/-! The receptions (R136, R137): what a link does with received bytes, and what every reception drops. -/

namespace Sys2Proof.Machine
-- One proof after the other: side by side they pass the memory that the check allows.
set_option Elab.async false

/-! ### The bytes of a frame on a link -/

section
variable {l : LinkId} {raw : List Byte} {s : State} {kind : FrameKind} {use : Frame → State → State} {f : Frame}

/-- A link that is DOWN or QUIET takes nothing. -/
theorem receiveFrame_closed (h : (getLink s l).status = .down ∨ (getLink s l).status = .quiet) :
    receiveFrame l kind raw use s = s := if_pos h

/-- Bytes that fail a check are counted. -/
theorem receiveFrame_bad (hd : (getLink s l).status ≠ .down) (hq : (getLink s l).status ≠ .quiet)
    (hc : checkFrame raw = none) : receiveFrame l kind raw use s = countBad l s := by
  simp only [receiveFrame, hc]
  exact if_neg (by simp [hd, hq])

/-- In HAILING and MISMATCH a frame other than a HAIL is dropped. -/
theorem receiveFrame_early (h : (getLink s l).status = .hailing ∨ (getLink s l).status = .mismatch)
    (hc : checkFrame raw = some f) (hk : f.kind = kind) (hn : kind ≠ .hail) : receiveFrame l kind raw use s = s := by
  simp only [receiveFrame, hc, hk]
  rcases h with h | h <;> simp [h, hn]

/-- In UP a frame of another sender than the peer is counted. -/
theorem receiveFrame_stranger (hu : (getLink s l).status = .up) (hp : (getLink s l).peer ≠ some f.sender)
    (hc : checkFrame raw = some f) (hk : f.kind = kind) (hn : kind ≠ .hail) :
    receiveFrame l kind raw use s = countBad l s := by
  simp [receiveFrame, hc, hk, hu, hn, hp]

/-- In UP a frame of the peer is used, and restarts the silence timer (R142). -/
theorem receiveFrame_accepted (h : accepts l raw f s) (hk : f.kind = kind) (hn : kind ≠ .hail) :
    receiveFrame l kind raw use s = use f (silenceRestarted l s) := by
  obtain ⟨hu, hc, hp⟩ := h
  simp only [receiveFrame, hc, hk, hu, hp]
  simp only [reduceCtorEq, or_self, if_false, ne_eq, not_true_eq_false, hn]
  rfl

/-- A checked HAIL is used in HAILING, MISMATCH and UP. -/
theorem receiveFrame_hail (hd : (getLink s l).status ≠ .down) (hq : (getLink s l).status ≠ .quiet)
    (hc : checkFrame raw = some f) (hk : f.kind = .hail) : receiveFrame l .hail raw use s = use f s := by
  simp [receiveFrame, hc, hk, hd, hq]

end

/-! ### What a reception disturbs -/

@[simp] theorem Role.alike_self (r : Role) : r.alike r = true := by cases r <;> rfl

/-- An event that keeps channel state, role and vote ends no operation. -/
theorem disturbs_of_kept {s t : State} (hc : t.csr.state = s.csr.state) (hr : t.repair.role = s.repair.role)
    (hv : t.vote.record.isOpen = s.vote.record.isOpen) : disturbs s t = false := by
  simp [disturbs, hc, hr, hv]

/-- A reception that comes to one state whatever the frame is used for, and disturbs nothing, leaves that state. -/
theorem exec_reception {l : LinkId} {raw : List Byte} {s t : State} {kind : FrameKind} {c : Instr}
    (mem : (kind, c) ∈ [(FrameKind.hail, Instr.hailReceive l raw), (.beat, .beatReceive l raw), (.sign, .signReceive l raw),
      (.request, .requestReceive l raw), (.accept, .acceptReceive l raw), (.refuse, .refuseReceive l raw),
      (.line, .lineReceive l raw), (.hold, .holdReceive l raw), (.go, .goReceive l raw), (.close, .closeReceive l raw),
      (.verdict, .verdictReceive l raw), (.abort, .abortReceive l raw)])
    (held : t.port.held = none) (calm : disturbs s t = false) (h : ∀ use, receiveFrame l kind raw use s = t) :
    exec c s = .next t := by
  have settled : settle t = t := settle_none t held
  have during_eq (use : Frame → State → State) : during (receiveFrame l kind raw use) s = t := by
    rw [during_undisturbed _ _ (by rw [h]; exact calm), h]
  simp only [List.mem_cons, Prod.mk.injEq, List.not_mem_nil, or_false] at mem
  have waits (use : Frame → State → State) : settle (during (receiveFrame l kind raw use) s) = t := by
    rw [during_eq, settled]
  have redecides (use : Frame → State → State) : settle (receiveFrame l kind raw use s) = t := by rw [h, settled]
  rcases mem with ⟨rfl, rfl⟩ | ⟨rfl, rfl⟩ | ⟨rfl, rfl⟩ | ⟨rfl, rfl⟩ | ⟨rfl, rfl⟩ | ⟨rfl, rfl⟩ | ⟨rfl, rfl⟩ | ⟨rfl, rfl⟩ |
    ⟨rfl, rfl⟩ | ⟨rfl, rfl⟩ | ⟨rfl, rfl⟩ | ⟨rfl, rfl⟩
  · exact congrArg _ (waits (useHail l))
  · exact congrArg _ (waits useBeat)
  · exact congrArg _ (waits (useSignFrame l))
  · exact congrArg _ (h (useRequest l))
  · exact congrArg _ (h (useAccept l))
  · exact congrArg _ (h useRefuse)
  · exact congrArg _ (h (useLine l))
  · exact congrArg _ (h fun _ => takeHold l)
  · exact congrArg _ (redecides fun _ => takeGo l)
  · exact congrArg _ (h useClose)
  · exact congrArg _ (h useVerdict)
  · exact congrArg _ (waits useAbort)

/-- Settles O47: every reception drops what its link must not take, and counts what fails a check. -/
theorem receptionsDropWhatTheyMustNotTake : Obligations.ReceptionsDropWhatTheyMustNotTake := by
  intro l raw s kind c held mem counted st
  have calm : disturbs s counted = false := disturbs_of_kept (by simp [counted]) (by simp [counted]) (by simp [counted])
  have held' : counted.port.held = none := by simpa [counted] using held
  refine ⟨fun h => ?_, fun hd hq hc => ?_, fun f hc hk hn => ⟨fun h => ?_, fun hu hp => ?_⟩⟩
  · exact exec_reception mem held (disturbs_of_kept rfl rfl rfl) fun _ => receiveFrame_closed h
  · exact exec_reception mem held' calm fun _ => receiveFrame_bad hd hq hc
  · exact exec_reception mem held (disturbs_of_kept rfl rfl rfl) fun _ => receiveFrame_early h hc hk hn
  · exact exec_reception mem held' calm fun _ => receiveFrame_stranger hu hp hc hk hn

end Sys2Proof.Machine
end

section
/-! Links, peers and the CLOSE of a source, as equations; a REQUEST (R157, R158) and the ends of a source role (R169, R170). -/

namespace Sys2Proof.Machine
-- One proof after the other: side by side they pass the memory that the check allows.
set_option Elab.async false

/-! ### Peers and links as parts of the state -/

/-- The vote unit after a change of one peer's entry. -/
def voteWith (me : Option Identity) (i : Identity) (f : Peer → Peer) (v : VoteUnit) : VoteUnit :=
  match otherIds me with
  | some (x, y) => if i = x then { v with peer0 := f v.peer0 } else if i = y then { v with peer1 := f v.peer1 } else v
  | none => v

theorem updPeer_eq (i : Identity) (f : Peer → Peer) (s : State) :
    updPeer i f s = { s with vote := voteWith s.mgmt.params.channelId i f s.vote } := by
  simp only [updPeer, peerSlot, voteWith]
  cases otherIds s.mgmt.params.channelId with
  | none => rfl
  | some p =>
    by_cases hx : i = p.1
    · simp [hx]
    · by_cases hy : i = p.2
      · subst hy
        simp [hx]
      · simp [hx, hy]

theorem setRelation_eq (i : Identity) (r : Option Relation) (s : State) : setRelation i r s =
    { s with vote := voteWith s.mgmt.params.channelId i (fun x => { x with relation := r }) s.vote } := updPeer_eq i _ s

/-- States that agree but for the event unit, and whose event units agree, are one. -/
theorem State.ext_ev {s t : State} (h : { s with ev := t.ev } = t) (he : s.ev = t.ev) : s = t := by
  rw [← h, ← he]

@[simp] theorem getLink_updLink_self (l : LinkId) (f : Link → Link) (s : State) : getLink (updLink l f s) l = f (getLink s l) := by
  cases l <;> rfl

@[simp] theorem getLink_updLink_other (l : LinkId) (f : Link → Link) (s : State) :
    getLink (updLink l f s) (otherLink l) = getLink s (otherLink l) := by
  cases l <;> rfl

theorem silenceRestarted_up {l : LinkId} {s : State} (h : (getLink s l).status = .up) :
    (getLink (silenceRestarted l s) l).status = .up := by
  simpa [silenceRestarted] using h

@[simp] theorem sentUp_keeps (l : LinkId) (f : Frame) (s : State) :
    (sentUp l f s).mem = s.mem ∧ (sentUp l f s).csr = s.csr ∧ (sentUp l f s).port = s.port ∧ (sentUp l f s).arb = s.arb ∧
    (sentUp l f s).regions = s.regions ∧ (sentUp l f s).counters = s.counters ∧ (sentUp l f s).scrub = s.scrub ∧
    (sentUp l f s).spare = s.spare ∧ (sentUp l f s).sig = s.sig ∧ (sentUp l f s).jnl = s.jnl ∧
    (sentUp l f s).vote = s.vote ∧ (sentUp l f s).repair = s.repair ∧ (sentUp l f s).mgmt = s.mgmt ∧
    (sentUp l f s).ev = s.ev ∧ (sentUp l f s).out.responses = s.out.responses ∧ (sentUp l f s).pending = s.pending := by
  simp [sentUp]

@[simp] theorem getLink_sentUp_self_status (l : LinkId) (f : Frame) (s : State) :
    (getLink (sentUp l f s) l).status = (getLink s l).status := by
  cases l <;> rfl

/-! ### CLOSE (R163, R164) -/

/-- A source whose CLOSE is not due goes on. -/
theorem closeIfDone_waits {s : State} {r : SourceRole} (hr : s.repair.role = .source r)
    (h : s.repair.r ≠ [] ∨ r.captured ≠ none ∨ r.phase = .awaitVerdict ∨ (r.phase = .pass ∧ s.csr.state ≠ .held)) :
    closeIfDone s = s := by
  simp only [closeIfDone, hr]
  by_cases hd : s.repair.r = [] ∧ r.captured = none
  · rw [if_pos hd]
    rcases h with h | h | h | ⟨hp, hs⟩
    · exact absurd hd.1 h
    · exact absurd hd.2 h
    · simp [h]
    · simp [hp, hs]
  · rw [if_neg hd]

/-- CLOSE goes out on a link that is UP, and the source awaits the verdict. -/
theorem sendClose_up {s : State} {r : SourceRole} {me : Identity} {cyc : Cycle} {target : Nat}
    (hid : s.mgmt.params.channelId = some me) (hu : (getLink s r.link).status = .up) : sendClose r cyc target s =
      { setRelation r.joiner (some .joining)
          (sentUp r.link (ownFrame me (.close cyc (BitVec.ofNat 32 r.linesSent) (wordOf target))) s) with
        repair.role := .source { r with
          phase := .awaitVerdict, catchupTimer := none, verdictTimer := some s.mgmt.params.holdLimit, closeCycle := cyc
          target := target } } := by
  simp only [sendClose, send_up hid hu, setRelation_eq]

/-- In catch-up a source with nothing left closes with the cycle and the target of the catch-up. -/
theorem closeIfDone_catchup {s : State} {r : SourceRole} (hr : s.repair.role = .source r) (hd : s.repair.r = [])
    (hc : r.captured = none) (hp : r.phase = .catchup) : closeIfDone s = sendClose r r.closeCycle r.target s := by
  simp [closeIfDone, hr, hd, hc, hp]

/-- In PASS in HELD a source with nothing left closes with the committed cycle and S. -/
theorem closeIfDone_held {s : State} {r : SourceRole} (hr : s.repair.role = .source r) (hd : s.repair.r = [])
    (hc : r.captured = none) (hp : r.phase = .pass) (hs : s.csr.state = .held) :
    closeIfDone s = sendClose r s.csr.committed s.sig.s s := by
  simp [closeIfDone, hr, hd, hc, hp, hs]

/-! ### A REQUEST (R157, R158) -/

/-- The role that a source takes. -/
def takenRole (l : LinkId) (x : Identity) (base : Option Cycle) (s : State) : SourceRole :=
  { joiner := x, link := l, base := base, phase := .pass, cycles := 0, linesSent := 0, scan := 0, captured := none
    holdTimer := if (getLink s l).peerHolding = true then some s.mgmt.params.holdLimit else none
    catchupTimer := none, verdictTimer := none, closeCycle := 0, target := 0 }

/-- The source has its role, and ACCEPT has gone out with its record. -/
def roleTaken (l : LinkId) (me x : Identity) (base : Option Cycle) (r : List Nat) (s : State) : State :=
  { sentUp l (ownFrame me (.accept base (BitVec.ofNat 32 r.length))) (setRelation x (some .sourceOf) s) with
    repair.r := r
    repair.role := .source (takenRole l x base s)
    ev := evAfter .repair 1 (.peer x) (wordOf r.length) s }

theorem acceptRequest_eq {l : LinkId} {me x : Identity} {base : Option Cycle} {r : List Nat} {s : State}
    (hid : s.mgmt.params.channelId = some me) (hu : (getLink s l).status = .up) :
    acceptRequest l x base r s = closeIfDone (roleTaken l me x base r s) := by
  refine congrArg closeIfDone ?_
  simp only [setRelation_eq]
  rw [send_up (me := me) (by exact hid) (by cases l <;> exact hu), hand_as_evAfter]
  refine State.ext_ev ?_ (evAfter_of _ _ _ _ _ _ (by simp) (by simp) (by simp) (by simp))
  simp only [roleTaken, setRelation_eq]
  cases l <;> rfl

theorem roleTaken_up {l : LinkId} {me x : Identity} {base : Option Cycle} {r : List Nat} {s : State}
    (hu : (getLink s l).status = .up) : (getLink (roleTaken l me x base r s) l).status = .up := by
  simp only [roleTaken, setRelation_eq]
  cases l <;> exact hu

/-- The cycle before the committed one. -/
theorem eq_sub_one_iff {a b : Cycle} : a = b - 1 ↔ a + 1 = b := by
  constructor <;> rintro rfl <;> simp

/-- Settles O50: a REQUEST is refused, or accepted with its initial map. -/
theorem requestIsRefusedOrAccepted : Obligations.RequestIsRefusedOrAccepted := by
  intro l raw s f base need me acc hf hid heard map
  have run : exec (.requestReceive l raw) s = .next (takeRequest l f.sender base need heard) := by
    refine congrArg Host.Outcome.next ((receiveFrame_accepted acc (by simp [Frame.kind, hf, Payload.kind]) (by decide)).trans ?_)
    simp only [useRequest, hf, heard]
  have hid' : heard.mgmt.params.channelId = some me := by simpa [heard, silenceRestarted] using hid
  have hu' : (getLink heard l).status = .up := silenceRestarted_up acc.1
  have hst : heard.csr = s.csr := by simp [heard, silenceRestarted]
  have hrep : heard.repair = s.repair := by simp [heard, silenceRestarted]
  have told (pl : Payload) : send l pl heard = sentUp l (ownFrame me pl) heard := send_up hid' hu'
  have serves : s.csr.state = .voting ∨ s.csr.state = .held → ¬ (s.csr.state ≠ .voting ∧ s.csr.state ≠ .held) := by
    rintro (h | h) ⟨hv, hh⟩
    · exact hv h
    · exact hh h
  have map_eq : initialMap base heard = map := by
    simp only [initialMap, map, hst, hrep, eq_sub_one_iff]
    cases base with
    | none => simp [heard, silenceRestarted, numVital]
    | some b => rfl
  refine ⟨fun hv hh => ?_, fun h hr => ?_, fun h hr hm => ?_, fun r0 h hr hm => ?_⟩
  · rw [run]
    simp only [takeRequest, hst]
    rw [if_pos ⟨hv, hh⟩, told]
  · rw [run]
    simp only [takeRequest, hst, hrep]
    rw [if_neg (serves h), if_pos hr, told]
  · rw [run]
    simp only [takeRequest, hst, hrep, map_eq, hm]
    rw [if_neg (serves h), if_neg (not_not.mpr hr), told]
  · intro r role accepted
    have numV : numVital heard = numVital s := by simp [heard, silenceRestarted, numVital]
    have taken : exec (.requestReceive l raw) s = .next (closeIfDone (roleTaken l me f.sender base r heard)) := by
      rw [run]
      simp only [takeRequest, hst, hrep, map_eq, hm, numV]
      rw [if_neg (serves h), if_neg (not_not.mpr hr), acceptRequest_eq hid' hu']
      rfl
    have same : roleTaken l me f.sender base r heard = accepted := by
      refine State.ext_ev ?_ (evAfter_of _ _ _ _ _ _ (by simp [hst]) (by simp [hst]) (by simp [heard, silenceRestarted])
        (by simp [heard, silenceRestarted]))
      simp only [roleTaken, takenRole, accepted, role]
      cases l <;> rfl
    rw [taken, same]
    have state_eq : accepted.csr = s.csr := by simp [accepted, hst]
    have sig_eq : accepted.sig = s.sig := by simp [accepted, heard, silenceRestarted]
    have mgmt_eq : accepted.mgmt = s.mgmt := by simp [accepted, heard, silenceRestarted]
    refine ⟨fun hw => ?_, fun hh he => ?_⟩
    · rw [closeIfDone_waits (s := accepted) (r := role) rfl]
      rw [state_eq]
      rcases hw with hv | hne
      · exact .inr (.inr (.inr ⟨rfl, by rw [hv]; decide⟩))
      · exact .inl hne
    · rw [closeIfDone_held (s := accepted) (r := role) rfl he rfl rfl (by rw [state_eq]; exact hh),
        sendClose_up (me := me) (by simpa [accepted] using hid') (by rw [← same]; exact roleTaken_up hu')]
      simp only [state_eq, sig_eq, mgmt_eq]
      rfl

/-! ### The ends of a source role (R169, R170) -/

/-- A source role has ended from a state, with its record. -/
def sourceEnded (r : SourceRole) (detail : Nat) (s : State) : State :=
  { setRelation r.joiner none s with
    repair.role := .none, repair.r := [], ev := evAfter .repair detail (.peer r.joiner) (wordOf r.linesSent) s }

theorem sourceEnded_of (r : SourceRole) (d : Nat) (s : State) :
    hand .repair d (.peer r.joiner) (wordOf r.linesSent) (endSource r s) = sourceEnded r d s := by
  rw [hand_as_evAfter]
  refine State.ext_ev ?_ (evAfter_of _ _ _ _ _ _ (by simp) (by simp) (by simp) (by simp))
  simp only [endSource, sourceEnded, setRelation_eq]

/-- A source role that is aborted with no word to its joiner. -/
theorem abortSource_silent {s : State} {r : SourceRole} (why : AbortReason) (hr : s.repair.role = .source r) :
    abortSource why false s = sourceEnded r (3 + why.code) s := by
  simp only [abortSource, hr, Bool.false_eq_true, if_false]
  exact sourceEnded_of r _ s

/-- A source role that is aborted with ABORT to its joiner, whose link is UP. -/
theorem abortSource_told {s : State} {r : SourceRole} {me : Identity} (why : AbortReason) (hr : s.repair.role = .source r)
    (hid : s.mgmt.params.channelId = some me) (hu : (getLink s r.link).status = .up) :
    abortSource why true s = sourceEnded r (3 + why.code) (sentUp r.link (ownFrame me (.abort why)) s) := by
  simp only [abortSource, hr, if_true, send_up hid hu]
  exact sourceEnded_of r _ _

/-- A source in HELD returns to VOTING after a MATCH (R105). -/
theorem servedReturn_held {s : State} (h : s.csr.state = .held) (hc : s.csr.counter = s.csr.committed) : servedReturn s =
    let voting : State := { s with
      csr := { s.csr with state := .voting, stateInv := ~~~ (5 : BitVec 8), counterInv := ~~~ s.csr.committed } }
    { voting with ev := evAfter .stateChange 10 (.channelState .held) (wordOf s.csr.committed.toNat) voting } := by
  rw [servedReturn, if_pos h, changeState_eq]
  refine State.ext_ev ?_ (by simp [setCounter, hc, h, setState]; rfl)
  simp [setCounter, hc, h]
  rfl

/-- Settles O53: a source role ends at VERDICT, ABORT or the expiry of its timers. -/
theorem sourceRoleEnds : Obligations.SourceRoleEnds := by
  intro l raw s f r hr ended
  have hr' : (silenceRestarted l s).repair.role = .source r := by simpa [silenceRestarted] using hr
  have heardEnded (d : Nat) : sourceEnded r d (silenceRestarted l s) = ended (silenceRestarted l s) d := by
    refine State.ext_ev ?_ (evAfter_of _ _ _ _ _ _ ?_ ?_ ?_ ?_) <;> simp [sourceEnded, ended, silenceRestarted]
  have verdict (acc : accepts l raw f s) {v : Verdict} (hf : f.payload = .verdict v) :
      exec (.verdictReceive l raw) s = .next (takeVerdict f.sender v (silenceRestarted l s)) := by
    refine congrArg Host.Outcome.next ((receiveFrame_accepted acc (by simp [Frame.kind, hf, Payload.kind]) (by decide)).trans ?_)
    simp only [useVerdict, hf]
  refine ⟨fun acc hs hp v hf => ?_, fun acc v hf hn => ?_, fun acc hg hs why hf => ?_, fun me hid hu => ?_⟩
  · have run : exec (.verdictReceive l raw) s = .next (
        if v = .matched then servedReturn (ended (silenceRestarted l s) (repairVerdict v))
        else ended (silenceRestarted l s) (repairVerdict v)) := by
      rw [verdict acc hf]
      simp only [takeVerdict, hr', hs, hp, and_self, if_true, sourceEnded_of, heardEnded]
    rw [run]
    refine ⟨fun h => ?_, fun hh hv hc => ?_⟩
    · cases v with
      | matched =>
        have hs : s.csr.state ≠ .held := h.resolve_right (by decide)
        rw [if_pos rfl, servedReturn, if_neg (by simpa [ended, silenceRestarted] using hs)]
        rfl
      | mismatch => rfl
    · subst hv
      rw [if_pos rfl]
      refine ⟨_, rfl, ?_⟩
      have hcsr (d : Nat) : (ended (silenceRestarted l s) d).csr = s.csr := by simp [ended, silenceRestarted]
      rw [servedReturn_held (by rw [hcsr]; exact hh) (by rw [hcsr]; exact hc)]
      simp only [repairVerdict, hcsr]
  · rw [verdict acc hf]
    simp only [takeVerdict, hr']
    rw [if_neg (by rintro ⟨hp, hs⟩; exact hn.elim (absurd hs.symm) (absurd hp))]
  · have run : receiveFrame l .abort raw useAbort s = ended (silenceRestarted l s) (3 + why.code) := by
      rw [receiveFrame_accepted acc (by simp [Frame.kind, hf, Payload.kind]) (by decide)]
      simp only [useAbort, hf, takeAbort, hr', hs, if_true, abortSource_silent why hr', heardEnded]
    show Host.Outcome.next (settle (during _ s)) = _
    rw [during_none _ _ hg, run]
  · intro told
    have aborts : abortSource .stalled true s = told := by
      rw [abortSource_told .stalled hr hid hu]
      refine State.ext_ev ?_ (evAfter_of _ _ _ _ _ _ ?_ ?_ ?_ ?_) <;> simp [sourceEnded, told, ended]
    refine ⟨fun ht hg => ?_, fun ht hg => ?_, fun ht => ?_⟩
    · show Host.Outcome.next (settle (during _ s)) = _
      rw [during_none _ _ hg]
      simp only [holdExpiry, hr, ht, ne_eq, not_false_eq_true, if_true, aborts]
    · show Host.Outcome.next (settle (during _ s)) = _
      rw [during_none _ _ hg]
      simp only [catchupExpiry, hr, ht, ne_eq, not_false_eq_true, if_true, aborts]
    · show Host.Outcome.next (verdictExpiry s) = _
      simp only [verdictExpiry, hr, ht, ne_eq, not_false_eq_true, if_true, aborts]

end Sys2Proof.Machine
end

section
/-! The receive buffer and the source's flow control (R147, R148, R161, R165, R167). -/

namespace Sys2Proof.Machine
-- One proof after the other: side by side they pass the memory that the check allows.
set_option Elab.async false

/-! ### Changes of a link -/

theorem updLink_updLink (l : LinkId) (f g : Link → Link) (s : State) :
    updLink l f (updLink l g s) = updLink l (fun k => f (g k)) s := by
  cases l <;> rfl

/-- A change that leaves the link as it is leaves the state. -/
theorem updLink_same {l : LinkId} {f : Link → Link} {s : State} (h : f (getLink s l) = getLink s l) : updLink l f s = s := by
  cases l
  · exact State.ext_parts rfl rfl rfl rfl rfl rfl rfl rfl rfl rfl rfl rfl h rfl rfl rfl rfl rfl
  · exact State.ext_parts rfl rfl rfl rfl rfl rfl rfl rfl rfl rfl rfl rfl rfl h rfl rfl rfl rfl

theorem updLink_cleared {l : LinkId} {s : State} (h : (getLink s l).buffer = []) :
    updLink l (fun k => { k with buffer := [] }) s = s := updLink_same (by rw [← h])

/-- Two changes of a link that come to the same. -/
theorem updLink_congr {l : LinkId} {f g : Link → Link} {s : State} (h : f (getLink s l) = g (getLink s l)) :
    updLink l f s = updLink l g s := by
  cases l
  · exact State.ext_parts rfl rfl rfl rfl rfl rfl rfl rfl rfl rfl rfl rfl h rfl rfl rfl rfl rfl
  · exact State.ext_parts rfl rfl rfl rfl rfl rfl rfl rfl rfl rfl rfl rfl rfl h rfl rfl rfl rfl

/-- A change of a link that does not look at the beat timer commutes with a frame sent. -/
theorem sentUp_updLink {l : LinkId} {f : Link → Link} {fr : Frame} {s : State}
    (h : ∀ k b, f { k with beatTimer := b } = { f k with beatTimer := b }) :
    sentUp l fr (updLink l f s) = updLink l f (sentUp l fr s) := by
  cases l
  · exact State.ext_parts rfl rfl rfl rfl rfl rfl rfl rfl rfl rfl rfl rfl (h _ _).symm rfl rfl rfl rfl rfl
  · exact State.ext_parts rfl rfl rfl rfl rfl rfl rfl rfl rfl rfl rfl rfl rfl (h _ _).symm rfl rfl rfl rfl

/-! ### Frames that leave the buffer (R147, R165) -/

section
variable {l : LinkId} {s : State} {me : Identity}

/-- GO is not sent before the buffer has drained, nor without HOLD. -/
theorem goIfDrained_stays (h : (getLink s l).holdSent = false ∨ 2 ≤ (getLink s l).buffer.length) : goIfDrained l s = s := by
  refine if_neg ?_
  rintro ⟨hd, hh⟩
  rcases h with h | h
  · exact absurd (h.symm.trans hh) (by decide)
  · omega

/-- With HOLD sent and the buffer drained GO goes out. -/
theorem goIfDrained_goes (hid : s.mgmt.params.channelId = some me) (hu : (getLink s l).status = .up)
    (hh : (getLink s l).holdSent = true) (hd : (getLink s l).buffer.length ≤ 1) :
    goIfDrained l s = updLink l (fun k => { k with holdSent := false }) (sentUp l (ownFrame me .go) s) := by
  rw [goIfDrained]
  simp only [hd, hh, and_self, if_true, send_up hid hu]

theorem leaveBuffer_same {rest : List LineFrame} (h : rest.length = (getLink s l).buffer.length) : leaveBuffer l rest s = s :=
  if_neg (by omega)

theorem leaveBuffer_shorter {rest : List LineFrame} (h : rest.length < (getLink s l).buffer.length) :
    leaveBuffer l rest s = goIfDrained l (updLink l (fun k => { k with buffer := rest }) s) := if_pos h

/-- What is left of the buffer of the joiner's link once the frames that no receive-write takes have left its front. -/
def keptLines (l : LinkId) (s : State) : List LineFrame :=
  (getLink s l).buffer.dropWhile (fun f => decide (numVital s ≤ f.ordinal) || f.late)

theorem dropLines_receiving (h : receivingLink s = some l) : dropLines l s = leaveBuffer l (keptLines l s) s := if_pos h

theorem dropLines_other (h : receivingLink s ≠ some l) : dropLines l s = leaveBuffer l [] s := if_neg h

/-- Nothing is dropped from the front while the first frame is one that a receive-write takes. -/
theorem dropWhile_kept {v : Nat} {b : List LineFrame} (h : ∀ x ∈ b.head?, x.ordinal < v ∧ x.late = false) :
    b.dropWhile (fun f => decide (v ≤ f.ordinal) || f.late) = b := by
  cases b with
  | nil => rfl
  | cons x b =>
    obtain ⟨ho, hl⟩ := h x rfl
    rw [List.dropWhile_cons, if_neg]
    rw [hl, Bool.or_false, decide_eq_true_eq]
    omega

theorem dropLines_kept (h : receivingLink s = some l)
    (hb : ∀ x ∈ (getLink s l).buffer.head?, x.ordinal < numVital s ∧ x.late = false) : dropLines l s = s := by
  rw [dropLines_receiving h, leaveBuffer_same]
  rw [keptLines, dropWhile_kept hb]

/-! ### HOLD (R147) -/

theorem holdIfFull_stays (h : (getLink s l).buffer.length < 3 ∨ (getLink s l).holdSent = true) : holdIfFull l s = s := by
  refine if_neg ?_
  rintro ⟨hd, hh⟩
  rcases h with h | h
  · omega
  · exact absurd (h.symm.trans hh) (by decide)

theorem holdIfFull_holds (hid : s.mgmt.params.channelId = some me) (hu : (getLink s l).status = .up)
    (hb : 3 ≤ (getLink s l).buffer.length) (hh : (getLink s l).holdSent = false) :
    holdIfFull l s = updLink l (fun k => { k with holdSent := true }) (sentUp l (ownFrame me .hold) s) := by
  rw [holdIfFull, if_pos ⟨hb, hh⟩, send_up hid hu]

/-- A frame that joins the buffer of the joiner's link, behind or as one that a receive-write takes, stays there, with HOLD at
three frames. -/
theorem joinsBuffer {b : List LineFrame} (hid : s.mgmt.params.channelId = some me) (hu : (getLink s l).status = .up)
    (hr : receivingLink s = some l) (hb : ∀ x ∈ b.head?, x.ordinal < numVital s ∧ x.late = false) :
    (b.length < 3 ∨ (getLink s l).holdSent = true →
      dropLines l (holdIfFull l (updLink l (fun k => { k with buffer := b }) s)) =
        updLink l (fun k => { k with buffer := b }) s) ∧
    (3 ≤ b.length → (getLink s l).holdSent = false →
      dropLines l (holdIfFull l (updLink l (fun k => { k with buffer := b }) s)) =
        updLink l (fun k => { k with buffer := b, holdSent := true }) (sentUp l (ownFrame me .hold) s)) := by
  have receiving : receivingLink (updLink l (fun k => { k with buffer := b }) s) = some l := by
    simpa [receivingLink] using hr
  have v : numVital (updLink l (fun k => { k with buffer := b }) s) = numVital s := by simp [numVital]
  refine ⟨fun h => ?_, fun h hh => ?_⟩
  · rw [holdIfFull_stays (by simpa using h), dropLines_kept receiving (by simpa [v] using hb)]
  · rw [holdIfFull_holds (me := me) (by simpa using hid) (by simpa using hu) (by simpa using h) (by simpa using hh)]
    have all : updLink l (fun k => { k with holdSent := true })
        (sentUp l (ownFrame me .hold) (updLink l (fun k => { k with buffer := b }) s)) =
        updLink l (fun k => { k with buffer := b, holdSent := true }) (sentUp l (ownFrame me .hold) s) := by
      cases l <;> rfl
    rw [all, dropLines_kept]
    · simpa [receivingLink] using hr
    · simpa [numVital] using hb

end

/-! ### A LINE at the joiner (R147, R165, R167) -/

section
variable {l : LinkId} {raw : List Byte} {s : State} {f : Frame} {o : BitVec 32} {ws : List Word}

theorem exec_lineReceive (acc : accepts l raw f s) (hf : f.payload = .line o ws) : exec (.lineReceive l raw) s =
    .next (takeLine l { ordinal := o.toNat, words := ws } (silenceRestarted l s)) := by
  refine congrArg Host.Outcome.next ((receiveFrame_accepted acc (by simp [Frame.kind, hf, Payload.kind]) (by decide)).trans ?_)
  simp only [useLine, hf]

@[simp] theorem silenceRestarted_buffer : (getLink (silenceRestarted l s) l).buffer = (getLink s l).buffer := by
  simp [silenceRestarted]

@[simp] theorem silenceRestarted_holdSent : (getLink (silenceRestarted l s) l).holdSent = (getLink s l).holdSent := by
  simp [silenceRestarted]

@[simp] theorem silenceRestarted_peerHolding : (getLink (silenceRestarted l s) l).peerHolding = (getLink s l).peerHolding := by
  simp [silenceRestarted]

@[simp] theorem silenceRestarted_keeps : (silenceRestarted l s).mem = s.mem ∧ (silenceRestarted l s).csr = s.csr ∧
    (silenceRestarted l s).port = s.port ∧ (silenceRestarted l s).arb = s.arb ∧
    (silenceRestarted l s).regions = s.regions ∧ (silenceRestarted l s).counters = s.counters ∧
    (silenceRestarted l s).scrub = s.scrub ∧ (silenceRestarted l s).spare = s.spare ∧ (silenceRestarted l s).sig = s.sig ∧
    (silenceRestarted l s).jnl = s.jnl ∧ (silenceRestarted l s).vote = s.vote ∧ (silenceRestarted l s).repair = s.repair ∧
    (silenceRestarted l s).mgmt = s.mgmt ∧ (silenceRestarted l s).ev = s.ev ∧ (silenceRestarted l s).out = s.out ∧
    (silenceRestarted l s).pending = s.pending := updLink_keeps l _ s

/-- A LINE of a joiner in RECEIVING restarts its timer. -/
theorem restartReceiveTimer_receiving {j : JoinerRole} (hr : s.repair.role = .joiner j) (hp : j.phase = .receiving)
    (hl : j.link = some l) : restartReceiveTimer l s =
      { s with repair.role := .joiner { j with receiveTimer := some s.mgmt.params.rejoinRetry } } := by
  simp [restartReceiveTimer, hr, hp, hl]

theorem restartReceiveTimer_other (h : ∀ j, s.repair.role = .joiner j → j.phase ≠ .receiving ∨ j.link ≠ some l) :
    restartReceiveTimer l s = s := by
  unfold restartReceiveTimer
  split
  · rename_i j hr
    refine if_neg fun ⟨hp, hl⟩ => ?_
    rcases h j hr with h | h
    · exact h hp
    · exact h hl
  · rfl

/-- With four frames held a LINE is lost and counted. -/
theorem takeLine_full {f : LineFrame} (h : 4 ≤ (getLink s l).buffer.length) : takeLine l f s =
    updLink l (fun k => { k with discards := satSucc k.discards }) (restartReceiveTimer l s) := if_pos h

theorem takeLine_room {f : LineFrame} (h : (getLink s l).buffer.length < 4) : takeLine l f s =
    dropLines l (holdIfFull l (updLink l (fun k => { k with
      buffer := k.buffer ++ [{ f with late := lineTooLate l s }] }) (restartReceiveTimer l s))) := if_neg (Nat.not_le.mpr h)

/-- The frame that joins the end of the buffer. -/
theorem appended_eq (x : LineFrame) {t : State} (h : (getLink t l).buffer = (getLink s l).buffer) :
    updLink l (fun k => { k with buffer := k.buffer ++ [x] }) t =
      updLink l (fun k => { k with buffer := (getLink s l).buffer ++ [x] }) t :=
  updLink_congr (by simp only [h])

end

/-- A late frame that heads the buffer is dropped, with GO where HOLD was sent (log entry 21). -/
theorem dropLines_late {l : LinkId} {x : LineFrame} {s : State} (hr : receivingLink s = some l) (hl : x.late = true)
    (hb : (getLink s l).buffer = []) : dropLines l (updLink l (fun k => { k with buffer := [x] }) s) = goIfDrained l s := by
  have receiving : receivingLink (updLink l (fun k => { k with buffer := [x] }) s) = some l := by
    simpa [receivingLink] using hr
  have kept : keptLines l (updLink l (fun k => { k with buffer := [x] }) s) = [] := by simp [keptLines, hl]
  rw [dropLines_receiving receiving, kept, leaveBuffer_shorter (by simp), updLink_updLink, updLink_cleared hb]

/-- Settles O52: the receive buffer holds and releases. -/
theorem receiveBufferHoldsAndReleases : Obligations.ReceiveBufferHoldsAndReleases := by
  refine ⟨?_, ?_, ?_, ?_, ?_⟩
  · intro l raw s f o ws j me acc hf hid hr hp hl timed b
    have timer : restartReceiveTimer l (silenceRestarted l s) = timed :=
      (restartReceiveTimer_receiving (s := silenceRestarted l s) (by simpa using hr) hp hl).trans (by simp [timed])
    have buffer : (getLink timed l).buffer = (getLink s l).buffer := by
      cases l <;> rfl
    have onTime : lineTooLate l (silenceRestarted l s) = false := by simp [lineTooLate, hr, hp]
    rw [exec_lineReceive acc hf]
    refine ⟨fun h => ?_, fun h hb => ?_⟩
    · rw [takeLine_full (by simpa using h), timer]
    · rw [takeLine_room (by simpa using h), onTime, timer, appended_eq _ buffer]
      obtain ⟨low, high⟩ := joinsBuffer (l := l) (s := timed) (me := me) (b := b) (by simpa [timed] using hid)
        (by have := silenceRestarted_up acc.1; cases l <;> exact this) (by simp [timed, receivingLink, JoinerRole.receiving, hp, hl])
        (fun x hx => by simpa [numVital, timed] using hb x (List.mem_of_mem_head? hx))
      have hold : (getLink timed l).holdSent = (getLink s l).holdSent := by cases l <;> rfl
      rw [hold] at low high
      exact ⟨fun h => congrArg _ (low h), fun h hh => congrArg _ (high h hh)⟩
  · intro l raw s f o ws j me acc hf hid hr hp hl hb heard b
    have timer : restartReceiveTimer l heard = heard :=
      restartReceiveTimer_other fun j' h => .inl (by
        obtain rfl : j = j' := by simpa [heard, hr] using h
        rw [hp]
        decide)
    have late : lineTooLate l heard = true := by simp [lineTooLate, heard, hr, hp, hl]
    have receiving : receivingLink heard = some l := by simp [heard, receivingLink, JoinerRole.receiving, hr, hp, hl]
    have buffer : (getLink heard l).buffer = (getLink s l).buffer := by simp [heard]
    have hold : (getLink heard l).holdSent = (getLink s l).holdSent := by simp [heard]
    have up : (getLink heard l).status = .up := silenceRestarted_up acc.1
    have hid' : heard.mgmt.params.channelId = some me := by simpa [heard] using hid
    rw [exec_lineReceive acc hf]
    have alone (he : (getLink s l).buffer = []) :
        takeLine l { ordinal := o.toNat, words := ws } heard = goIfDrained l heard := by
      rw [takeLine_room (by simp [buffer, he]), timer, late, appended_eq _ buffer, he]
      rw [holdIfFull_stays (by simp)]
      exact dropLines_late receiving rfl (buffer.trans he)
    refine ⟨fun h => ?_, fun he hh => ?_, fun he hh => ?_, fun hne h => ?_⟩
    · rw [takeLine_full (by rw [buffer]; exact h), timer]
    · rw [alone he, goIfDrained_stays (.inl (hold.trans hh))]
    · rw [alone he, goIfDrained_goes hid' up (hold.trans hh) (by simp [buffer, he])]
    · rw [takeLine_room (by rw [buffer]; exact h), timer, late, appended_eq _ buffer]
      obtain ⟨low, high⟩ := joinsBuffer (l := l) (s := heard) (me := me) (b := b) hid' up receiving (fun x hx => by
        obtain ⟨y, rest, hy⟩ := List.exists_cons_of_ne_nil hne
        simp only [b, hy, List.cons_append, List.head?_cons, Option.mem_def, Option.some.injEq] at hx
        simpa [numVital, heard] using hb x (by simp [hy, hx]))
      rw [hold] at low high
      exact ⟨fun h => congrArg _ (low h), fun h hh => congrArg _ (high h hh)⟩
  · intro l raw s f o ws acc hf hr hb hh
    have buffer : (getLink (silenceRestarted l s) l).buffer = (getLink s l).buffer := by simp
    have timer : restartReceiveTimer l (silenceRestarted l s) = silenceRestarted l s :=
      restartReceiveTimer_other fun j h => by
        by_contra hn
        rw [not_or, not_not, not_not] at hn
        have h : s.repair.role = .joiner j := by simpa using h
        exact hr (by simp [receivingLink, JoinerRole.receiving, h, hn.1, hn.2])
    rw [exec_lineReceive acc hf, takeLine_room (by simp [hb]), timer, appended_eq _ buffer, hb, holdIfFull_stays (by simp),
      dropLines_other (by simpa [receivingLink] using hr), leaveBuffer_shorter (by simp), updLink_updLink,
      updLink_cleared (buffer.trans hb)]
    rw [goIfDrained_stays (.inl (by simpa using hh))]
  · intro l raw s f r acc hr hl hp hc
    have holds {x : Bool} (hx : (getLink s l).peerHolding = x) : (getLink (silenceRestarted l s) l).peerHolding = x := by
      simpa using hx
    have hr' : (silenceRestarted l s).repair.role = .source r := by simpa using hr
    refine ⟨fun hf hh => ?_, fun hf hh => ?_, fun hf hh => ?_⟩
    · refine congrArg Host.Outcome.next
        ((receiveFrame_accepted acc (by simp [Frame.kind, hf, Payload.kind]) (by decide)).trans ?_)
      simp only [takeHold, holds hh, hr', hl, hp, ne_eq, not_false_eq_true, and_self, if_true, Bool.false_eq_true, if_false]
      simp
    · refine congrArg Host.Outcome.next
        ((receiveFrame_accepted acc (by simp [Frame.kind, hf, Payload.kind]) (by decide)).trans ?_)
      simp only [takeHold, holds hh, if_true]
    · refine congrArg (fun t => Host.Outcome.next (settle t))
        ((receiveFrame_accepted acc (by simp [Frame.kind, hf, Payload.kind]) (by decide)).trans ?_)
      simp only [takeGo, holds hh, hr', hl, hc, if_true]
  · intro l raw s f r c me acc hf hid hr hl hc hp hh sent cycle target going gone
    subst hl
    have holds : (getLink (silenceRestarted r.link s) r.link).peerHolding = true := by simpa using hh
    have hr' : (silenceRestarted r.link s).repair.role = .source r := by simpa using hr
    have run : exec (.goReceive r.link raw) s = .next (settle (closeIfDone { going with repair.role := .source gone })) := by
      refine congrArg (fun t => Host.Outcome.next (settle t))
        ((receiveFrame_accepted acc (by simp [Frame.kind, hf, Payload.kind]) (by decide)).trans ?_)
      simp only [takeGo, holds, hr', hc, if_true, sendLine]
      rw [send_up (me := me) (by simpa using hid) (by simpa using silenceRestarted_up acc.1)] <;> rfl
    have maps : going.repair = s.repair := by simp [going]
    have csr : going.csr = s.csr := by simp [going]
    rw [run]
    refine ⟨fun h => ?_, fun he h => ?_⟩
    · rw [closeIfDone_waits (s := { going with repair.role := .source gone }) (r := gone) rfl]
      rcases h with h | ⟨hp, hs⟩
      · exact .inl (by rw [← maps] at h; exact h)
      · exact .inr (.inr (.inr ⟨hp, by rw [← csr] at hs; exact hs⟩))
    · have up : (getLink { going with repair.role := .source gone } r.link).status = .up := by
        have : (getLink going r.link).status = .up := by simpa [going] using silenceRestarted_up acc.1
        cases hk : r.link <;> rw [hk] at this <;> exact this
      have hid' : going.mgmt.params.channelId = some me := by simpa [going] using hid
      have empty : going.repair.r = [] := by rw [maps]; exact he
      have ends (cyc : Cycle) (tg : Nat) : sendClose gone cyc tg { going with repair.role := .source gone } =
          { setRelation r.joiner (some .joining)
              (sentUp r.link (ownFrame me (.close cyc (BitVec.ofNat 32 sent) (wordOf tg))) going) with
            repair.role := .source { gone with
              phase := .awaitVerdict, catchupTimer := none, verdictTimer := some s.mgmt.params.holdLimit, closeCycle := cyc
              target := tg } } := by
        rw [sendClose_up (s := { going with repair.role := .source gone }) (r := gone) (me := me) hid' up]
        simp only [setRelation_eq]
        have params : going.mgmt = s.mgmt := by simp [going]
        rw [← params]
        cases hk : r.link <;> simp only [gone, hk] <;> rfl
      cases hph : r.phase with
      | catchup =>
        rw [closeIfDone_catchup (s := { going with repair.role := .source gone }) (r := gone) rfl empty rfl hph, ends]
        simp only [cycle, target, hph, if_true]
        rfl
      | pass =>
        have held : s.csr.state = .held := h.resolve_left (by rw [hph]; decide)
        rw [closeIfDone_held (s := { going with repair.role := .source gone }) (r := gone) rfl empty rfl hph (by rw [← csr] at held; exact held), ends]
        have sig : going.sig = s.sig := by simp [going]
        simp only [cycle, target, hph, csr, sig, reduceCtorEq, if_false]
      | awaitVerdict => exact absurd hph hp

end Sys2Proof.Machine
end

section
/-! BEAT and SIGN (R118 to R122, R124): reports, the forwarded SIGN, and its use by its distance. -/

namespace Sys2Proof.Machine
-- One proof after the other: side by side they pass the memory that the check allows.
set_option Elab.async false

/-! ### Reports and the watch (R118, R131) -/

theorem updPeer_at {x : Identity} {second : Bool} {s : State} (f : Peer → Peer) (h : peerSlot s x = some second) :
    updPeer x f s = { s with
      vote := if second then { s.vote with peer1 := f s.vote.peer1 } else { s.vote with peer0 := f s.vote.peer0 } } := by
  rw [updPeer, h]
  cases second <;> rfl

theorem heldWatch_away {s : State} (h : s.csr.state ≠ .held) : heldWatch s = s := if_neg fun hn => h hn.1

/-- The reported cycle of a peer lies ahead of the committed one. -/
def aheadOf (s : State) (x : Peer) : Prop := x.state = some .voting ∧
  1 ≤ (x.committed - s.csr.committed).toNat ∧ (x.committed - s.csr.committed).toNat < 2 ^ 31

theorem isAhead_iff (a b : Cycle) : isAhead a b = true ↔ 1 ≤ (a - b).toNat ∧ (a - b).toNat < 2 ^ 31 := by
  rw [isAhead, decide_eq_true_eq, aheadBy]
  omega

/-- The watch acts just when both peers are so ahead. -/
theorem heldWatch_stays {s : State} (h : ¬ (s.csr.state = .held ∧ aheadOf s s.vote.peer0 ∧ aheadOf s s.vote.peer1)) :
    heldWatch s = s := by
  refine if_neg ?_
  simp only [Bool.and_eq_true, decide_eq_true_eq, isAhead_iff]
  exact h

@[simp] theorem reported_keeps (x : Identity) (st : Option ChannelState) (k n : Cycle) (s : State) :
    (reported x st k n s).mem = s.mem ∧ (reported x st k n s).csr = s.csr ∧ (reported x st k n s).port = s.port ∧
    (reported x st k n s).arb = s.arb ∧ (reported x st k n s).regions = s.regions ∧
    (reported x st k n s).counters = s.counters ∧ (reported x st k n s).scrub = s.scrub ∧
    (reported x st k n s).spare = s.spare ∧ (reported x st k n s).sig = s.sig ∧ (reported x st k n s).jnl = s.jnl ∧
    (reported x st k n s).vote.record = s.vote.record ∧ (reported x st k n s).vote.skewReported = s.vote.skewReported ∧
    (reported x st k n s).link1 = s.link1 ∧ (reported x st k n s).link2 = s.link2 ∧
    (reported x st k n s).repair = s.repair ∧ (reported x st k n s).mgmt = s.mgmt ∧ (reported x st k n s).ev = s.ev ∧
    (reported x st k n s).out = s.out ∧ (reported x st k n s).pending = s.pending := updPeer_keeps x _ s

theorem updateReport_eq (x : Identity) (st : Option ChannelState) (k n : Cycle) (s : State) :
    updateReport x st k n s = heldWatch (reported x st k n s) := rfl

/-- Outside HELD a report is only that. -/
theorem updateReport_away {x : Identity} {st : Option ChannelState} {k n : Cycle} {s : State} (h : s.csr.state ≠ .held) :
    updateReport x st k n s = reported x st k n s := heldWatch_away (by simpa using h)

/-! ### A SIGN on its way (R119) -/

/-- The state behind a direct SIGN that has gone on over the other link. -/
def signPassed (l : LinkId) (me : Identity) (f : Frame) (s : State) : State :=
  if f.relayed = false ∧ (getLink s (otherLink l)).status = .up then
    sentUp (otherLink l) { f with relayed := true, sender := me } s
  else s

theorem forwardSign_eq {l : LinkId} {me : Identity} {f : Frame} {s : State} (hid : s.mgmt.params.channelId = some me)
    (hk : f.kind = .sign) : forwardSign l f s = signPassed l me f s := by
  have hk' : Frame.kind { f with relayed := true, sender := me } ≠ .hail := by
    rw [show Frame.kind { f with relayed := true, sender := me } = f.kind from rfl, hk]
    decide
  simp only [forwardSign, hid, signPassed]
  cases f.relayed with
  | true => simp
  | false =>
    by_cases hu : (getLink s (otherLink l)).status = .up
    · simp [hu, sendFrame_up hu]
    · simp only [sendFrame, hu, Bool.false_eq_true, if_false, and_false]
      cases hs : (getLink s (otherLink l)).status <;> simp_all

@[simp] theorem signPassed_keeps (l : LinkId) (me : Identity) (f : Frame) (s : State) :
    (signPassed l me f s).csr = s.csr ∧ (signPassed l me f s).port = s.port ∧ (signPassed l me f s).arb = s.arb ∧
    (signPassed l me f s).regions = s.regions ∧ (signPassed l me f s).sig = s.sig ∧ (signPassed l me f s).jnl = s.jnl ∧
    (signPassed l me f s).vote = s.vote ∧ (signPassed l me f s).repair = s.repair ∧
    (signPassed l me f s).mgmt = s.mgmt ∧ (signPassed l me f s).ev = s.ev := by
  unfold signPassed
  split <;> simp

/-! ### A SIGN by its distance (R120 to R122) -/

theorem signed_iff (st : ChannelState) : st.signed = true ↔ st = .sealed ∨ st = .voting ∨ st = .held := by
  cases st <;> simp [ChannelState.signed]

section
variable {x : Identity} {m : Cycle} {sg : Nat} {how : Arrival} {s : State}

theorem useSign_unsigned (h : ¬ (s.csr.state = .sealed ∨ s.csr.state = .voting ∨ s.csr.state = .held) ∨ s.jnl.rb.rolling = true) :
    useSign x m sg how s = s := by
  rw [← signed_iff] at h
  refine if_neg ?_
  rcases h with h | h <;> simp [rolling, h]

/-- A SIGN that is used is used by its distance (Table 7-2). -/
theorem useSign_signed (h : s.csr.state = .sealed ∨ s.csr.state = .voting ∨ s.csr.state = .held)
    (hr : s.jnl.rb.rolling = false) : useSign x m sg how s =
      let d := (m - s.csr.counter).toNat
      if d = 0 then (if s.vote.record.isOpen then storeArrival x sg how s else s)
      else if d = 1 then parkSign x { cycle := m, signature := sg, arrival := how } s
      else if d ≤ 2147483647 then reportSkew x m how s
      else s := if_pos (by simp [signed_iff, rolling, h, hr])

/-- A vote that still misses an expected SIGN goes on. -/
theorem resolveIfComplete_waits (h : s.vote.record.complete = false) : resolveIfComplete s = s :=
  if_neg (by simp [h])

end

/-- Settles O49: BEAT and SIGN are reports, and a SIGN is used by its distance. -/
theorem beatAndSignAreUsedByTheVoteUnit : Obligations.BeatAndSignAreUsedByTheVoteUnit := by
  have calm (l : LinkId) (x : Identity) (st : Option ChannelState) (k n : Cycle) (s : State) :
      disturbs s (reported x st k n (silenceRestarted l s)) = false := disturbs_of_kept (by simp) (by simp) (by simp)
  have runs {l : LinkId} {raw : List Byte} {s u : State} {f : Frame} (acc : accepts l raw f s) (hk : f.kind = .sign)
      (h : useSignFrame l f (silenceRestarted l s) = u) (hd : s.arb.grant = none ∨ disturbs s u = false) :
      exec (.signReceive l raw) s = .next (settle u) := by
    refine congrArg (fun t => Host.Outcome.next (settle t)) ?_
    have event : receiveFrame l .sign raw (useSignFrame l) s = u := (receiveFrame_accepted acc hk (by decide)).trans h
    rcases hd with hg | hd
    · rw [during_none _ _ hg, event]
    · rw [during_undisturbed _ _ (by rw [event]; exact hd), event]
  have used {l : LinkId} {s : State} {f : Frame} {m n : Cycle} {st : Option ChannelState} {sg : Word} {me : Identity}
      {second : Bool} (hf : f.payload = .sign m n st sg) (hid : s.mgmt.params.channelId = some me)
      (hp : peerSlot s f.originator = some second)
      (hw : heldWatch (reported f.originator st m n (silenceRestarted l s)) = reported f.originator st m n (silenceRestarted l s)) :
      useSignFrame l f (silenceRestarted l s) = useSign f.originator m sg.toNat (if f.relayed then .relayed else .direct)
        (signPassed l me f (reported f.originator st m n (silenceRestarted l s))) := by
    have hp' : peerSlot (silenceRestarted l s) f.originator = some second := by simpa [peerSlot] using hp
    simp only [useSignFrame, hf, hp', updateReport_eq, hw, reduceCtorEq, if_false]
    rw [forwardSign_eq (me := me) (by simpa using hid) (by simp [Frame.kind, hf, Payload.kind])]
  have passed (l : LinkId) (f : Frame) (me : Identity) (m n : Cycle) (st : Option ChannelState) (s : State) :
      (if f.relayed = false ∧ (getLink s (otherLink l)).status = .up then
        sentUp (otherLink l) { f with relayed := true, sender := me } (reported f.originator st m n (silenceRestarted l s))
        else reported f.originator st m n (silenceRestarted l s)) =
      signPassed l me f (reported f.originator st m n (silenceRestarted l s)) := by
    have other : getLink (reported f.originator st m n (silenceRestarted l s)) (otherLink l) = getLink s (otherLink l) := by
      rw [reported, updPeer_eq]
      cases l <;> rfl
    rw [signPassed, other]
  refine ⟨⟨?_, ?_, ?_⟩, ?_⟩
  · intro l raw s f st k n acc hf hs
    have event : receiveFrame l .beat raw useBeat s = reported f.sender st k n (silenceRestarted l s) := by
      rw [receiveFrame_accepted acc (by simp [Frame.kind, hf, Payload.kind]) (by decide)]
      simp only [useBeat, hf]
      exact updateReport_away (by simpa using hs)
    refine congrArg (fun t => Host.Outcome.next (settle t)) ?_
    rw [during_undisturbed _ _ (by rw [event]; exact calm ..), event]
  · intro l raw s f m n st sg me second acc hf hid hp ahead other hw how told s1 d signed slot
    have hk : f.kind = .sign := by simp [Frame.kind, hf, Payload.kind]
    have hs1 : s1 = signPassed l me f told := passed l f me m n st s
    have told_eq : told = { silenceRestarted l s with vote := if second then
        { s.vote with peer1 := { s.vote.peer1 with state := st, counter := m, committed := n } }
        else { s.vote with peer0 := { s.vote.peer0 with state := st, counter := m, committed := n } } } := by
      simp only [told, reported]
      rw [updPeer_at (second := second) _ (by simpa [peerSlot] using hp)]
      simp
    have watch : heldWatch told = told := by
      refine heldWatch_stays ?_
      rintro ⟨hh, h0, h1⟩
      rw [told_eq] at hh h0 h1
      refine hw.elim (fun h => h (by simpa using hh)) fun h => h ?_
      cases second with
      | false =>
        obtain ⟨a1, a2⟩ := h0
        obtain ⟨b1, b2⟩ := h1
        exact ⟨a1, by simpa [ahead] using a2, b1, by simpa [ahead, other] using b2⟩
      | true =>
        obtain ⟨a1, a2⟩ := h0
        obtain ⟨b1, b2⟩ := h1
        exact ⟨b1, by simpa [ahead] using b2, a1, by simpa [ahead, other] using a2⟩
    have csr : s1.csr = s.csr := by simp [hs1, told]
    have jnl : s1.jnl = s.jnl := by simp [hs1, told]
    have record : s1.vote.record = s.vote.record := by simp [hs1, told]
    have slot_eq : peerSlot s1 f.originator = some second := by simpa [peerSlot, hs1, told] using hp
    have step {u : State} (h : useSign f.originator m sg.toNat how s1 = u) (hd : disturbs s1 u = false) :
        exec (.signReceive l raw) s = .next (settle u) := by
      refine runs acc hk ((used hf hid hp watch).trans ?_) (.inr ?_)
      · rw [← hs1]
        exact h
      · rw [← hd]
        simp [disturbs, hs1, told]
    have still : disturbs s1 s1 = false := disturbs_of_kept rfl rfl rfl
    refine ⟨fun h => step (useSign_unsigned (by rw [csr, jnl]; exact h)) still, fun hsig hroll => ?_⟩
    have by_ := useSign_signed (x := f.originator) (m := m) (sg := sg.toNat) (how := how) (s := s1) (by rw [csr]; exact hsig)
      (by rw [jnl]; exact hroll)
    rw [csr] at by_
    have stored (hd : d = 0) (ho : s.vote.record.isOpen = true) :
        useSign f.originator m sg.toNat how s1 = storeArrival f.originator sg.toNat how s1 := by
      rw [by_]
      simp only [show (m - s.csr.counter).toNat = 0 from hd, record, ho, if_true]
    refine ⟨fun hd => ?_, fun h2 h31 hsk => ?_, fun h2 h31 hsk => ?_, fun h => ?_, fun hd ho hx e0 a0 e1 a1 => ?_,
      fun hd ho hx e1 a1 e0 a0 => ?_, fun hd ho hx => ?_⟩
    · refine step (by_.trans ?_) (disturbs_of_kept (by simp) (by simp) (by simp))
      simp only [show (m - s.csr.counter).toNat = 1 from hd, one_ne_zero, if_false, if_true, parkSign]
      rw [updPeer_at _ slot_eq, updPeer_at _ slot_eq]
      have slots : (if second then s1.vote.peer1.slot else s1.vote.peer0.slot) = slot := by
        simp only [hs1, signPassed_keeps, told_eq, slot]
        cases second <;> rfl
      rw [← slots]
      cases second <;> rfl
    · refine step (by_.trans ?_) still
      have h0 : ¬ (m - s.csr.counter).toNat = 0 := fun h => by simp only [d] at h2; omega
      have h1 : ¬ (m - s.csr.counter).toNat = 1 := fun h => by simp only [d] at h2; omega
      simp only [h0, h1, if_false]
      rw [if_pos (by simp only [d] at h31; omega), reportSkew, if_pos (by simpa [hs1, told] using hsk)]
    · refine step (by_.trans ?_) (disturbs_of_kept rfl rfl rfl)
      have h0 : ¬ (m - s.csr.counter).toNat = 0 := fun h => by simp only [d] at h2; omega
      have h1 : ¬ (m - s.csr.counter).toNat = 1 := fun h => by simp only [d] at h2; omega
      simp only [h0, h1, if_false]
      rw [if_pos (by simp only [d] at h31; omega), reportSkew, if_neg (by simp [hs1, told, hsk]), hand_as_evAfter]
      exact State.ext_ev rfl (evAfter_of _ _ _ _ _ _ (by simp [csr]) (by simp [csr]) (by simp [hs1, told]) (by simp [hs1, told]))
    · refine step (by_.trans ?_) still
      rcases h with h | ⟨hd, ho⟩
      · have h0 : ¬ (m - s.csr.counter).toNat = 0 := fun h' => by simp only [d] at h; omega
        have h1 : ¬ (m - s.csr.counter).toNat = 1 := fun h' => by simp only [d] at h; omega
        simp only [h0, h1, if_false]
        rw [if_neg (by simp only [d] at h; omega)]
      · simp [show (m - s.csr.counter).toNat = 0 from hd, record, ho]
    · refine step (stored hd ho |>.trans ?_) (disturbs_of_kept rfl rfl rfl)
      rw [hx] at slot_eq
      simp only [storeArrival, slot_eq, record, e0, a0, decide_true, Bool.and_self, if_true]
      refine resolveIfComplete_waits ?_
      simp [VoteRecord.complete, e1, a1]
    · refine step (stored hd ho |>.trans ?_) (disturbs_of_kept rfl rfl rfl)
      rw [hx] at slot_eq
      simp only [storeArrival, slot_eq, record, e1, a1, decide_true, Bool.and_self, if_true]
      refine resolveIfComplete_waits ?_
      simp [VoteRecord.complete, e0, a0]
    · refine step (stored hd ho |>.trans ?_) still
      simp only [storeArrival, slot_eq, record]
      cases second with
      | false => exact if_neg (by rcases hx with hx | hx <;> simp [hx])
      | true => exact if_neg (by rcases hx with hx | hx <;> simp [hx])
  · intro l raw s f m n st sg acc hf hp
    refine runs acc (by simp [Frame.kind, hf, Payload.kind]) ?_ (.inr (disturbs_of_kept (by simp) (by simp) (by simp)))
    have hp' : peerSlot (silenceRestarted l s) f.originator = none := by simpa [peerSlot] using hp
    simp only [useSignFrame, hf, hp', if_true]
  · intro l raw s f m n st sg me second acc hf hid hp hst hroll hg hm ho hwin r how told s1
    have hk : f.kind = .sign := by simp [Frame.kind, hf, Payload.kind]
    have hs1 : s1 = signPassed l me f told := passed l f me m n st s
    have watch : heldWatch told = told := heldWatch_away (by
      rcases hst with h | h <;> simp [told, h])
    have record : s1.vote.record = s.vote.record := by simp [hs1, told]
    have slot_eq : peerSlot s1 f.originator = some second := by simpa [peerSlot, hs1, told] using hp
    have stored : useSignFrame l f (silenceRestarted l s) = storeArrival f.originator sg.toNat how s1 := by
      rw [used hf hid hp watch, ← hs1, useSign_signed (by
        rw [hs1]
        rcases hst with h | h <;> simp [told, h]) (by simpa [hs1, told] using hroll)]
      simp [hm, hs1, told, ho]
      rfl
    have resolves {u : State} (hu : u.vote.record.complete = true) (ho : u.vote.record.isOpen = true)
        (hw : u.vote.record.window ≠ none) (hn : u.arb.grant = none)
        (h : useSignFrame l f (silenceRestarted l s) = resolveIfComplete u) :
        exec (.signReceive l raw) s = exec .voteWindowExpiry u := by
      rw [runs acc hk h (.inl hg)]
      refine congrArg (fun t => Host.Outcome.next (settle t)) ?_
      have isOpen : (u.vote.record.isOpen && u.vote.record.window.isSome) = true := by
        rw [ho, Bool.true_and]
        exact Option.isSome_iff_ne_none.mpr hw
      rw [resolveIfComplete, ho, hu]
      simp only [windowExpiry, resolveOpen, overGrant_none _ _ hn, isOpen, Bool.and_self, if_true]
    refine ⟨fun hx e0 a0 h1 => ?_, fun hx e1 a1 h0 => ?_⟩
    · rw [hx] at slot_eq
      refine resolves ?_ (by simpa [record] using ho) (by simpa [record] using hwin) (by simpa [hs1, told] using hg)
        (stored.trans ?_)
      · rcases h1 with h | h
        · simp [VoteRecord.complete, record, show s.vote.record.expected1 = false from h]
        · simp [VoteRecord.complete, record]
          exact .inr (Option.isSome_iff_ne_none.mpr h)
      · simp only [storeArrival, slot_eq, record, show s.vote.record.expected0 = true from e0,
          show s.vote.record.arrival0 = none from a0, decide_true, Bool.and_self, if_true]
    · rw [hx] at slot_eq
      refine resolves ?_ (by simpa [record] using ho) (by simpa [record] using hwin) (by simpa [hs1, told] using hg)
        (stored.trans ?_)
      · rcases h0 with h | h
        · simp [VoteRecord.complete, record, show s.vote.record.expected0 = false from h]
        · simp [VoteRecord.complete, record]
          exact .inr (Option.isSome_iff_ne_none.mpr h)
      · simp only [storeArrival, slot_eq, record, show s.vote.record.expected1 = true from e1,
          show s.vote.record.arrival1 = none from a1, decide_true, Bool.and_self, if_true]

end Sys2Proof.Machine
end

section
/-! A joiner's return to OUT (R171), as `ReturnedToOut` states it: the buffers dropped, preparation from step 3, the search for a
source (R154 to R156). -/

namespace Sys2Proof.Machine
-- One proof after the other: side by side they pass the memory that the check allows.
set_option Elab.async false

/-! ### What only moves frames -/

/-- From `s` to `t` only the links and what they have sent have changed: every link has its status, and what it has sent goes
on. -/
structure LinksMoved (s t : State) : Prop where
  rest : t = { s with link1 := t.link1, link2 := t.link2, out := t.out }
  answers : t.out.responses = s.out.responses
  status : ∀ l, (getLink t l).status = (getLink s l).status
  told : ∀ l, framesOf s l <+: framesOf t l

namespace LinksMoved
variable {s t u : State}

theorem refl (s : State) : LinksMoved s s := ⟨rfl, rfl, fun _ => rfl, fun _ => List.prefix_refl _⟩

theorem trans (h : LinksMoved s t) (k : LinksMoved t u) : LinksMoved s u where
  rest := by
    have e := k.rest
    rw [h.rest] at e
    exact e
  answers := k.answers.trans h.answers
  status l := (k.status l).trans (h.status l)
  told l := (h.told l).trans (k.told l)

theorem updLink (l : LinkId) {f : Link → Link} (hf : ∀ k, (f k).status = k.status) : LinksMoved s (updLink l f s) where
  rest := by cases l <;> rfl
  answers := by cases l <;> rfl
  status k := by
    cases l <;> cases k
    · exact hf _
    · rfl
    · rfl
    · exact hf _
  told k := by cases l <;> exact List.prefix_refl _

theorem transmit (l : LinkId) (f : Frame) : LinksMoved s (transmit l f s) where
  rest := by cases l <;> rfl
  answers := by cases l <;> rfl
  status k := by cases l <;> cases k <;> rfl
  told k := by
    cases l <;> cases k
    · exact List.prefix_append _ _
    · exact List.prefix_refl _
    · exact List.prefix_refl _
    · exact List.prefix_append _ _

theorem sendFrame (l : LinkId) (f : Frame) : LinksMoved s (sendFrame l f s) := by
  unfold Machine.sendFrame
  split
  · exact (transmit l f).trans (updLink l fun _ => rfl)
  · split
    · exact transmit l f
    · exact refl s
  · split
    · exact transmit l f
    · exact refl s
  · exact refl s
  · exact refl s

theorem send (l : LinkId) (pl : Payload) : LinksMoved s (send l pl s) := by
  unfold Machine.send
  split
  · exact refl s
  · exact sendFrame l _

theorem goIfDrained (l : LinkId) : LinksMoved s (goIfDrained l s) := by
  simp only [Machine.goIfDrained]
  split
  · exact (send l .go).trans (updLink l fun _ => rfl)
  · exact refl s

theorem leaveBuffer (l : LinkId) (rest : List LineFrame) : LinksMoved s (leaveBuffer l rest s) := by
  unfold Machine.leaveBuffer
  split
  · refine (updLink l ?_).trans (goIfDrained l)
    exact fun _ => rfl
  · exact refl s

theorem dropLines (l : LinkId) : LinksMoved s (dropLines l s) := by
  unfold Machine.dropLines
  split <;> exact leaveBuffer l _

theorem settleBuffers : LinksMoved s (settleBuffers s) := (dropLines .link1).trans (dropLines .link2)

theorem sendAbort (l : Option LinkId) (why : AbortReason) : LinksMoved s (sendAbort l why s) := by
  cases l with
  | none => exact refl s
  | some l => exact send l _

/-- What is neither a link nor sent stays. -/
theorem keeps (h : LinksMoved s t) : t.mem = s.mem ∧ t.csr = s.csr ∧ t.port = s.port ∧ t.arb = s.arb ∧ t.regions = s.regions ∧
    t.counters = s.counters ∧ t.scrub = s.scrub ∧ t.spare = s.spare ∧ t.sig = s.sig ∧ t.jnl = s.jnl ∧ t.vote = s.vote ∧
    t.repair = s.repair ∧ t.mgmt = s.mgmt ∧ t.ev = s.ev ∧ t.pending = s.pending := by
  rw [h.rest]
  simp

end LinksMoved

/-! ### Buffers -/

@[simp] theorem send_buffer (l k : LinkId) (pl : Payload) (s : State) :
    (getLink (send l pl s) k).buffer = (getLink s k).buffer := by
  unfold send sendFrame
  repeat' split
  all_goals cases l <;> cases k <;> rfl

@[simp] theorem goIfDrained_buffer (l k : LinkId) (s : State) : (getLink (goIfDrained l s) k).buffer = (getLink s k).buffer := by
  simp only [goIfDrained]
  split
  · rw [← send_buffer l k .go s]
    cases l <;> cases k <;> rfl
  · rfl

theorem leaveBuffer_empties (l : LinkId) (s : State) : (getLink (leaveBuffer l [] s) l).buffer = [] := by
  by_cases h : ([] : List LineFrame).length < (getLink s l).buffer.length
  · rw [leaveBuffer_shorter h]
    simp
  · have he : (getLink s l).buffer = [] := by simpa using h
    rw [leaveBuffer_same (by rw [he]), he]

theorem leaveBuffer_otherBuffer (l : LinkId) (rest : List LineFrame) (s : State) :
    (getLink (leaveBuffer l rest s) (otherLink l)).buffer = (getLink s (otherLink l)).buffer := by
  unfold leaveBuffer
  split <;> simp

/-- Both buffers are emptied where no joiner receives (R165). -/
theorem settleBuffers_empties {s : State} (h : receivingLink s = none) :
    (settleBuffers s).link1.buffer = [] ∧ (settleBuffers s).link2.buffer = [] := by
  have first : dropLines .link1 s = leaveBuffer .link1 [] s := dropLines_other (by simp [h])
  have second : settleBuffers s = leaveBuffer .link2 [] (leaveBuffer .link1 [] s) := by
    rw [settleBuffers, first, dropLines_other]
    rw [show receivingLink (leaveBuffer .link1 [] s) = receivingLink s by simp [receivingLink], h]
    simp
  rw [second]
  exact ⟨(leaveBuffer_otherBuffer .link2 [] _).trans (leaveBuffer_empties .link1 s), leaveBuffer_empties .link2 _⟩

/-! ### The search for a source (R154 to R156) -/

section
variable {s : State} {j : JoinerRole} {me x y : Identity}

theorem nextCandidate_first (hid : s.mgmt.params.channelId = some me) (ho : otherIds (some me) = some (x, y)) (hx : x ∉ j.tried)
    (hy : y ∉ j.tried) (he : eligible s.vote.peer0 = true) : nextCandidate j s = some (x, x :: j.tried) := by
  simp [nextCandidate, hid, ho, hx, hy, he]

theorem nextCandidate_second (hid : s.mgmt.params.channelId = some me) (ho : otherIds (some me) = some (x, y))
    (hx : x ∈ j.tried ∨ eligible s.vote.peer0 = false) (hy : y ∉ j.tried) (he : eligible s.vote.peer1 = true) :
    nextCandidate j s = some (y, x :: y :: j.tried) := by
  rcases hx with hx | hx <;> simp [nextCandidate, hid, ho, hx, hy, he]

theorem nextCandidate_tried (hid : s.mgmt.params.channelId = some me) (ht : ∀ i, i ≠ me → i ∈ j.tried) :
    nextCandidate j s = none := by
  cases me <;> simp [nextCandidate, hid, otherIds, ht .a, ht .b, ht .c]

theorem nextCandidate_ineligible (h0 : eligible s.vote.peer0 = false) (h1 : eligible s.vote.peer1 = false) :
    nextCandidate j s = none := by
  unfold nextCandidate
  split <;> simp [h0, h1]

/-- The role of a joiner whose REQUEST is outstanding. -/
def asking (i : Identity) (j : JoinerRole) (s : State) : JoinerRole :=
  { j with phase := .requesting, candidate := some i, replyTimer := some s.mgmt.params.voteWindow }

/-- A REQUEST to a peer whose link is UP. -/
theorem sendRequest_eq {second : Bool} {l : LinkId} (hr : s.repair.role = .joiner j) (hid : s.mgmt.params.channelId = some me)
    (hp : peerSlot s x = some second) (hl : (getPeer s second).link = some l) (hu : (getLink s l).status = .up) :
    sendRequest x s =
      { setRelation x (some .joinerOf) (sentUp l (ownFrame me (.request j.base (j.need.map (BitVec.ofNat 32)))) s) with
        repair.role := .joiner (asking x j s) } := by
  simp only [sendRequest, hr, hp, hl, Option.bind_some]
  rw [setRelation_eq, setRelation_eq, send_up (me := me) (by exact hid) (by cases l <;> exact hu)]
  cases l <;> rfl

/-- The role of a joiner that waits for its next sequence. -/
def waiting (j : JoinerRole) (s : State) : JoinerRole :=
  { j with
    phase := .retryWait, retry := j.retry - 1, candidate := none, replyTimer := none
    retryTimer := some s.mgmt.params.rejoinRetry }

theorem endSequence_retries (hr : s.repair.role = .joiner j) (h : 0 < j.retry) :
    endSequence s = { s with repair.role := .joiner (waiting j s) } := by
  simp only [endSequence, hr, h, if_true]
  rfl

theorem endSequence_gaveUp (hr : s.repair.role = .joiner j) (h : j.retry = 0) : endSequence s = { s with
    repair.role := .joiner { j with phase := .gaveUp, candidate := none, replyTimer := none }
    ev := evAfter .repair 11 .none 0 s } := by
  simp only [endSequence, hr, h, Nat.lt_irrefl, if_false]
  rw [hand_as_evAfter]
  exact State.ext_ev rfl (evAfter_of _ _ _ _ _ _ rfl rfl rfl rfl)

theorem tryNext_some {i : Identity} {tried : List Identity} (hr : s.repair.role = .joiner j)
    (hn : nextCandidate j s = some (i, tried)) :
    tryNext s = sendRequest i { s with repair.role := .joiner { j with tried := tried } } := by
  simp only [tryNext, hr, hn]

theorem tryNext_none (hr : s.repair.role = .joiner j) (hn : nextCandidate j s = none) : tryNext s = endSequence s := by
  simp only [tryNext, hr, hn]

/-- The role with no peer tried. -/
def afresh (j : JoinerRole) : JoinerRole :=
  { j with tried := [], candidate := none, replyTimer := none, retryTimer := none }

theorem beginSequence_eq (hr : s.repair.role = .joiner j) :
    beginSequence s = tryNext { s with repair.role := .joiner (afresh j) } := by
  simp only [beginSequence, hr]
  rfl

end

/-- A fresh sequence has begun from `s` for the joiner `j`: what a REQUEST, the next wait and giving up have in common. -/
structure Sought (j : JoinerRole) (s t : State) : Prop where
  role : ∃ j1, t.repair = { s.repair with role := .joiner j1 } ∧ j1.base = j.base ∧ j1.need = j.need ∧
    j1.baseLost = j.baseLost ∧ j1.forcedFull = j.forcedFull ∧ j1.result = j.result
  slots : t.vote.peer0.slot = s.vote.peer0.slot ∧ t.vote.peer1.slot = s.vote.peer1.slot
  buffers : t.link1.buffer = s.link1.buffer ∧ t.link2.buffer = s.link2.buffer
  status : ∀ l, (getLink t l).status = (getLink s l).status
  told : ∀ l, framesOf s l <+: framesOf t l
  records : 0 < j.retry → t.ev = s.ev
  phase : ∃ j1, t.repair.role = .joiner j1 ∧ (j1.phase = .requesting ∨ j1.phase = .retryWait ∨ j1.phase = .gaveUp)

theorem sendRequest_sought {i : Identity} {s : State} {j : JoinerRole} (hr : s.repair.role = .joiner j) :
    Sought j s (sendRequest i s) := by
  have asked {t : State} (m : LinksMoved (setRelation i (some .joinerOf) { s with repair.role := .joiner (asking i j s) }) t)
      (b : t.link1.buffer = s.link1.buffer ∧ t.link2.buffer = s.link2.buffer) : Sought j s t := by
    obtain ⟨-, -, -, -, -, -, -, -, -, -, hv, hrep, -, hev, -⟩ := m.keeps
    refine ⟨⟨asking i j s, ?_, rfl, rfl, rfl, rfl, rfl⟩, ?_, b, fun l => ?_, fun l => ?_, fun _ => ?_,
      asking i j s, ?_, .inl rfl⟩
    · rw [hrep]
      simp
    · rw [hv]
      simp
    · rw [m.status l]
      cases l <;> simp [getLink]
    · refine List.IsPrefix.trans ?_ (m.told l)
      cases l <;> simp [framesOf]
    · rw [hev]
      simp
    · rw [hrep]
      simp
  simp only [sendRequest, hr]
  split
  · rename_i l hl
    refine asked (LinksMoved.send l _) ⟨(send_buffer l .link1 _ _).trans ?_, (send_buffer l .link2 _ _).trans ?_⟩ <;>
      simp [getLink]
  · exact asked (LinksMoved.refl _) (by simp)

theorem endSequence_sought {s : State} {j : JoinerRole} (hr : s.repair.role = .joiner j) : Sought j s (endSequence s) := by
  by_cases h : 0 < j.retry
  · rw [endSequence_retries hr h]
    exact ⟨⟨_, rfl, rfl, rfl, rfl, rfl, rfl⟩, ⟨rfl, rfl⟩, ⟨rfl, rfl⟩, fun l => by cases l <;> rfl,
      fun l => by cases l <;> exact List.prefix_refl _, fun _ => rfl, _, rfl, .inr (.inl rfl)⟩
  · rw [endSequence_gaveUp hr (by omega)]
    exact ⟨⟨_, rfl, rfl, rfl, rfl, rfl, rfl⟩, ⟨rfl, rfl⟩, ⟨rfl, rfl⟩, fun l => by cases l <;> rfl,
      fun l => by cases l <;> exact List.prefix_refl _, fun h' => absurd h' h, _, rfl, .inr (.inr rfl)⟩

theorem beginSequence_sought {s : State} {j : JoinerRole} (hr : s.repair.role = .joiner j) : Sought j s (beginSequence s) := by
  rw [beginSequence_eq hr]
  have widen {t u : State} {k : JoinerRole} (h : Sought k u t) (hu : u = { s with repair.role := .joiner k }) (hk : k.base = j.base ∧
      k.need = j.need ∧ k.baseLost = j.baseLost ∧ k.forcedFull = j.forcedFull ∧ k.result = j.result ∧ k.retry = j.retry) :
      Sought j s t := by
    subst hu
    obtain ⟨h1, h2, h3, h4, h5, h6⟩ := hk
    obtain ⟨⟨j1, e, e1, e2, e3, e4, e5⟩, slots, buffers, status, told, records, phase⟩ := h
    refine ⟨⟨j1, e, e1.trans h1, e2.trans h2, e3.trans h3, e4.trans h4, e5.trans h5⟩, slots, buffers, fun l => ?_, fun l => ?_,
      fun h => records (by rw [h6]; exact h), phase⟩
    · exact (status l).trans (by cases l <;> rfl)
    · exact List.IsPrefix.trans (by cases l <;> exact List.prefix_refl _) (told l)
  cases hn : nextCandidate (afresh j) { s with repair.role := .joiner (afresh j) } with
  | none =>
    rw [tryNext_none (j := afresh j) rfl hn]
    exact widen (endSequence_sought rfl) rfl ⟨rfl, rfl, rfl, rfl, rfl, rfl⟩
  | some p =>
    rw [tryNext_some (j := afresh j) rfl hn]
    exact widen (sendRequest_sought rfl) rfl ⟨rfl, rfl, rfl, rfl, rfl, rfl⟩

end Sys2Proof.Machine
end

section
/-! A joiner's return to OUT (R170, R171): every way into it is one `ReturnedToOut`. -/

namespace Sys2Proof.Machine
-- One proof after the other: side by side they pass the memory that the check allows.
set_option Elab.async false

/-- The joiner role back in OUT. -/
def returnedRole (j : JoinerRole) : JoinerRole := { freshJoiner j.forcedFull with baseLost := true, retry := j.retry }

/-- The event unit behind a return to OUT: the REPAIR record, then the STATE-CHANGE record. -/
def returnedEvents (detail cause : Nat) (x : Identity) (j : JoinerRole) (s : State) : EventUnit :=
  evAfter .stateChange cause (.channelState s.csr.state) (wordOf s.csr.committed.toNat) { s with
    csr := { s.csr with state := .out, stateInv := ~~~ (7 : BitVec 8) }
    ev := evAfter .repair detail (.peer x) (wordOf j.linesWritten) s }

/-- The channel in OUT, its joiner's role begun anew, before the buffers are dropped. -/
def outAgain (detail cause : Nat) (x : Identity) (j : JoinerRole) (s : State) : State := { s with
  csr := { s.csr with state := .out, stateInv := ~~~ (7 : BitVec 8) }
  ev := returnedEvents detail cause x j s
  vote := voteWith s.mgmt.params.channelId x (fun y => { y with relation := none })
    { s.vote with peer0.slot := none, peer1.slot := none }
  repair.role := .joiner (returnedRole j) }

/-- A change of one peer's entry that keeps both slots empty. -/
theorem voteWith_keeps {α : Type} (g : Peer → α) {f : Peer → Peer} (hf : ∀ y, g (f y) = g y) (me : Option Identity) (x : Identity)
    (v : VoteUnit) : g (voteWith me x f v).peer0 = g v.peer0 ∧ g (voteWith me x f v).peer1 = g v.peer1 := by
  unfold voteWith
  split
  · split
    · exact ⟨hf _, rfl⟩
    · split
      · exact ⟨rfl, hf _⟩
      · exact ⟨rfl, rfl⟩
  · exact ⟨rfl, rfl⟩

section
variable {s : State} {j : JoinerRole} {x : Identity} {detail : Nat}

/-- The return drops the buffers and goes on with step 3 of preparation. -/
theorem joinerReturn_eq (c : Cause) (hr : s.repair.role = .joiner j) (hx : j.source = some x) :
    joinerReturn c (hand .repair detail (.peer x) (wordOf j.linesWritten) s) =
      prepareSignature (settleBuffers (outAgain detail c.code x j s)) := by
  rw [hand_as_evAfter]
  simp only [joinerReturn, hr, hx, changeState_eq, setRelation_eq]
  refine congrArg (fun t => prepareSignature (settleBuffers t)) (State.ext_ev rfl ?_)
  exact evAfter_of _ _ _ _ _ _ rfl rfl rfl rfl

theorem outAgain_receives_nothing (c : Nat) : receivingLink (outAgain detail c x j s) = none := rfl

/-- With S valid preparation is done at once, with no base, and a fresh sequence begins. -/
theorem prepareSignature_lost {k : JoinerRole} (hr : s.repair.role = .joiner k) (hv : s.sig.valid = true)
    (hb : k.baseLost = true) : prepareSignature s = beginSequence { s with repair.role := .joiner { k with
      base := none, need := [], baseLost := true, retry := s.mgmt.params.rejoinRetries } } := by
  have none_ : baseFor k s = (none, []) := by simp [baseFor, hb]
  simp only [prepareSignature, hv, if_true, finishPreparation, hr, none_, hb, Bool.true_or]

theorem prepareSignature_walks (hv : s.sig.valid = false) : prepareSignature s = startWalk .preparation s := by
  simp [prepareSignature, hv]

/-- What is eligible depends on a peer's link and state. -/
theorem eligible_congr {p q : Peer} (hl : p.link = q.link) (hs : p.state = q.state) : eligible p = eligible q := by
  simp only [eligible, hl, hs]

end

/-- A fresh sequence that asks the first peer. -/
theorem beginSequence_asks_first {s : State} {j : JoinerRole} {me y z : Identity} {k : LinkId} (hr : s.repair.role = .joiner j)
    (hid : s.mgmt.params.channelId = some me) (ho : otherIds (some me) = some (y, z)) (he : eligible s.vote.peer0 = true)
    (hk : s.vote.peer0.link = some k) (hu : (getLink s k).status = .up) : beginSequence s =
      { sentUp k (ownFrame me (.request j.base (j.need.map (BitVec.ofNat 32)))) s with
        vote.peer0.relation := some .joinerOf
        repair.role := .joiner (asking y { afresh j with tried := [y] } s) } := by
  have slot (t : State) (ht : t.mgmt = s.mgmt) : peerSlot t y = some false := by simp [peerSlot, ht, hid, ho]
  refine (beginSequence_eq hr).trans ((tryNext_some (j := afresh j) rfl (nextCandidate_first (me := me) (by exact hid) ho
    (by simp [afresh]) (by simp [afresh]) (by exact he))).trans ?_)
  refine (sendRequest_eq (s := { s with repair.role := .joiner { afresh j with tried := [y] } })
    (j := { afresh j with tried := [y] }) (second := false) (me := me) (l := k) rfl (by exact hid) (slot _ rfl) (by exact hk)
    (by cases k <;> exact hu)).trans ?_
  rw [setRelation, updPeer_at _ (slot _ (by simp))]
  cases k <;> rfl

/-- A fresh sequence with no peer eligible waits for the next. -/
theorem beginSequence_waits {s : State} {j : JoinerRole} (hr : s.repair.role = .joiner j) (h0 : eligible s.vote.peer0 = false)
    (h1 : eligible s.vote.peer1 = false) (h : 0 < j.retry) :
    beginSequence s = { s with repair.role := .joiner (waiting (afresh j) s) } := by
  rw [beginSequence_eq hr, tryNext_none (s := { s with repair.role := .joiner (afresh j) }) (j := afresh j) rfl
      (nextCandidate_ineligible h0 h1),
    endSequence_retries (s := { s with repair.role := .joiner (afresh j) }) (j := afresh j) rfl h]
  rfl

/-- A joiner that leaves RECEIVING or CLOSING has returned to OUT (R171), whatever its links have sent before. -/
theorem joinerReturn_returned {s u : State} {j : JoinerRole} {x : Identity} {l : LinkId} {detail : Nat} {parting : List Frame}
    (c : Cause) (hr : s.repair.role = .joiner j) (hx : j.source = some x) (m : LinksMoved s u)
    (told : framesOf s l ++ parting <+: framesOf u l) :
    ReturnedToOut s (joinerReturn c (hand .repair detail (.peer x) (wordOf j.linesWritten) u)) j x l detail c.code parting := by
  obtain ⟨mem, csr, port, arb, regions, counters, scrub, spare, sig, jnl, vote, repair, mgmt, ev, -⟩ := m.keeps
  rw [joinerReturn_eq c (by rw [repair]; exact hr) hx]
  have m3 : LinksMoved (outAgain detail c.code x j u) (settleBuffers (outAgain detail c.code x j u)) := .settleBuffers
  obtain ⟨b1, b2⟩ := settleBuffers_empties (outAgain_receives_nothing (s := u) (j := j) (x := x) (detail := detail) c.code)
  have evs : (outAgain detail c.code x j u).ev = returnedEvents detail c.code x j s := by
    simp only [outAgain, returnedEvents, csr]
    exact evAfter_of _ _ _ _ _ _ rfl rfl regions (evAfter_of _ _ _ _ _ _ (by rw [csr]) (by rw [csr]) regions ev)
  obtain ⟨slot0, slot1⟩ := voteWith_keeps Peer.slot (f := fun y => { y with relation := none }) (fun _ => rfl)
    u.mgmt.params.channelId x { u.vote with peer0.slot := none, peer1.slot := none }
  obtain ⟨link0, -⟩ := voteWith_keeps Peer.link (f := fun y => { y with relation := none }) (fun _ => rfl)
    u.mgmt.params.channelId x { u.vote with peer0.slot := none, peer1.slot := none }
  obtain ⟨elig0, elig1⟩ := voteWith_keeps eligible (f := fun y => { y with relation := none }) (fun _ => rfl)
    u.mgmt.params.channelId x { u.vote with peer0.slot := none, peer1.slot := none }
  have status (k : LinkId) : (getLink (settleBuffers (outAgain detail c.code x j u)) k).status = (getLink s k).status := by
    rw [m3.status k, ← m.status k]
    cases k <;> rfl
  have sends : framesOf s l ++ parting <+: framesOf (settleBuffers (outAgain detail c.code x j u)) l :=
    told.trans (List.IsPrefix.trans (by cases l <;> exact List.prefix_refl _) (m3.told l))
  generalize hv : settleBuffers (outAgain detail c.code x j u) = v at *
  obtain ⟨vmem, vcsr, vport, -, vregions, vcounters, vscrub, vspare, vsig, vjnl, vvote, vrepair, vmgmt, vev, -⟩ := m3.keeps
  have vsig' : v.sig = s.sig := vsig.trans sig
  have vmgmt' : v.mgmt = s.mgmt := vmgmt.trans mgmt
  have vrole : v.repair = { s.repair with role := .joiner (returnedRole j) } := by
    rw [vrepair]
    show ({ u.repair with role := .joiner (returnedRole j) } : RepairUnit) = _
    rw [repair]
  have vslots : v.vote.peer0.slot = none ∧ v.vote.peer1.slot = none := by
    rw [vvote]
    exact ⟨slot0, slot1⟩
  have vcsr' : v.csr = { s.csr with state := .out, stateInv := ~~~ (7 : BitVec 8) } := by
    rw [vcsr]
    show ({ u.csr with state := .out, stateInv := ~~~ (7 : BitVec 8) } : ChannelRecord) = _
    rw [csr]
  have vev' : v.ev = returnedEvents detail c.code x j s := vev.trans evs
  have velig0 : eligible v.vote.peer0 = eligible s.vote.peer0 := by
    rw [vvote, ← vote]
    exact elig0
  have velig1 : eligible v.vote.peer1 = eligible s.vote.peer1 := by
    rw [vvote, ← vote]
    exact elig1
  have vlink0 : v.vote.peer0.link = s.vote.peer0.link := by
    rw [vvote, ← vote]
    exact link0
  cases hsv : s.sig.valid with
  | false =>
    rw [prepareSignature_walks (by rw [vsig']; exact hsv)]
    exact {
      csr := vcsr'
      kept := ⟨vmem.trans mem, vport.trans port, vjnl.trans jnl, vregions.trans regions, vspare.trans spare,
        vscrub.trans scrub, vmgmt', vcounters.trans counters, by rw [← vsig']; rfl, by rw [← vsig']; rfl⟩
      slots := vslots
      buffers := ⟨b1, b2⟩
      told := sends
      role := ⟨returnedRole j, vrole, rfl, rfl, rfl, rfl, fun _ => ⟨rfl, rfl, by rw [← vsig']; rfl⟩,
        fun h => absurd (hsv.symm.trans h) (by decide)⟩
      records := fun _ => vev'.trans (by
        rw [show (startWalk .preparation v).csr = v.csr from rfl, vcsr']
        rfl) }
  | true =>
    let jf : JoinerRole := { returnedRole j with
      base := none, need := [], baseLost := true, retry := s.mgmt.params.rejoinRetries }
    have begins : prepareSignature v = beginSequence { v with repair.role := .joiner jf } := by
      rw [prepareSignature_lost (k := returnedRole j) (by rw [vrole]) (by rw [vsig']; exact hsv) rfl, vmgmt']
    rw [begins]
    have sought : Sought jf { v with repair.role := .joiner jf } (beginSequence { v with repair.role := .joiner jf }) :=
      beginSequence_sought rfl
    obtain ⟨j1, hj1, base, need, lost, full, -⟩ := sought.role
    exact {
      csr := by simpa using vcsr'
      kept := ⟨by simpa using vmem.trans mem, by simpa using vport.trans port, by simpa using vjnl.trans jnl,
        by simpa using vregions.trans regions, by simpa using vspare.trans spare, by simpa using vscrub.trans scrub,
        by simpa using vmgmt', by simpa using vcounters.trans counters, by simp [vsig'], by simp [vsig']⟩
      slots := ⟨sought.slots.1.trans vslots.1, sought.slots.2.trans vslots.2⟩
      buffers := ⟨sought.buffers.1.trans b1, sought.buffers.2.trans b2⟩
      told := sends.trans (List.IsPrefix.trans (by cases l <;> exact List.prefix_refl _) (sought.told l))
      role := by
        refine ⟨j1, hj1.trans (by rw [vrole]), base, need, lost, full, fun h => absurd (hsv.symm.trans h) (by decide),
          fun _ => ⟨by simpa using vsig', fun me y z k hid ho he hk hu => ?_, fun h0 h1 h => ?_⟩⟩
        · have eq := beginSequence_asks_first (s := { v with repair.role := .joiner jf }) (j := jf) (me := me) (y := y) (z := z)
            (k := k) rfl (by rw [← vmgmt'] at hid; exact hid) ho (velig0.trans he) (vlink0.trans hk)
            (by have := (status k).trans hu; cases k <;> exact this)
          have same : j1 = asking y { afresh jf with tried := [y] } v := by
            have := congrArg (fun t => t.repair.role) eq
            rw [hj1] at this
            exact Role.joiner.inj this
          refine ⟨?_, ?_, ?_, ?_, ?_, ?_⟩
          · rw [same]
            rfl
          · rw [same]
            rfl
          · rw [same]
            rfl
          · rw [same, ← vmgmt']
            rfl
          · rw [eq]
          · rw [eq]
            have last := framesOf_sentUp k (ownFrame me (.request none [])) v
            cases k
            · exact (congrArg List.getLast? last).trans (by simp)
            · exact (congrArg List.getLast? last).trans (by simp)
        · have eq := beginSequence_waits (s := { v with repair.role := .joiner jf }) (j := jf) rfl (velig0.trans h0)
            (velig1.trans h1) h
          have same : j1 = waiting (afresh jf) v := by
            have := congrArg (fun t => t.repair.role) eq
            rw [hj1] at this
            exact Role.joiner.inj this
          rw [same]
          refine ⟨rfl, rfl, rfl, ?_⟩
          rw [← vmgmt']
          rfl
      records := by
        intro h repaired
        have h : 0 < s.mgmt.params.rejoinRetries := h.resolve_left (by simp [hsv])
        have out : (beginSequence { v with repair.role := .joiner jf }).csr = v.csr := by simp
        refine (sought.records h).trans (vev'.trans ?_)
        rw [out, vcsr']
        rfl }

end Sys2Proof.Machine
end

section
/-! The joiner's verdict (R167, R168, R171). -/

namespace Sys2Proof.Machine
-- One proof after the other: side by side they pass the memory that the check allows.
set_option Elab.async false

/-- A frame sent on a link that is UP is the last of what the link has sent. -/
theorem framesOf_send {l : LinkId} {pl : Payload} {s : State} {me : Identity} (hid : s.mgmt.params.channelId = some me)
    (hu : (getLink s l).status = .up) : framesOf (send l pl s) l = framesOf s l ++ [ownFrame me pl] := by
  rw [send_up hid hu, framesOf_sentUp]

/-- The channel state record behind a MATCH. -/
def matchedRecord (j : JoinerRole) (s : State) : ChannelRecord :=
  { state := .voting, counter := j.closeCycle, committed := j.closeCycle, c := s.sig.s, stateInv := ~~~ (5 : BitVec 8)
    counterInv := ~~~ j.closeCycle, committedInv := ~~~ j.closeCycle, cInv := ~~~ wordOf s.sig.s }

/-- The state of a MATCH before its verdict goes out: the record at the CLOSE cycle, journal, maps and slots empty. -/
def matchedAt (j : JoinerRole) (s : State) : State :=
  emptySlots (clearDirty (emptyJournal (setC s.sig.s (setCommitted j.closeCycle (setCounter j.closeCycle s)))))

/-- The state of a MATCH before its two records. -/
def matchedTold (j : JoinerRole) (l : LinkId) (x : Identity) (s : State) : State :=
  setState .voting (setRelation x none { send l (.verdict .matched) (matchedAt j s) with repair.role := .none })

theorem joinerMatch_eq {j : JoinerRole} {l : LinkId} {x : Identity} {s : State} (hl : j.link = some l) (hx : j.source = some x) :
    joinerMatch j s = settleBuffers (handStateChange s.csr.state .matched
      (hand .repair 2 (.peer x) (wordOf j.linesWritten) (matchedTold j l x s))) := by
  simp only [joinerMatch, hl, hx]
  rfl

theorem matchedAt_keeps (j : JoinerRole) (s : State) :
    (matchedAt j s).csr = { matchedRecord j s with state := s.csr.state, stateInv := s.csr.stateInv } ∧
    (matchedAt j s).jnl = { JournalUnit.reset with rb := s.jnl.rb } ∧
    (matchedAt j s).repair = { s.repair with dc := [], dv := [], dO := [], dcValid := false } ∧
    (matchedAt j s).mem = s.mem ∧ (matchedAt j s).sig = s.sig ∧ (matchedAt j s).mgmt = s.mgmt ∧ (matchedAt j s).ev = s.ev ∧
    (matchedAt j s).regions = s.regions ∧ (matchedAt j s).link1 = s.link1 ∧ (matchedAt j s).link2 = s.link2 ∧
    (matchedAt j s).out = s.out ∧ (matchedAt j s).vote.peer0.slot = none ∧ (matchedAt j s).vote.peer1.slot = none := by
  simp only [matchedAt, setCounter]
  split <;> exact ⟨rfl, rfl, rfl, rfl, rfl, rfl, rfl, rfl, rfl, rfl, rfl, rfl, rfl⟩

theorem matchedTold_keeps (j : JoinerRole) (l : LinkId) (x : Identity) (s : State) :
    (matchedTold j l x s).csr = matchedRecord j s ∧ (matchedTold j l x s).jnl = { JournalUnit.reset with rb := s.jnl.rb } ∧
    (matchedTold j l x s).repair = { dc := [], dv := [], dO := [], r := s.repair.r, dcValid := false, role := .none } ∧
    (matchedTold j l x s).mem = s.mem ∧ (matchedTold j l x s).sig = s.sig ∧ (matchedTold j l x s).ev = s.ev ∧
    (matchedTold j l x s).regions = s.regions ∧ (matchedTold j l x s).vote.peer0.slot = none ∧
    (matchedTold j l x s).vote.peer1.slot = none := by
  obtain ⟨csr, jnl, repair, mem, sig, -, ev, regions, -, -, -, s0, s1⟩ := matchedAt_keeps j s
  simp only [matchedTold, setState]
  refine ⟨?_, ?_, ?_, ?_, ?_, ?_, ?_, ?_, ?_⟩ <;> simp [csr, jnl, repair, mem, sig, ev, regions, s0, s1]
  rfl

/-- Settles O55: the joiner answers MATCH or MISMATCH. -/
theorem joinerGivesItsVerdict : Obligations.JoinerGivesItsVerdict := by
  intro s j l x me hr hp hl hx hb hid hu sent
  have gives : exec .joinerVerdict s = .next (
      if s.sig.valid = true ∧ s.sig.s = j.closeTarget ∧ j.linesWritten = j.closeLines then joinerMatch j s
      else joinerMismatch j s) := by
    refine congrArg Host.Outcome.next ?_
    simp only [giveVerdict, hr, hp, hl, Option.map_some, hb, and_self, if_true]
  refine ⟨fun hv hs hn => ?_, fun hno hst => ?_⟩
  · rw [gives, if_pos ⟨hv, hs, hn⟩, joinerMatch_eq hl hx]
    refine ⟨_, rfl, ?_⟩
    obtain ⟨csr, jnl, repair, mem, sig, ev, regions, s0, s1⟩ := matchedTold_keeps j l x s
    have told : framesOf s l ++ [ownFrame me (.verdict .matched)] = framesOf (matchedTold j l x s) l := by
      obtain ⟨-, -, -, -, -, mgmt, -, -, link1, link2, out, -, -⟩ := matchedAt_keeps j s
      have same : framesOf (matchedAt j s) l = framesOf s l := by cases l <;> simp only [framesOf, out]
      have up : (getLink (matchedAt j s) l).status = .up := by
        cases l
        · exact (congrArg Link.status link1).trans hu
        · exact (congrArg Link.status link2).trans hu
      rw [← same, ← framesOf_send (by rw [mgmt]; exact hid) up]
      cases l <;> simp [framesOf, matchedTold, setState]
    have moved := LinksMoved.settleBuffers (s := handStateChange s.csr.state .matched
      (hand .repair 2 (.peer x) (wordOf j.linesWritten) (matchedTold j l x s)))
    have sends := moved.told l
    generalize hu : settleBuffers (handStateChange s.csr.state .matched
      (hand .repair 2 (.peer x) (wordOf j.linesWritten) (matchedTold j l x s))) = u at *
    obtain ⟨umem, ucsr, -, -, -, -, -, -, usig, ujnl, uvote, urepair, -, uev, -⟩ := moved.keeps
    have record : u.csr = matchedRecord j s := by simpa [csr] using ucsr
    refine ⟨?_, ?_, ?_, ?_, ?_, ?_, ?_, ?_, ?_, ?_, ?_, ?_, ?_, ?_⟩
    · have whole : framesOf s l ++ [ownFrame me (.verdict .matched)] <+: framesOf u l := by
        rw [told]
        refine List.IsPrefix.trans ?_ sends
        cases l <;> simp [framesOf]
      cases l <;> exact whole
    · rw [record]
      rfl
    · rw [record]
      rfl
    · rw [record]
      rfl
    · rw [record]
      rfl
    · simp [copiesAgree, recordUpset, record, matchedRecord, ChannelState.code]
    · simpa [sig] using usig
    · simpa [mem] using umem
    · simpa [jnl] using ujnl
    · simpa [repair] using urepair
    · simpa [s0] using congrArg (fun v => v.peer0.slot) uvote
    · simpa [s1] using congrArg (fun v => v.peer1.slot) uvote
    · simpa [ev] using congrArg EventUnit.health uev
    · intro matched
      rw [uev]
      simp only [handStateChange, hand_as_evAfter]
      have record' : (matchedTold j l x s).csr = u.csr := csr.trans record.symm
      have verdict : evAfter .repair 2 (.peer x) (wordOf j.linesWritten) (matchedTold j l x s) =
          evAfter .repair 2 (.peer x) (wordOf j.linesWritten) matched :=
        evAfter_of _ _ _ _ _ _ (by rw [record']) (by rw [record']) regions ev
      have cycle : (matchedTold j l x s).csr.committed = j.closeCycle := by
        rw [csr]
        rfl
      rw [cycle]
      exact evAfter_of _ _ _ _ { matched with ev := evAfter .repair 2 (.peer x) (wordOf j.linesWritten) matched }
        { matchedTold j l x s with ev := evAfter .repair 2 (.peer x) (wordOf j.linesWritten) (matchedTold j l x s) }
        (congrArg ChannelRecord.state record') (congrArg ChannelRecord.counter record') regions verdict
  · rw [gives, if_neg hno]
    refine ⟨_, rfl, ?_⟩
    have eq : joinerMismatch j s = joinerReturn .mismatch (hand .repair 3 (.peer x) (wordOf j.linesWritten)
        (send l (.verdict .mismatch) s)) := by
      simp only [joinerMismatch, hl, hx]
      rfl
    rw [eq]
    exact joinerReturn_returned .mismatch hr hx (.send l _) (by rw [framesOf_send hid hu])

end Sys2Proof.Machine
end

section
/-! The joiner and its source's frames (R154 to R156, R159, R165, R167, R170). -/

namespace Sys2Proof.Machine
-- One proof after the other: side by side they pass the memory that the check allows.
set_option Elab.async false

/-! ### A role in RECEIVING or CLOSING that ends by abort (R170) -/

section
variable {s : State} {j : JoinerRole} {x : Identity} {l : LinkId}

theorem abortReceiving_eq (why : AbortReason) (tell : Bool) (hr : s.repair.role = .joiner j)
    (hp : j.phase = .receiving ∨ j.phase = .closing) (hx : j.source = some x) : abortReceiving why tell s =
      joinerReturn .repairAbort (hand .repair (3 + why.code) (.peer x) (wordOf j.linesWritten)
        (if tell then sendAbort j.link why s else s)) := by
  simp only [abortReceiving, hr, (receiving_iff j).mpr hp, if_true, hx]
  rfl

/-- The partner is not told: the link to it has gone, or the ABORT was its own. -/
theorem abortReceiving_silent (why : AbortReason) (hr : s.repair.role = .joiner j)
    (hp : j.phase = .receiving ∨ j.phase = .closing) (hx : j.source = some x) :
    ReturnedToOut s (abortReceiving why false s) j x l (3 + why.code) 15 [] := by
  rw [abortReceiving_eq why false hr hp hx]
  exact joinerReturn_returned .repairAbort hr hx (.refl s) (by simp)

/-- The source is told over its link, which is UP. -/
theorem abortReceiving_told {me : Identity} (why : AbortReason) (hr : s.repair.role = .joiner j)
    (hp : j.phase = .receiving ∨ j.phase = .closing) (hx : j.source = some x) (hl : j.link = some l)
    (hid : s.mgmt.params.channelId = some me) (hu : (getLink s l).status = .up) :
    ReturnedToOut s (abortReceiving why true s) j x l (3 + why.code) 15 [ownFrame me (.abort why)] := by
  rw [abortReceiving_eq why true hr hp hx, if_pos rfl, hl]
  exact joinerReturn_returned .repairAbort hr hx (.send l _) (by
    rw [show sendAbort (some l) why s = send l (.abort why) s from rfl, framesOf_send hid hu])

end

/-! ### A try that has failed (R155) -/

section
variable {s : State} {j : JoinerRole} {me x y : Identity}

/-- The role of a joiner whose try has failed. -/
def untimed (j : JoinerRole) : JoinerRole := { j with replyTimer := none }

theorem failTry_eq (hr : s.repair.role = .joiner j) (hc : j.candidate = some x) :
    failTry s = tryNext (setRelation x none { s with repair.role := .joiner (untimed j) }) := by
  simp only [failTry, hr, hc, untimed]

/-- The state between a failed try and the next. -/
def unrelated (x : Identity) (j : JoinerRole) (s : State) : State :=
  setRelation x none { s with repair.role := .joiner (untimed j) }

theorem unrelated_role (x : Identity) (j : JoinerRole) (s : State) : (unrelated x j s).repair.role = .joiner (untimed j) := by
  simp [unrelated]

/-- The first peer's try has failed, and the second is asked. -/
theorem failTry_asks_second {k : LinkId} (hr : s.repair.role = .joiner j) (hp : j.phase = .requesting) (hc : j.candidate = some x)
    (hid : s.mgmt.params.channelId = some me) (ho : otherIds (some me) = some (x, y)) (hy : y ∉ j.tried)
    (he : eligible s.vote.peer1 = true) (hx : x ∈ j.tried) (hk : s.vote.peer1.link = some k)
    (hu : (getLink s k).status = .up) : failTry s =
      { sentUp k (ownFrame me (.request j.base (j.need.map (BitVec.ofNat 32)))) s with
        vote := { s.vote with peer0.relation := none, peer1.relation := some .joinerOf }
        repair.role := .joiner { j with
          tried := x :: y :: j.tried, candidate := some y, replyTimer := some s.mgmt.params.voteWindow } } := by
  have first : unrelated x j s = { s with repair.role := .joiner (untimed j), vote.peer0.relation := none } := by
    rw [unrelated, setRelation, updPeer_at (second := false) _ (by simp [peerSlot, hid, ho])]
    rfl
  have distinct : y ≠ x := by
    rintro rfl
    exact hy hx
  have slot (t : State) (ht : t.mgmt = s.mgmt) : peerSlot t y = some true := by simp [peerSlot, ht, hid, ho, distinct]
  refine (failTry_eq hr hc).trans ?_
  rw [← unrelated, tryNext_some (unrelated_role x j s) (nextCandidate_second (me := me) (by rw [first]; exact hid) ho (.inl hx) hy
    (by rw [first]; exact he)), first]
  refine (sendRequest_eq (s := { s with
      repair.role := .joiner { untimed j with tried := x :: y :: j.tried }, vote.peer0.relation := none })
    (j := { untimed j with tried := x :: y :: j.tried }) (second := true) (me := me) (l := k) rfl
    (by exact hid) (slot _ rfl) (by exact hk) (by cases k <;> exact hu)).trans ?_
  rw [setRelation, updPeer_at _ (slot _ (by simp))]
  have role : asking y { untimed j with tried := x :: y :: j.tried } s = { j with
      tried := x :: y :: j.tried, candidate := some y, replyTimer := some s.mgmt.params.voteWindow } := by
    simp [asking, untimed, hp]
  rw [← role]
  cases k <;> rfl

theorem failTry_ends (hr : s.repair.role = .joiner j) (hc : j.candidate = some x) (hid : s.mgmt.params.channelId = some me)
    (ht : ∀ i, i ≠ me → i ∈ j.tried) : failTry s = endSequence (unrelated x j s) := by
  refine (failTry_eq hr hc).trans (tryNext_none (unrelated_role x j s) (nextCandidate_tried (me := me) ?_ ht))
  simpa using hid

/-- With every peer tried the joiner waits for the next sequence. -/
theorem failTry_waits (hr : s.repair.role = .joiner j) (hc : j.candidate = some x) (hid : s.mgmt.params.channelId = some me)
    (ht : ∀ i, i ≠ me → i ∈ j.tried) (h : 0 < j.retry) : failTry s = { setRelation x none s with
      repair.role := .joiner { j with
        phase := .retryWait, retry := j.retry - 1, candidate := none, replyTimer := none
        retryTimer := some s.mgmt.params.rejoinRetry } } := by
  rw [failTry_ends hr hc hid ht, endSequence_retries (unrelated_role x j s) h, unrelated, setRelation_eq, setRelation_eq]
  rfl

/-- With every peer tried and no retries left the joiner gives up with its record. -/
theorem failTry_gives_up (hr : s.repair.role = .joiner j) (hc : j.candidate = some x) (hid : s.mgmt.params.channelId = some me)
    (ht : ∀ i, i ≠ me → i ∈ j.tried) (h : j.retry = 0) : failTry s = { setRelation x none s with
      repair.role := .joiner { j with phase := .gaveUp, candidate := none, replyTimer := none }
      ev := evAfter .repair 11 .none 0 s } := by
  rw [failTry_ends hr hc hid ht, endSequence_gaveUp (unrelated_role x j s) h]
  refine State.ext_ev ?_ (evAfter_of _ _ _ _ _ _ ?_ ?_ ?_ ?_)
  · rw [unrelated, setRelation_eq, setRelation_eq]
    rfl
  all_goals simp [unrelated]

end

/-- Settles O51: the joiner follows ACCEPT, REFUSE, CLOSE and ABORT, and its timers. -/
theorem joinerFollowsItsRequest : Obligations.JoinerFollowsItsRequest := by
  refine ⟨?_, ?_⟩
  · intro l raw s f me hid heard
    have role (r : Role) (h : s.repair.role = r) : heard.repair.role = r := by simpa [heard] using h
    have hid' : heard.mgmt.params.channelId = some me := by simpa [heard] using hid
    refine ⟨fun acc b n hf => ?_, fun acc why hf => ?_, fun c u j x hr hp hc how => ?_, fun acc k n t hf => ?_⟩
    · have run : exec (.acceptReceive l raw) s = .next (takeAccept l f.sender heard) := by
        refine congrArg Host.Outcome.next
          ((receiveFrame_accepted acc (by simp [Frame.kind, hf, Payload.kind]) (by decide)).trans ?_)
        simp only [useAccept, hf, heard]
      refine ⟨fun j hr hp hc => ?_, fun hno => ?_⟩
      · intro s1
        have csr : heard.csr = s.csr := by simp [heard]
        rw [run]
        simp only [takeAccept, role _ hr, hp, hc, and_self, if_true, enterReceiving, changeState_eq, csr]
        refine congrArg Host.Outcome.next (State.ext_ev ?_ (evAfter_of _ _ _ _ _ _ ?_ ?_ ?_ ?_)) <;>
          simp [s1, heard, setState] <;> rfl
      · rw [run]
        have told : send l (.abort .stalled) heard = sentUp l (ownFrame me (.abort .stalled)) heard :=
          send_up hid' (silenceRestarted_up acc.1)
        simp only [takeAccept]
        split
        · rename_i j hr
          rw [if_neg, told]
          rintro ⟨hp, hc⟩
          rcases hno j (by simpa [heard] using hr) with h | h
          · exact h hp
          · exact h hc
        · rw [told]
    · have run : exec (.refuseReceive l raw) s = .next (takeRefuse f.sender why heard) := by
        refine congrArg Host.Outcome.next
          ((receiveFrame_accepted acc (by simp [Frame.kind, hf, Payload.kind]) (by decide)).trans ?_)
        simp only [useRefuse, hf, heard]
      refine ⟨fun j second hr hp hc hw hslot hl => ?_, fun hno => ?_⟩
      · subst hw
        rw [run]
        simp only [takeRefuse, role _ hr, hp, hc, and_self, if_true]
        refine congrArg Host.Outcome.next ?_
        refine (sendRequest_eq (s := { heard with repair.role := .joiner { j with base := none, baseLost := true, need := [] } })
          (j := { j with base := none, baseLost := true, need := [] }) (second := second) (me := me) (l := l) rfl hid'
          (by simpa [peerSlot, heard] using hslot) (by cases second <;> simpa [getPeer, heard] using hl)
          (by have := silenceRestarted_up acc.1; cases l <;> exact this)).trans ?_
        rw [setRelation_eq, setRelation_eq]
        cases l <;> rfl
      · rw [run]
        simp only [takeRefuse]
        split
        · rename_i j hr
          rw [if_neg]
          rintro ⟨hp, hc⟩
          rcases hno j (by simpa [heard] using hr) with h | h
          · exact h hp
          · exact h hc
        · rfl
    · have run : exec c s = .next (failTry u) := by
        rcases how with ⟨rfl, rfl, acc, rfl, hf⟩ | ⟨rfl, rfl, ht⟩
        · have hk : f.kind = .refuse := by rcases hf with hf | hf <;> simp [Frame.kind, hf, Payload.kind]
          refine congrArg Host.Outcome.next ((receiveFrame_accepted acc hk (by decide)).trans ?_)
          rcases hf with hf | hf <;> simp [useRefuse, hf, takeRefuse, hr, hp, hc, heard]
        · refine congrArg Host.Outcome.next ?_
          simp [replyExpiry, hr, hp, ht]
      have kept : u.repair = s.repair ∧ u.vote = s.vote ∧ u.mgmt = s.mgmt ∧ u.csr = s.csr ∧ u.regions = s.regions ∧ u.ev = s.ev ∧
          ∀ k, (getLink u k).status = (getLink s k).status := by
        rcases how with ⟨-, rfl, -⟩ | ⟨-, rfl, -⟩
        · refine ⟨by simp [heard], by simp [heard], by simp [heard], by simp [heard], by simp [heard], by simp [heard], fun k => ?_⟩
          cases l <;> cases k <;> rfl
        · exact ⟨rfl, rfl, rfl, rfl, rfl, rfl, fun _ => rfl⟩
      obtain ⟨urep, uvote, umgmt, ucsr, ureg, uev, ustatus⟩ := kept
      have hr' : u.repair.role = .joiner j := by rw [urep]; exact hr
      have hid' : u.mgmt.params.channelId = some me := by rw [umgmt]; exact hid
      refine ⟨fun y k ho hy he hx hk hu => ⟨x :: y :: j.tried, by simp, fun i hi => by simp [hi], ?_⟩, fun ht h => ?_,
        fun ht h => ?_⟩
      · rw [run, failTry_asks_second hr' hp hc hid' ho hy (by rw [uvote]; exact he) hx (by rw [uvote]; exact hk)
          ((ustatus k).trans hu), uvote, umgmt]
      · rw [run, failTry_waits hr' hc hid' ht h, umgmt]
      · rw [run, failTry_gives_up hr' hc hid' ht h, evAfter_of .repair 11 .none 0 s u (by rw [ucsr]) (by rw [ucsr]) ureg uev]
    · have run : exec (.closeReceive l raw) s = .next (takeClose f.sender k n t heard) := by
        refine congrArg Host.Outcome.next
          ((receiveFrame_accepted acc (by simp [Frame.kind, hf, Payload.kind]) (by decide)).trans ?_)
        simp only [useClose, hf, heard]
      refine ⟨fun j hr hp hc => ?_, fun hno => ?_⟩
      · rw [run]
        simp only [takeClose, role _ hr, hp, hc, and_self, if_true]
      · rw [run]
        simp only [takeClose]
        split
        · rename_i j hr
          rw [if_neg]
          rintro ⟨hp, hc⟩
          rcases hno j (by simpa [heard] using hr) with h | h
          · exact h hp
          · exact h hc
        · rfl
  · intro s j me hr hid
    have retries (hp : j.phase = .retryWait) (ht : j.retryTimer ≠ none) :
        exec .retryTimerExpiry s = .next (beginSequence s) := by
      refine congrArg Host.Outcome.next ?_
      simp [retryExpiry, hr, hp, ht]
    refine ⟨fun x y l hp ht ho he hl hu => ?_, fun hp ht h0 h1 h => ?_, fun x l hp ht hx hl hu hst hg => ?_,
      fun x l raw f why hp hx hl hst hg acc hf => ⟨fun hs => ?_, fun hs => ?_⟩⟩
    · rw [retries hp ht, beginSequence_asks_first hr hid ho he hl hu]
      rfl
    · rw [retries hp ht, beginSequence_waits hr h0 h1 h]
      have role : waiting (afresh j) s = { j with
          tried := [], retry := j.retry - 1, candidate := none, replyTimer := none
          retryTimer := some s.mgmt.params.rejoinRetry } := by simp [waiting, afresh, hp]
      rw [role]
    · refine ⟨abortReceiving .stalled true s, ?_, abortReceiving_told .stalled hr (.inl hp) hx hl hid hu⟩
      refine congrArg Host.Outcome.next ((during_none _ _ hg).trans ?_)
      simp [receiveExpiry, hr, hp, ht]
    · refine ⟨abortReceiving why false (silenceRestarted l s), ?_, abortReceiving_silent why (by simpa using hr) hp hx⟩
      refine congrArg (fun t => Host.Outcome.next (settle t)) ((during_none _ _ hg).trans
        ((receiveFrame_accepted acc (by simp [Frame.kind, hf, Payload.kind]) (by decide)).trans ?_))
      simp [useAbort, hf, takeAbort, hr, (receiving_iff j).mpr hp, hx, hs]
    · refine congrArg (fun t => Host.Outcome.next (settle t)) ((during_none _ _ hg).trans
        ((receiveFrame_accepted acc (by simp [Frame.kind, hf, Payload.kind]) (by decide)).trans ?_))
      simp [useAbort, hf, takeAbort, hr, hx, Ne.symm hs]

end Sys2Proof.Machine
end

section
/-! A scrub step that meets an UNCORRECTABLE vital word: withdrawal, a receiving repair that ends, preparation that goes back
(R26, R101, R152, R170). -/

namespace Sys2Proof.Machine
-- One proof after the other: side by side they pass the memory that the check allows.
set_option Elab.async false

section
variable {s : State} {l w : Nat} {raw : Word}

/-- The state behind the read of an UNCORRECTABLE word and the walk's move, before the consequences. -/
def scrubMet (l w : Nat) (raw : Word) (s : State) : State :=
  scrubAdvance l w (reportUncorrectable .scrub (l * 256 + w) raw (spendAllowance w (ungranted s)))

/-- The step that meets an UNCORRECTABLE word has that word's consequences. -/
theorem exec_scrubStep_uncorrectable (hr : runs .scrub s) (hp : scrubPlace s = some (l, w))
    (hd : decodeStored (storedAt s (l * 256 + w)) (l * 256 + w) = .uncorrectable raw) :
    exec .scrubStep s = .next (settle (consequences .scrub [l * 256 + w] (scrubMet l w raw s))) := by
  have same : storedAt (spendAllowance w (ungranted s)) (l * 256 + w) = storedAt s (l * 256 + w) := by
    rw [spendAllowance_eq]
    rfl
  rw [exec_scrubStep hr, scrubBody, scrubWork_eq (s := ungranted s) hp, readWord_uncorrectable (by rw [same]; exact hd)]
  rfl

theorem scrubMet_class (l' : Nat) : classOf (scrubMet l w raw s) l' = classOf s l' := by
  simp [scrubMet, classOf, regionOf, ungranted]

theorem scrubMet_sig (hw : w < 256) (hv : classOf s l = some .vital) :
    (scrubMet l w raw s).sig = { s.sig with valid := false } := by
  have line : (l * 256 + w) / 256 = l := by omega
  have cls : classOf (spendAllowance w (ungranted s)) l = some .vital := by
    rw [spendAllowance_eq]
    exact hv
  simp [scrubMet, reportUncorrectable_eq, line, ungranted]
  exact fun _ => cls

theorem scrubMet_keeps : (scrubMet l w raw s).csr = s.csr ∧ (scrubMet l w raw s).jnl = s.jnl ∧
    (scrubMet l w raw s).repair = s.repair ∧ (scrubMet l w raw s).mem = s.mem ∧ (scrubMet l w raw s).port = s.port ∧
    (scrubMet l w raw s).regions = s.regions ∧ (scrubMet l w raw s).mgmt = s.mgmt ∧
    (scrubMet l w raw s).ev.health = s.ev.health ∧ (scrubMet l w raw s).out = s.out := by
  simp [scrubMet, ungranted]

end

/-- Settles O37: withdrawal, the end of a receiving repair, and preparation that goes back to its third step. -/
theorem uncorrectableVitalWordWithdrawsTheChannel : Obligations.UncorrectableVitalWordWithdrawsTheChannel := by
  refine ⟨?_, ?_⟩
  · intro s l w raw hr hp hd hv hw hst hrole hroll h1 h2 h3 h4
    obtain ⟨csr, jnl, repair, mem, port, regions, mgmt, health, -⟩ := scrubMet_keeps (s := s) (l := l) (w := w) (raw := raw)
    have sig := scrubMet_sig (s := s) (raw := raw) hw hv
    have cls : classOf (scrubMet l w raw s) ((l * 256 + w) / 256) = some .vital := by
      rw [scrubMet_class, show (l * 256 + w) / 256 = l by omega]
      exact hv
    have withdraws := consequences_signed (s := scrubMet l w raw s) (by_ := .scrub) (b := l * 256 + w) (bs := [])
      (fun a ha => by rw [List.mem_singleton.mp ha]; exact cls) (by rw [csr]; exact hst)
    have withdrew := withdraw_withdrew (s := scrubMet l w raw s) (by rw [sig]) (by rw [jnl]; exact hroll)
    obtain ⟨out, latch⟩ := withdraw_out (scrubMet l w raw s)
    have keepsHealth : (withdraw (scrubMet l w raw s)).ev.health = s.ev.health := by simpa using health
    rw [exec_scrubStep_uncorrectable hr hp hd, withdraws]
    obtain ⟨kmem, kport, -, kreg, -, -, -, kmgmt, -⟩ := withdrew.kept
    obtain ⟨vrec, v0, v1⟩ := withdrew.vote
    have broken : s.jnl.broken = false := by simp [JournalUnit.broken, h3, h4]
    have entries : s.jnl.entries = 0 := by simp [JournalUnit.entries, h1, h2]
    obtain ⟨wcsr, wsig, wjnl⟩ := withdrew.ends (.inr (by rw [jnl]; exact entries))
    obtain ⟨j, wrepair, phase, -, full, -, -, result⟩ := withdrew.role
    refine ⟨_, j, rfl, out, ?_, ?_, ?_, latch, keepsHealth, ?_, vrec, v0, v1, ?_, ?_, ?_, phase, ?_, full, kmem.trans mem,
      kport.trans port, kreg.trans regions, kmgmt.trans mgmt⟩
    · rw [wcsr, csr]
    · rw [wcsr, csr]
    · rw [wcsr, csr]
    · rw [wsig, sig]
    · rw [wjnl]
      rfl
    · rw [wjnl]
      rfl
    · rw [wrepair]
    · rw [result, jnl, broken, entries]
      rfl
  · intro s l w raw me hr hp hd hv hw hid read
    have met : scrubMet l w raw s = read := by
      have line : (l * 256 + w) / 256 = l := by omega
      have cls : classOf (spendAllowance w (ungranted s)) l = some .vital := by
        rw [spendAllowance_eq]
        exact hv
      rw [scrubMet, scrubAdvance_word hw, reportUncorrectable_eq, line, spendAllowance_eq]
      refine State.ext_parts rfl rfl rfl rfl rfl rfl rfl rfl rfl ?_ rfl rfl rfl rfl rfl rfl ?_ rfl
      · have cls' : classOf (ungranted s) l = some .vital := hv
        simp [read, ungranted, classOf, regionOf] at cls' ⊢
        simp [cls']
      · exact evAfter_of _ _ _ _ _ _ rfl rfl rfl rfl
    have cls : ∀ a ∈ [l * 256 + w], classOf read (a / 256) = some .vital := fun a ha => by
      rw [List.mem_singleton.mp ha, show (l * 256 + w) / 256 = l by omega]
      exact hv
    have run := exec_scrubStep_uncorrectable hr hp hd
    rw [met, consequences_vital cls] at run
    have csr : read.csr = s.csr := rfl
    refine ⟨fun r hst hrole hup hroll h1 h2 h3 h4 => ?_, fun j x k hst hrole hph hx hk hup => ?_,
      fun j hst hrole hph hwalk => ?_⟩
    · have withdrew := withdraw_withdrew (s := read) rfl hroll
      have broken : read.jnl.broken = false := by simp [read, JournalUnit.broken, h3, h4]
      have entries : read.jnl.entries = 0 := by simp [read, JournalUnit.entries, h1, h2]
      obtain ⟨kmem, -, -, -, -, -, kscrub, -, -⟩ := withdrew.kept
      obtain ⟨wcsr, wsig, wjnl⟩ := withdrew.ends (.inr entries)
      obtain ⟨j, wrepair, phase, -, -, -, -, result⟩ := withdrew.role
      have hrole' : read.repair.role = .source r := hrole
      refine ⟨withdraw read, j, ?_, wcsr, kmem, kscrub, withdrew.vote.1, ?_, wsig, ?_, phase, ?_, ?_, ?_⟩
      · rw [run, csr]
        rcases hst with h | h <;> simp only [h]
      · rw [wjnl]
        rfl
      · rw [wrepair, hrole']
      · rw [result, broken, entries]
        rfl
      · exact withdrew.told r me hrole' hid (by cases hk : r.link <;> rw [hk] at hup <;> exact hup)
      · rw [withdrew.records, if_neg (by rw [broken]; exact Bool.false_ne_true), hrole']
        exact evAfter_of _ _ _ _ _ _ rfl rfl rfl (evAfter_of _ _ _ _ _ _ rfl rfl rfl rfl)
    · refine ⟨abortReceiving .joinerFault true read, ?_, abortReceiving_told .joinerFault hrole hph hx hk hid
        (by cases k <;> exact hup)⟩
      rw [run, csr, hst]
    · rw [run, csr, hst]
      have walk : ¬ (read.sig.walk = .preparation ∧ ReadBy.scrub ≠ .rebuild) := fun h => hwalk h.1
      have role : read.repair.role = .joiner j := hrole
      simp only [vitalInOut, role, walk, hph, if_true, if_false, restartPreparation]
      refine congrArg (fun t => Host.Outcome.next (settle t)) ?_
      cases hc : j.candidate with
      | none => exact prepareSignature_walks rfl
      | some i =>
        simp only [setRelation_eq]
        exact prepareSignature_walks rfl

end Sys2Proof.Machine
end

section
/-! The timers of a link (R138, R140, R142, R144, R145). -/

namespace Sys2Proof.Machine
-- One proof after the other: side by side they pass the memory that the check allows.
set_option Elab.async false

/-! ### Entry to HAILING (R138) -/

/-- A HAIL goes out on a link that hails. -/
theorem sendHail_hails {l : LinkId} {s : State} {me : Identity} (hid : s.mgmt.params.channelId = some me)
    (h : (getLink s l).status = .hailing ∨ (getLink s l).status = .mismatch) : sendHail l s = transmit l
      { ack := decide ((getLink s l).status = .hailing) && (getLink s l).heard.isSome
        mismatch := decide ((getLink s l).status = .mismatch), relayed := false, sender := me, originator := me
        payload := .hail s.mgmt.digest (some s.csr.state) s.csr.counter s.csr.committed } s := by
  rcases h with h | h <;> simp [sendHail, hid, sendFrame, h, Frame.kind, Payload.kind]

theorem enterHailing_eq {l : LinkId} {s : State} {me : Identity} (hid : s.mgmt.params.channelId = some me) :
    enterHailing l s = hailsAfresh l me s := by
  simp only [enterHailing, hailsAfresh]
  split
  · rw [sendHail_hails (me := me) (by simpa using hid) (.inl (by simp))]
    simp [ownFrame, Config.hailMs]
  · rfl

/-- In ACTIVE mode a HAIL without flags has gone out, and the hail timer runs. -/
theorem hailsAfresh_active {l : LinkId} {me : Identity} {s : State} (h : (getLink s l).mode = .active) : hailsAfresh l me s =
    transmit l (ownFrame me (.hail s.mgmt.digest (some s.csr.state) s.csr.counter s.csr.committed)) (updLink l (fun k => { k with
      status := .hailing, heard := none, peer := none, silenceTimer := none, beatTimer := none, quietTimer := none
      hailTimer := some 1 }) s) := by
  simp only [hailsAfresh, h, if_true]
  exact congrArg _ (updLink_congr (by simp [h]))

/-- In another mode nothing goes out, and no hail timer runs. -/
theorem hailsAfresh_other {l : LinkId} {me : Identity} {s : State} (h : (getLink s l).mode ≠ .active) : hailsAfresh l me s =
    updLink l (fun k => { k with
      status := .hailing, heard := none, peer := none, silenceTimer := none, beatTimer := none, quietTimer := none
      hailTimer := none }) s := by
  simp only [hailsAfresh, h, if_false]
  exact updLink_congr (by simp [h])

/-! ### Leaving UP (R144) -/

/-- The state in which the repair unit is told that a link has left UP. -/
def linkLeft (l : LinkId) (x : Identity) (next : LinkStatus) (s : State) : State :=
  updPeer x (fun y => { y with link := none, state := none }) (updLink l (fun k => { k with
    status := next, silenceTimer := none, beatTimer := none, buffer := [], holdSent := false, peerHolding := false }) s)

theorem leaveUp_eq {l : LinkId} {x : Identity} {s : State} (c : LinkCause) (next : LinkStatus) (hp : (getLink s l).peer = some x) :
    leaveUp l c next s = updLink l (fun k => { k with peer := none })
      (hand .linkState c.code (.link l) (wordOf x.code) (repairLinkLost l x (linkLeft l x next s))) := by
  simp only [leaveUp, hp]
  rfl

theorem linkLeft_keeps (l : LinkId) (x : Identity) (next : LinkStatus) (s : State) :
    (linkLeft l x next s).csr = s.csr ∧ (linkLeft l x next s).repair = s.repair ∧ (linkLeft l x next s).mgmt = s.mgmt ∧
    (linkLeft l x next s).sig = s.sig ∧ (linkLeft l x next s).mem = s.mem ∧ (linkLeft l x next s).jnl = s.jnl ∧
    (linkLeft l x next s).ev = s.ev ∧ (linkLeft l x next s).regions = s.regions ∧
    (linkLeft l x next s).vote.record = s.vote.record := by
  simp [linkLeft]

/-- No role has the link's peer as its partner: nothing is lost. -/
theorem repairLinkLost_none {l : LinkId} {x : Identity} {s : State} (h : (∀ r, s.repair.role = .source r → r.link ≠ l) ∧
    ∀ j, s.repair.role = .joiner j →
      (j.receiving = true → j.link ≠ some l) ∧ (j.phase = .requesting → j.candidate ≠ some x)) :
    repairLinkLost l x s = s := by
  obtain ⟨hs, hj⟩ := h
  unfold repairLinkLost
  split
  · rename_i r hr
    exact if_neg (hs r hr)
  · rename_i j hr
    obtain ⟨h1, h2⟩ := hj j hr
    split
    · rename_i hrec
      exact if_neg (h1 hrec)
    · refine if_neg ?_
      rintro ⟨hp, hc⟩
      exact h2 hp hc
  · rfl

theorem repairLinkLost_source {l : LinkId} {x : Identity} {s : State} {r : SourceRole} (hr : s.repair.role = .source r)
    (hl : r.link = l) : repairLinkLost l x s = sourceEnded r 8 s := by
  simp only [repairLinkLost, hr, hl, if_true]
  exact abortSource_silent .linkLost hr

theorem repairLinkLost_requesting {l : LinkId} {x : Identity} {s : State} {j : JoinerRole} (hr : s.repair.role = .joiner j)
    (hp : j.phase = .requesting) (hc : j.candidate = some x) : repairLinkLost l x s = failTry s := by
  simp [repairLinkLost, hr, JoinerRole.receiving, hp, hc]

theorem repairLinkLost_receiving {l : LinkId} {x : Identity} {s : State} {j : JoinerRole} (hr : s.repair.role = .joiner j)
    (hp : j.phase = .receiving ∨ j.phase = .closing) (hl : j.link = some l) :
    repairLinkLost l x s = abortReceiving .linkLost false s := by
  simp [repairLinkLost, hr, (receiving_iff j).mpr hp, hl]

/-! ### Two changes of peers -/

/-- Changes of peers' entries that commute on one entry commute. -/
theorem voteWith_comm {f g : Peer → Peer} (h : ∀ y, f (g y) = g (f y)) (me : Option Identity) (x y : Identity) (v : VoteUnit) :
    voteWith me x f (voteWith me y g v) = voteWith me y g (voteWith me x f v) := by
  simp only [voteWith]
  cases otherIds me with
  | none => rfl
  | some p =>
    obtain ⟨a, b⟩ := p
    by_cases xa : x = a <;> by_cases ya : y = a <;> by_cases xb : x = b <;> by_cases yb : y = b <;> simp_all

/-! ### What a return to OUT leaves of the links -/

/-- After its return to OUT every link has its status, and the joiner receives no more. -/
theorem joinerReturn_links {c : Cause} {s : State} {j : JoinerRole} (hr : s.repair.role = .joiner j) :
    (∀ l, (getLink (joinerReturn c s) l).status = (getLink s l).status) ∧
    ∃ j1, (joinerReturn c s).repair.role = .joiner j1 ∧ j1.phase ≠ .receiving ∧ j1.phase ≠ .closing := by
  have goesOn {u : State} (hu : u.repair.role = .joiner (returnedRole j)) (hs : ∀ l, (getLink u l).status = (getLink s l).status) :
      (∀ l, (getLink (prepareSignature (settleBuffers u)) l).status = (getLink s l).status) ∧
      ∃ j1, (prepareSignature (settleBuffers u)).repair.role = .joiner j1 ∧ j1.phase ≠ .receiving ∧ j1.phase ≠ .closing := by
    have m : LinksMoved u (settleBuffers u) := .settleBuffers
    have role : (settleBuffers u).repair.role = .joiner (returnedRole j) := by simpa using hu
    cases hv : (settleBuffers u).sig.valid with
    | false =>
      rw [prepareSignature_walks hv]
      exact ⟨fun l => Eq.trans (by cases l <;> rfl) ((m.status l).trans (hs l)), returnedRole j, role, by simp [returnedRole, freshJoiner],
        by simp [returnedRole, freshJoiner]⟩
    | true =>
      rw [prepareSignature_lost role hv rfl]
      have sought := beginSequence_sought (s := { settleBuffers u with repair.role := .joiner { returnedRole j with
        base := none, need := [], baseLost := true, retry := (settleBuffers u).mgmt.params.rejoinRetries } }) rfl
      obtain ⟨j1, hj1, phase⟩ := sought.phase
      refine ⟨fun l => (sought.status l).trans (Eq.trans (by cases l <;> rfl) ((m.status l).trans (hs l))), j1, hj1, ?_, ?_⟩ <;>
        rcases phase with h | h | h <;> rw [h] <;> decide
  simp only [joinerReturn, hr]
  refine goesOn rfl fun l => ?_
  cases hx : j.source with
  | none => cases l <;> simp [getLink]
  | some i => cases l <;> simp [getLink]

/-- Settles O46: the timers of a link act and restart. -/
theorem linkTimersActAndRestart : Obligations.LinkTimersActAndRestart := by
  have silent {l : LinkId} {x : Identity} {s : State} (ht : (getLink s l).silenceTimer ≠ none) (hp : (getLink s l).peer = some x) :
      silenceExpiry l s = updLink l (fun k => { k with peer := none }) (hand .linkState 2 (.link l) (wordOf x.code)
        (repairLinkLost l x (linkLeft l x .quiet (updLink l (fun k => { k with quietTimer := some 4 }) s)))) := by
    rw [silenceExpiry, if_pos (Option.isSome_iff_ne_none.mpr ht), leaveUp_eq _ _ (by simpa using hp)]
    rfl
  refine ⟨?_, ?_⟩
  · intro l me s hid k
    refine ⟨fun ht hs => ?_, fun ht => ?_, fun ht => ?_, fun ht => ?_, fun x ht hp hr => ?_, fun ht => ?_, fun ht hs => ?_,
      fun ht => ?_⟩
    · refine congrArg Host.Outcome.next ?_
      rw [hailExpiry, if_pos (Option.isSome_iff_ne_none.mpr ht), sendHail_hails hid hs]
      rfl
    · exact congrArg Host.Outcome.next (if_neg (by simp [show (getLink s l).hailTimer = none from ht]))
    · refine ⟨hailsAfresh l me s, ?_, ?_⟩
      · refine congrArg Host.Outcome.next ?_
        rw [quietExpiry, if_pos (Option.isSome_iff_ne_none.mpr ht), enterHailing_eq hid]
      · by_cases hm : (getLink s l).mode = .active
        · rw [hailsAfresh_active hm, if_pos (show k.mode = .active from hm), if_pos (show k.mode = .active from hm)]
          cases l <;> exact ⟨rfl, rfl, rfl, rfl, rfl⟩
        · rw [hailsAfresh_other hm, if_neg (show k.mode ≠ .active from hm), if_neg (show k.mode ≠ .active from hm), List.append_nil]
          cases l <;> exact ⟨rfl, rfl, rfl, rfl, rfl⟩
    · exact congrArg Host.Outcome.next (if_neg (by simp [show (getLink s l).quietTimer = none from ht]))
    · have lost : repairLinkLost l x (linkLeft l x .quiet (updLink l (fun k => { k with quietTimer := some 4 }) s)) =
          linkLeft l x .quiet (updLink l (fun k => { k with quietTimer := some 4 }) s) :=
        repairLinkLost_none (by simp [linkLeft, hr])
      have eq := silent ht hp
      rw [lost, hand_as_evAfter] at eq
      refine congrArg (fun t => Host.Outcome.next (settle t)) ?_
      rw [during_undisturbed _ _ (by rw [eq]; exact disturbs_of_kept (by simp [linkLeft]) (by simp [linkLeft]) (by simp [linkLeft])),
        eq]
      refine State.ext_ev ?_ ?_
      · simp only [linkLeft, updPeer_eq]
        cases l <;> rfl
      · simp only [updLink_keeps]
        exact evAfter_of _ _ _ _ _ _ (by simp [linkLeft]) (by simp [linkLeft]) (by simp [linkLeft]) (by simp [linkLeft])
    · have still : silenceExpiry l s = s := if_neg (by simp [show (getLink s l).silenceTimer = none from ht])
      refine congrArg (fun t => Host.Outcome.next (settle t)) ?_
      rw [during_undisturbed _ _ (by rw [still]; exact disturbs_of_kept rfl rfl rfl), still]
    · refine congrArg Host.Outcome.next ?_
      rw [beatExpiry, if_pos (Option.isSome_iff_ne_none.mpr ht), send_up hid hs]
    · exact congrArg Host.Outcome.next (if_neg (by simp [show (getLink s l).beatTimer = none from ht]))
  · intro l x s ht hp hg gone
    have acts : exec (.silenceTimerExpiry l) s = .next (settle (silenceExpiry l s)) :=
      congrArg (fun t => Host.Outcome.next (settle t)) (during_none _ _ hg)
    have role : (linkLeft l x .quiet (updLink l (fun k => { k with quietTimer := some 4 }) s)).repair = s.repair := by
      simp [linkLeft]
    rw [acts, silent ht hp]
    refine ⟨fun r hr hl => ?_, fun j me hr hid hph hc htr h => ?_, fun j hr hph hl hx hv => ?_⟩
    · intro ended
      rw [repairLinkLost_source (r := r) (by rw [role]; exact hr) hl, hand_as_evAfter]
      refine congrArg (fun t => Host.Outcome.next (settle t)) (State.ext_ev ?_ ?_)
      · simp only [sourceEnded, linkLeft, gone, ended, setRelation_eq, updPeer_eq]
        have commute := voteWith_comm (f := fun y => { y with relation := none })
          (g := fun y => { y with link := none, state := none }) (fun _ => rfl) s.mgmt.params.channelId r.joiner x s.vote
        cases l <;> exact State.ext_parts rfl rfl rfl rfl rfl rfl rfl rfl rfl rfl rfl commute rfl rfl rfl rfl rfl rfl
      · simp only [updLink_keeps, gone, updPeer_keeps, setRelation_keeps]
        refine evAfter_of _ _ _ _ ended _ ?_ ?_ ?_ (evAfter_of _ _ _ _ _ _ ?_ ?_ ?_ ?_) <;> simp [sourceEnded, linkLeft, ended]
    · rw [repairLinkLost_requesting (j := j) (by rw [role]; exact hr) hph hc,
        failTry_waits (j := j) (me := me) (by rw [role]; exact hr) hc (by simpa [linkLeft] using hid) htr h, hand_as_evAfter]
      refine congrArg (fun t => Host.Outcome.next (settle t)) (State.ext_ev ?_ ?_)
      · simp only [linkLeft, gone, setRelation_eq, updPeer_eq]
        have commute := voteWith_comm (f := fun y => { y with relation := none })
          (g := fun y => { y with link := none, state := none }) (fun _ => rfl) s.mgmt.params.channelId x x s.vote
        cases l <;> exact State.ext_parts rfl rfl rfl rfl rfl rfl rfl rfl rfl rfl rfl commute rfl rfl rfl rfl rfl rfl
      · simp only [updLink_keeps, gone, updPeer_keeps, setRelation_keeps]
        refine evAfter_of _ _ _ _ s _ ?_ ?_ ?_ ?_ <;> simp [linkLeft]
    · obtain ⟨csr, -, -, sig, mem, jnl, -, -, -⟩ :=
        linkLeft_keeps l x .quiet (updLink l (fun k => { k with quietTimer := some 4 }) s)
      have link : getLink (linkLeft l x .quiet (updLink l (fun k => { k with quietTimer := some 4 }) s)) l =
          { getLink s l with
            status := .quiet, quietTimer := some 4, silenceTimer := none, beatTimer := none, buffer := [], holdSent := false
            peerHolding := false } := by
        simp only [linkLeft, updPeer_eq]
        cases l <;> rfl
      rw [repairLinkLost_receiving (j := j) (by rw [role]; exact hr) hph hl]
      generalize hu : linkLeft l x .quiet (updLink l (fun k => { k with quietTimer := some 4 }) s) = u at *
      have hr' : u.repair.role = .joiner j := by rw [role]; exact hr
      have back := abortReceiving_silent (l := l) .linkLost hr' hph hx
      obtain ⟨statuses, j2, hj2, p1, p2⟩ := joinerReturn_links (c := .repairAbort) (j := j)
        (s := hand .repair 8 (.peer x) (wordOf j.linesWritten) u) (by simpa using hr')
      have eq := abortReceiving_eq (s := u) .linkLost false hr' hph hx
      rw [if_neg Bool.false_ne_true] at eq
      rw [show (3 : Nat) + AbortReason.linkLost.code = 8 from rfl] at eq back
      rw [← eq] at statuses hj2
      generalize abortReceiving .linkLost false u = v at *
      obtain ⟨kmem, -, kjnl, -, -, -, -, -, -, -⟩ := back.kept
      obtain ⟨j1, hj1, base, need, -, -, -, valid⟩ := back.role
      have same : j1 = j2 := by
        have := hj2
        rw [hj1] at this
        exact Role.joiner.inj this
      have sigv : v.sig = s.sig := ((valid (by rw [sig]; simpa using hv)).1).trans (by rw [sig]; simp)
      refine ⟨_, j1, rfl, ?_, ?_, ?_, ?_, ?_, ?_, base, need, ?_, ?_, ?_, ?_, ?_⟩
      · simp [back.csr]
      · simp [back.csr, csr]
      · simpa using sigv
      · simp [kmem, mem]
      · simp [kjnl, jnl]
      · simp [hj1]
      · rw [same]; exact p1
      · rw [same]; exact p2
      · have : (getLink v l).status = .quiet := by
          rw [statuses l]
          have : (getLink u l).status = .quiet := by rw [link]
          cases l <;> simpa [getLink] using this
        cases l <;> simpa [updLink, getLink] using this
      · obtain ⟨b1, b2⟩ := back.buffers
        cases l
        · simpa [updLink, getLink] using b1
        · simpa [updLink, getLink] using b2
      · simp

end Sys2Proof.Machine
end

section
/-! A HAIL in HAILING, in MISMATCH and in UP (R138 to R144). -/

namespace Sys2Proof.Machine
-- One proof after the other: side by side they pass the memory that the check allows.
set_option Elab.async false

/-! ### A HAIL in HAILING (R139) -/

section
variable {l : LinkId} {s : State} {me : Identity} {h : Hail}

/-- The other link is UP with this sender as its peer. -/
def othersPeer (l : LinkId) (x : Identity) (s : State) : Prop :=
  (getLink s (otherLink l)).status = .up ∧ (getLink s (otherLink l)).peer = some x

theorem hailConflict_digest (hd : h.digest ≠ s.mgmt.digest) :
    hailConflict l h.digest h.sender s = some (1, wordOf h.digest.toNat) := if_pos hd

theorem hailConflict_self (hid : s.mgmt.params.channelId = some me) (hd : h.digest = s.mgmt.digest) (hx : h.sender = me) :
    hailConflict l h.digest h.sender s = some (2, wordOf h.sender.code) := by
  simp [hailConflict, hd, hid, hx]

theorem hailConflict_duplicate (hid : s.mgmt.params.channelId = some me) (hd : h.digest = s.mgmt.digest) (hx : h.sender ≠ me)
    (ho : othersPeer l h.sender s) : hailConflict l h.digest h.sender s = some (3, wordOf h.sender.code) := by
  obtain ⟨h1, h2⟩ := ho
  simp [hailConflict, hd, hid, Ne.symm hx, h1, h2]

theorem hailConflict_none (hid : s.mgmt.params.channelId = some me) (hd : h.digest = s.mgmt.digest) (hx : h.sender ≠ me)
    (ho : ¬ othersPeer l h.sender s) : hailConflict l h.digest h.sender s = none := by
  simp only [hailConflict, hd, hid, ne_eq, not_true_eq_false, if_false, Option.some.injEq, Ne.symm hx]
  exact if_neg ho

/-- A HAIL of this channel's own, as it stands in a state. -/
def ownHail (me : Identity) (ack mismatch : Bool) (s : State) : Frame :=
  { ownFrame me (.hail s.mgmt.digest (some s.csr.state) s.csr.counter s.csr.committed) with ack := ack, mismatch := mismatch }

/-- Entry to MISMATCH, with the answer of a PASSIVE link (log entry 19). -/
theorem enterMismatch_eq {u : Nat × Word} (hid : s.mgmt.params.channelId = some me) : enterMismatch l u s =
    let t := updLink l (fun k => { k with status := .mismatch, heard := none })
      { s with ev := evAfter .configMismatch u.1 (.link l) u.2 s }
    if (getLink s l).mode = .passive then transmit l (ownHail me false true s) t else t := by
  have told : hand .configMismatch u.1 (.link l) u.2 (updLink l (fun k => { k with status := .mismatch, heard := none }) s) =
      updLink l (fun k => { k with status := .mismatch, heard := none })
        { s with ev := evAfter .configMismatch u.1 (.link l) u.2 s } := by
    rw [hand_as_evAfter]
    refine State.ext_ev (by cases l <;> rfl) ?_
    simp only [updLink_keeps]
    exact evAfter_of _ _ _ _ _ _ (by simp) (by simp) (by simp) (by simp)
  simp only [enterMismatch, told]
  split
  · rw [sendHail_hails (me := me) (by simpa using hid) (.inr (by simp))]
    cases l <;> rfl
  · rfl

/-- A HAIL that goes out with ACK on a link in HAILING that has heard a sender. -/
theorem sendHail_heard {x : Identity} (hid : s.mgmt.params.channelId = some me) (hs : (getLink s l).status = .hailing) :
    sendHail l (updLink l (fun k => { k with heard := some x }) s) =
      updLink l (fun k => { k with heard := some x }) (transmit l (ownHail me true false s) s) := by
  rw [sendHail_hails (me := me) (by simpa using hid) (.inl (by simpa using hs))]
  cases l <;> simp [hs] <;> rfl

theorem voteWith_voteWith (f g : Peer → Peer) (me : Option Identity) (x : Identity) (v : VoteUnit) :
    voteWith me x f (voteWith me x g v) = voteWith me x (fun y => f (g y)) v := by
  simp only [voteWith]
  cases otherIds me with
  | none => rfl
  | some p =>
    obtain ⟨a, b⟩ := p
    by_cases xa : x = a <;> by_cases xb : x = b <;> simp_all

/-- A link that has come UP with the sender of a HAIL, whose report it was (R141). -/
def raisedBy (l : LinkId) (x : Identity) (st : Option ChannelState) (k n : Cycle) (s : State) : State :=
  updLink l (fun y => { y with
    status := .up, peer := some x, heard := none, hailTimer := none
    silenceTimer := some (max s.mgmt.params.silence (2 * s.mgmt.params.beat))
    beatTimer := some s.mgmt.params.beat, holdSent := false, peerHolding := false })
    { updPeer x (fun y => { y with state := st, counter := k, committed := n, link := some l }) s with
      ev := evAfter .linkState 1 (.link l) (wordOf x.code) s }

theorem enterUp_reported (x : Identity) (st : Option ChannelState) (k n : Cycle) :
    enterUp l x (reported x st k n s) = raisedBy l x st k n s := by
  simp only [enterUp, hand_as_evAfter, reported, raisedBy, updPeer_eq]
  refine State.ext_ev ?_ ?_
  · have once := voteWith_voteWith (fun y => { y with link := some l })
      (fun y => { y with state := st, counter := k, committed := n }) s.mgmt.params.channelId x s.vote
    cases l <;> exact State.ext_parts rfl rfl rfl rfl rfl rfl rfl rfl rfl rfl rfl once rfl rfl rfl rfl rfl rfl
  · simp only [updLink_keeps]
    refine evAfter_of _ _ _ _ _ _ ?_ ?_ ?_ ?_ <;> simp

/-- A HAIL with ACK that found another sender heard, or none: the answer goes out before the link comes UP. -/
theorem enterUp_answered {x y : Identity} {st : Option ChannelState} {k n : Cycle} {f : Frame} :
    enterUp l x (updLink l (fun k => { k with heard := some y }) (transmit l f (reported x st k n s))) =
      transmit l f (raisedBy l x st k n s) := by
  rw [← enterUp_reported]
  simp only [enterUp, hand_as_evAfter, reported, updPeer_eq]
  refine State.ext_ev ?_ ?_
  · cases l <;> rfl
  · simp only [transmit_keeps]
    refine evAfter_of _ _ _ _ _ _ ?_ ?_ ?_ ?_ <;> simp

end

/-! ### A link that has left UP, and its peer -/

section
variable {l : LinkId} {s t : State}

/-- The link has no peer. -/
def peerless (l : LinkId) (s : State) : State := updLink l (fun k => { k with peer := none }) s

theorem peerless_linkLeft (x : Identity) : peerless l (linkLeft l x .hailing s) = linkGone l x s := by
  simp only [peerless, linkLeft, linkGone, updPeer_eq]
  cases l <;> rfl

theorem sendFrame_peerless (k : LinkId) (f : Frame) : sendFrame k f (peerless l s) = peerless l (sendFrame k f s) := by
  have status : (getLink (peerless l s) k).status = (getLink s k).status := by cases l <;> cases k <;> rfl
  simp only [sendFrame, status]
  split
  · cases l <;> cases k <;> rfl
  · split
    · cases l <;> cases k <;> rfl
    · rfl
  · split
    · cases l <;> cases k <;> rfl
    · rfl
  · rfl
  · rfl

theorem send_peerless (k : LinkId) (pl : Payload) : send k pl (peerless l s) = peerless l (send k pl s) := by
  have id_ : (peerless l s).mgmt = s.mgmt := by simp [peerless]
  simp only [send, id_]
  split
  · rfl
  · exact sendFrame_peerless k _

theorem setRelation_peerless (i : Identity) (r : Option Relation) (role : Role) :
    setRelation i r { peerless l s with repair.role := role } =
      peerless l (setRelation i r { s with repair.role := role }) := by
  simp only [setRelation_eq]
  cases l <;> rfl

theorem sendRequest_peerless (i : Identity) : sendRequest i (peerless l s) = peerless l (sendRequest i s) := by
  have role : (peerless l s).repair.role = s.repair.role := by simp [peerless]
  have slot : peerSlot (peerless l s) i = peerSlot s i := by simp [peerSlot, peerless]
  have peer (b : Bool) : getPeer (peerless l s) b = getPeer s b := by cases b <;> simp [getPeer, peerless]
  have asked (j : JoinerRole) : setRelation i (some .joinerOf) { peerless l s with repair.role := .joiner { j with
        phase := .requesting, candidate := some i, replyTimer := some (peerless l s).mgmt.params.voteWindow } } =
      peerless l (setRelation i (some .joinerOf) { s with repair.role := .joiner { j with
        phase := .requesting, candidate := some i, replyTimer := some s.mgmt.params.voteWindow } }) := by
    simp only [setRelation_eq]
    cases l <;> rfl
  simp only [sendRequest, role, slot, peer, asked]
  split
  · split
    · exact send_peerless _ _
    · rfl
  · rfl

theorem endSequence_peerless : endSequence (peerless l s) = peerless l (endSequence s) := by
  have role : (peerless l s).repair.role = s.repair.role := by simp [peerless]
  have params : (peerless l s).mgmt = s.mgmt := by simp [peerless]
  simp only [endSequence, role, params]
  split
  · split
    · cases l <;> rfl
    · simp only [hand_as_evAfter]
      refine State.ext_ev (by cases l <;> rfl) ?_
      simp only [peerless, updLink_keeps]
      refine evAfter_of _ _ _ _ _ _ ?_ ?_ ?_ ?_ <;> simp
  · rfl

theorem tryNext_peerless : tryNext (peerless l s) = peerless l (tryNext s) := by
  have role : (peerless l s).repair.role = s.repair.role := by simp [peerless]
  have next (j : JoinerRole) : nextCandidate j (peerless l s) = nextCandidate j s := by simp [nextCandidate, peerless]
  simp only [tryNext, role, next]
  split
  · split
    · rw [← sendRequest_peerless]
      cases l <;> rfl
    · exact endSequence_peerless
  · rfl

/-- A try that fails does not look at what the links' peers are. -/
theorem failTry_peerless : failTry (peerless l s) = peerless l (failTry s) := by
  have role : (peerless l s).repair.role = s.repair.role := by simp [peerless]
  simp only [failTry, role]
  split
  · rename_i j hr
    rw [← tryNext_peerless]
    cases j.candidate with
    | none => cases l <;> rfl
    | some i => exact congrArg tryNext (setRelation_peerless i none _)
  · rfl

/-- A return to OUT does not look at what the links' peers are. -/
theorem ReturnedToOut.withoutPeer {j : JoinerRole} {x : Identity} {k : LinkId} {d c : Nat} {parting : List Frame}
    (h : ReturnedToOut s t j x k d c parting) : ReturnedToOut (peerless l s) (peerless l t) j x k d c parting := by
  have keep (u : State) := updLink_keeps l (fun k => { k with peer := none }) u
  have frames (u : State) (k : LinkId) : framesOf (peerless l u) k = framesOf u k := by cases l <;> cases k <;> rfl
  have status (u : State) (k : LinkId) : (getLink (peerless l u) k).status = (getLink u k).status := by
    cases l <;> cases k <;> rfl
  obtain ⟨csr, kept, slots, buffers, told, role, records⟩ := h
  refine ⟨?_, ?_, ?_, ?_, ?_, ?_, ?_⟩
  · simpa [peerless] using csr
  · simpa [peerless] using kept
  · simpa [peerless] using slots
  · cases l <;> exact buffers
  · rw [frames, frames]
    exact told
  · obtain ⟨j1, hrep, base, need, lost, full, invalid, valid⟩ := role
    refine ⟨j1, by simpa [peerless] using hrep, base, need, lost, full, by simpa [peerless] using invalid, fun hv => ?_⟩
    obtain ⟨hsig, first, none_⟩ := valid (by simpa [peerless] using hv)
    refine ⟨by simpa [peerless] using hsig, fun me y z k hid ho he hk hu => ?_, fun h0 h1 hr => ?_⟩
    · rw [frames]
      have := first me y z k (by simpa [peerless] using hid) ho (by simpa [peerless] using he) (by simpa [peerless] using hk)
        (by rw [status] at hu; exact hu)
      simpa [peerless] using this
    · have := none_ (by simpa [peerless] using h0) (by simpa [peerless] using h1) (by simpa [peerless] using hr)
      simpa [peerless] using this
  · intro h repaired
    have h := records (by simpa [peerless] using h)
    have same : (peerless l t).ev = t.ev := by simp [peerless]
    rw [same, h]
    have csr : (peerless l s).csr = s.csr := by simp [peerless]
    rw [csr]
    have first : evAfter .repair d (.peer x) (wordOf j.linesWritten) (peerless l s) =
        evAfter .repair d (.peer x) (wordOf j.linesWritten) s := by
      refine evAfter_of _ _ _ _ _ _ ?_ ?_ ?_ ?_ <;> simp [peerless]
    refine (evAfter_of _ _ _ _ _ _ ?_ ?_ ?_ ?_).symm
    · simp [peerless]
    · simp [peerless]
    · simp [repaired, peerless]
    · exact first

end

/-! ### The reception of a HAIL -/

section
variable {l : LinkId} {raw : List Byte} {s : State} {f : Frame} {d : BitVec 32} {st : Option ChannelState} {k n : Cycle}
  {me : Identity}

/-- The fields of a frame's HAIL. -/
def hailFields (f : Frame) (d : BitVec 32) (st : Option ChannelState) (k n : Cycle) : Hail :=
  { ack := f.ack, mismatch := f.mismatch, sender := f.sender, digest := d, state := st, counter := k, committed := n }

/-- A HAIL that is taken: its effect, where the step disturbs nothing or no grant is under way. -/
theorem exec_hailReceive {u : State} (hc : checkFrame raw = some f) (hf : f.payload = .hail d st k n)
    (hs : (getLink s l).status = .hailing ∨ (getLink s l).status = .mismatch ∨ (getLink s l).status = .up)
    (hu : takeHail l (hailFields f d st k n) s = u) (calm : s.arb.grant = none ∨ disturbs s u = false) :
    exec (.hailReceive l raw) s = .next (settle u) := by
  have event : receiveFrame l .hail raw (useHail l) s = u := by
    refine (receiveFrame_hail ?_ ?_ hc (by simp [Frame.kind, hf, Payload.kind])).trans ?_
    · rcases hs with h | h | h <;> simp [h]
    · rcases hs with h | h | h <;> simp [h]
    · simp only [useHail, hf]
      exact hu
  refine congrArg (fun t => Host.Outcome.next (settle t)) ?_
  rcases calm with h | h
  · rw [during_none _ _ h, event]
  · rw [during_undisturbed _ _ (by rw [event]; exact h), event]

theorem takeHail_hailing {h : Hail} (hs : (getLink s l).status = .hailing) : takeHail l h s = hailInHailing l h s := by
  simp only [takeHail, hs]

theorem takeHail_mismatch {h : Hail} (hs : (getLink s l).status = .mismatch) : takeHail l h s = hailInMismatch l h s := by
  simp only [takeHail, hs]

theorem takeHail_up {h : Hail} (hs : (getLink s l).status = .up) : takeHail l h s = hailInUp l h s := by
  simp only [takeHail, hs]

/-- A matching HAIL without flags is answered with ACK, and its sender is heard. -/
theorem hailInHailing_answers {h : Hail} (hid : s.mgmt.params.channelId = some me) (hs : (getLink s l).status = .hailing)
    (hst : s.csr.state ≠ .held) (hn : hailConflict l h.digest h.sender s = none) (hm : h.mismatch = false)
    (ha : h.ack = false) : hailInHailing l h s = updLink l (fun y => { y with heard := some h.sender })
      (transmit l (ownHail me true false s) (reported h.sender h.state h.counter h.committed s)) := by
  have status : (getLink (reported h.sender h.state h.counter h.committed s) l).status = .hailing := by
    cases l <;> simpa [getLink] using hs
  simp only [hailInHailing, hn, hm, ha, updateReport_away hst, Bool.not_false, if_true, Bool.false_eq_true, if_false]
  rw [sendHail_heard (me := me) (by simpa using hid) status]
  simp [ownHail]

/-- LINK-STATE, RESTART has been handed. -/
def restarted (l : LinkId) (x : Identity) (s : State) : State :=
  { s with ev := evAfter .linkState 3 (.link l) (wordOf x.code) s }

/-- A link that restarts has left UP, the repair unit told, with its record. -/
theorem leaveUp_restart {x : Identity} {u : State} (hp : (getLink s l).peer = some x)
    (hu : repairLinkLost l x (linkLeft l x .hailing s) = u) : leaveUp l .restart .hailing s = restarted l x (peerless l u) := by
  rw [leaveUp_eq _ _ hp, hu, hand_as_evAfter]
  refine State.ext_ev (by cases l <;> rfl) ?_
  simp only [updLink_keeps, restarted]
  refine (evAfter_of _ _ _ _ _ _ ?_ ?_ ?_ ?_).symm <;> simp [peerless]

/-- A HAIL in UP, but for the peer's own matching one with ACK and without MISMATCH, is one in HAILING entered afresh. -/
theorem takeHail_restarts {x : Identity} {u : State} (hs : (getLink s l).status = .up) (hp : (getLink s l).peer = some x)
    (hno : f.sender ≠ x ∨ d ≠ s.mgmt.digest ∨ f.ack = false ∨ f.mismatch = true)
    (hu : repairLinkLost l x (linkLeft l x .hailing s) = u) (hid : u.mgmt.params.channelId = some me) :
    takeHail l (hailFields f d st k n) s =
      hailInHailing l (hailFields f d st k n) (hailsAfresh l me (restarted l x (peerless l u))) := by
  rw [takeHail_up hs, hailInUp, if_neg, leaveUp_restart hp hu,
    enterHailing_eq (me := me) (by simpa [restarted, peerless] using hid)]
  rintro ⟨h1, h2, h3, h4⟩
  rcases hno with h | h | h | h
  · exact h (Option.some.inj (hp.symm.trans h1)).symm
  · exact h h2
  · exact absurd (h.symm.trans h3) (by decide)
  · exact absurd (h.symm.trans h4) (by decide)

/-- With a source role over the link the role has ended with its record. -/
theorem restarted_source {x : Identity} {r : SourceRole} : restarted l x (peerless l (sourceEnded r 8 (linkLeft l x .hailing s))) =
    restarted l x { setRelation r.joiner none (linkGone l x s) with
      repair := { s.repair with role := .none, r := [] }
      ev := evAfter .repair 8 (.peer r.joiner) (wordOf r.linesSent) s } := by
  have role : (linkLeft l x .hailing s).repair = s.repair := by simp [linkLeft]
  refine congrArg (restarted l x) (State.ext_ev ?_ ?_)
  · simp only [← peerless_linkLeft, sourceEnded, setRelation_eq, peerless]
    rw [role]
    cases l <;> rfl
  · simp only [peerless, updLink_keeps]
    exact evAfter_of _ _ _ _ _ _ (by simp [linkLeft]) (by simp [linkLeft]) (by simp [linkLeft]) (by simp [linkLeft])

/-- A link that hails afresh is in HAILING, and a HAIL there is as in HAILING. -/
theorem exec_hailReceive_afresh {t : State} (hg : t.arb.grant = none) (hc : checkFrame raw = some f)
    (hf : f.payload = .hail d st k n) : exec (.hailReceive l raw) (hailsAfresh l me t) =
      .next (settle (hailInHailing l (hailFields f d st k n) (hailsAfresh l me t))) := by
  have status : (getLink (hailsAfresh l me t) l).status = .hailing := by
    simp only [hailsAfresh]
    split
    · cases l <;> rfl
    · simp
  refine exec_hailReceive hc hf (.inl status) (takeHail_hailing status) (.inl ?_)
  simp only [hailsAfresh]
  split <;> simpa using hg

end

/-- Settles O48: a HAIL in HAILING, in MISMATCH and in UP. -/
theorem hailBringsALinkUp : Obligations.HailBringsALinkUp := by
  refine ⟨?_, ?_, ?_⟩
  · intro l raw s f d st k n me hid hs hst hc hf mine mismatched raised otherHasIt
    have run {u : State} (hu : hailInHailing l (hailFields f d st k n) s = u) (hcsr : u.csr.state = s.csr.state)
        (hrep : u.repair.role = s.repair.role) (hvote : u.vote.record.isOpen = s.vote.record.isOpen) :
        exec (.hailReceive l raw) s = .next (settle u) :=
      exec_hailReceive hc hf (.inl hs) ((takeHail_hailing hs).trans hu) (.inr (disturbs_of_kept hcsr hrep hvote))
    have conflict (detail : Nat) (v : Word) (hu : hailConflict l d f.sender s = some (detail, v)) :
        exec (.hailReceive l raw) s = .next (mismatched detail v) := by
      refine run (u := enterMismatch l (detail, v) s) (by simp only [hailInHailing, hailFields, hu]) (by simp) (by simp)
        (by simp) |>.trans ?_
      rw [enterMismatch_eq hid]
      rfl
    have clear (hd : d = s.mgmt.digest) (hx : f.sender ≠ me) (ho : ¬ otherHasIt) :
        hailConflict l (hailFields f d st k n).digest (hailFields f d st k n).sender s = none := hailConflict_none hid hd hx ho
    have told : updateReport f.sender st k n s = reported f.sender st k n s := updateReport_away hst
    have status : (getLink (reported f.sender st k n s) l).status = .hailing := by cases l <;> simpa [getLink] using hs
    have heard : (getLink (reported f.sender st k n s) l).heard = (getLink s l).heard := by cases l <;> simp [getLink]
    refine ⟨fun hd => conflict 1 _ (hailConflict_digest (h := hailFields f d st k n) hd),
      fun hd hx => conflict 2 _ (hailConflict_self (h := hailFields f d st k n) hid hd hx),
      fun hd hx ho => conflict 3 _ (hailConflict_duplicate (h := hailFields f d st k n) hid hd hx ho),
      fun hd hx ho hm => ?_, fun hd hx ho hm => ⟨fun ha => ?_, fun ha hh => ?_, fun ha hh => ?_⟩⟩
    · refine run ?_ (by simp) (by simp) (by simp)
      simp only [hailInHailing, clear hd hx ho]
      simp only [hailFields, hm, told, if_true]
    · exact run (hailInHailing_answers hid hs hst (clear hd hx ho) hm ha) (by simp) (by simp) (by simp)
    · refine run ?_ (by simp [raised]) (by simp [raised]) (by simp [raised])
      simp only [hailInHailing, clear hd hx ho]
      simp only [hailFields, hm, ha, told, heard, hh, Bool.not_true, Bool.false_eq_true, if_false, if_true]
      exact enterUp_reported ..
    · refine run ?_ (by simp [raised]) (by simp [raised]) (by simp [raised])
      simp only [hailInHailing, clear hd hx ho]
      simp only [hailFields, hm, ha, told, heard, hh, Bool.not_true, Bool.false_eq_true, if_false]
      rw [sendHail_heard (me := me) (by simpa using hid) status, enterUp_answered]
      simp [ownHail, raisedBy, raised, mine]
  · intro l raw s f d st k n me hg hid hst hc hf mine
    have noConflict {t : State} (hm : t.mgmt = s.mgmt) (hk : (getLink t (otherLink l)).peer = (getLink s (otherLink l)).peer)
        (hd : d = s.mgmt.digest) (hx : f.sender ≠ me) (ho : (getLink s (otherLink l)).peer ≠ some f.sender) :
        hailConflict l (hailFields f d st k n).digest (hailFields f d st k n).sender t = none :=
      hailConflict_none (by rw [hm]; exact hid) (by rw [hm]; exact hd) hx fun h => ho (hk.symm.trans h.2)
    refine ⟨fun hs hd => ?_, fun hs hmode hd hx ho hm ha => ?_, fun hs hp hd ha hm => ?_, fun x hs hp hmode hr hd hx ho hm ha => ?_⟩
    · have stays : takeHail l (hailFields f d st k n) s = if (getLink s l).mode = .passive then sendHail l s else s := by
        rw [takeHail_mismatch hs, hailInMismatch, hailConflict_digest (h := hailFields f d st k n) hd]
      refine ⟨fun hmode => ?_, fun hmode => ?_⟩
      · exact exec_hailReceive hc hf (.inr (.inl hs)) (stays.trans (if_neg hmode)) (.inl hg)
      · refine exec_hailReceive hc hf (.inr (.inl hs)) (stays.trans (if_pos hmode)) (.inl hg) |>.trans ?_
        rw [sendHail_hails hid (.inr hs)]
        simp only [hs, reduceCtorEq, decide_false, decide_true, Bool.false_and]
        rfl
    · have afresh_ : enterHailing l s = updLink l (fun k => { k with
          status := .hailing, heard := none, peer := none, silenceTimer := none, beatTimer := none, quietTimer := none
          hailTimer := none }) s := by
        rw [enterHailing_eq hid, hailsAfresh_other (by rw [hmode]; decide)]
      have event : takeHail l (hailFields f d st k n) s =
          hailInHailing l (hailFields f d st k n) (enterHailing l s) := by
        rw [takeHail_mismatch hs, hailInMismatch, noConflict rfl rfl hd hx ho]
      refine exec_hailReceive hc hf (.inr (.inl hs)) event (.inl hg) |>.trans ?_
      rw [hailInHailing_answers (me := me) (by simpa using hid) (by rw [afresh_]; simp) (by simpa using hst)
        (noConflict (by simp) (by rw [afresh_]; simp) hd hx ho) hm ha, afresh_]
      refine congrArg (fun t => Host.Outcome.next (settle t)) ?_
      simp only [reported, updPeer_eq]
      cases l <;> rfl
    · refine exec_hailReceive hc hf (.inr (.inr hs)) ?_ (.inl hg)
      rw [takeHail_up hs, hailInUp]
      simp only [hailFields, hp, hd, ha, hm, and_self, if_true]
      exact updateReport_away (by simpa using hst)
    · have lost : repairLinkLost l x (linkLeft l x .hailing s) = linkLeft l x .hailing s :=
        repairLinkLost_none (by simp [linkLeft, hr])
      have event := takeHail_restarts (f := f) (d := d) (st := st) (k := k) (n := n) (me := me) hs hp (.inr (.inr (.inl ha))) lost
        (by simpa [linkLeft] using hid)
      have modeGone : (getLink (restarted l x (linkGone l x s)) l).mode ≠ .active := by
        simp only [restarted, linkGone, updPeer_eq]
        cases l <;> exact fun h => absurd (hmode.symm.trans h) (by decide)
      have peerGone : (getLink (restarted l x (linkGone l x s)) (otherLink l)).peer = (getLink s (otherLink l)).peer := by
        simp only [restarted, linkGone, updPeer_eq]
        cases l <;> rfl
      rw [peerless_linkLeft, hailsAfresh_other modeGone] at event
      refine exec_hailReceive hc hf (.inr (.inr hs)) event (.inl hg) |>.trans ?_
      rw [hailInHailing_answers (me := me) (by simpa [restarted, linkGone] using hid) (by simp)
        (by simpa [restarted, linkGone] using hst)
        (noConflict (by simp [restarted, linkGone]) (by rw [getLink_updLink_other, peerGone]) hd hx ho) hm ha]
      refine congrArg (fun t => Host.Outcome.next (settle t)) ?_
      have told : restarted l x (linkGone l x s) =
          { linkGone l x s with ev := evAfter .linkState 3 (.link l) (wordOf x.code) s } := by
        refine State.ext_ev rfl (evAfter_of _ _ _ _ _ _ ?_ ?_ ?_ ?_) <;> simp [linkGone]
      rw [told]
      simp only [reported, linkGone, updPeer_eq]
      cases l <;> rfl
  · intro l raw s f d st k n me hg hid hc hf asIn othersPeer_
    have as_ {t : State} (ht : t.arb.grant = none) (hs : (getLink s l).status = .mismatch ∨ (getLink s l).status = .up)
        (event : takeHail l (hailFields f d st k n) s =
          hailInHailing l (hailFields f d st k n) (hailsAfresh l me t)) : asIn t := by
      refine (exec_hailReceive hc hf (.inr hs) event (.inl hg)).trans ?_
      rw [exec_hailReceive_afresh ht hc hf]
    refine ⟨fun hs hd hx ho => ?_, fun x hs hp hno => ?_⟩
    · refine as_ hg (.inl hs) ?_
      rw [takeHail_mismatch hs, hailInMismatch, hailConflict_none (h := hailFields f d st k n) hid hd hx ho, enterHailing_eq hid]
    · intro restart gone
      have restarts {u : State} (hu : repairLinkLost l x (linkLeft l x .hailing s) = u)
          (hut : u.arb = s.arb ∧ u.mgmt = s.mgmt) : asIn (restarted l x (peerless l u)) :=
        as_ (by simpa [restarted, peerless, hut.1] using hg) (.inr hs)
          (takeHail_restarts hs hp hno hu (by rw [hut.2]; exact hid))
      have role : (linkLeft l x .hailing s).repair = s.repair := by simp [linkLeft]
      have left_keeps : (linkLeft l x .hailing s).arb = s.arb ∧ (linkLeft l x .hailing s).mgmt = s.mgmt := by simp [linkLeft]
      refine ⟨fun h1 h2 => ?_, fun r hr hl => ?_, fun j u hr hph hcand htime hu => ?_, fun j hr hstate hph hx hl => ?_⟩
      · have := restarts (repairLinkLost_none (by rw [role]; exact ⟨h1, h2⟩)) left_keeps
        rw [peerless_linkLeft] at this
        exact this
      · have := restarts (repairLinkLost_source (r := r) (by rw [role]; exact hr) hl) (by simp [sourceEnded, linkLeft])
        rw [restarted_source] at this
        exact this
      · have fails : u = failTry gone := by
          have runs : exec .replyTimerExpiry gone = .next (failTry gone) := by
            refine congrArg Host.Outcome.next ?_
            have role : gone.repair.role = .joiner j := by simpa [gone, linkGone] using hr
            simp [replyExpiry, role, hph, htime]
          rw [runs] at hu
          exact (Host.Outcome.next.inj hu).symm
        have := restarts (repairLinkLost_requesting (j := j) (by rw [role]; exact hr) hph hcand) (by simp [linkLeft])
        rw [← failTry_peerless, peerless_linkLeft] at this
        rw [fails]
        exact this
      · have hr' : (linkLeft l x .hailing s).repair.role = .joiner j := by rw [role]; exact hr
        refine ⟨peerless l (abortReceiving .linkLost false (linkLeft l x .hailing s)), ?_, ?_⟩
        · have back := (abortReceiving_silent (l := l) .linkLost hr' hph hx).withoutPeer (l := l)
          rw [peerless_linkLeft] at back
          exact back
        · exact restarts (repairLinkLost_receiving (j := j) hr' hph hl) (by simp [linkLeft])

end Sys2Proof.Machine
end

section
/-! What the grants of the repair unit use (R160, R165): a line's words read a second time after their write-back, and the
frame that leaves the receive buffer. -/

namespace Sys2Proof.Machine
-- One proof after the other: side by side they pass the memory that the check allows.
set_option Elab.async false

/-! ### Reads beside another grant -/

theorem correct_granted (a : Nat) (v : Word) (x : Option Requester) (s : State) :
    correct a v { s with arb.grant := x } = { correct a v s with arb.grant := x } := by
  have h := correct_beside a v { s.arb with grant := x } s.scrub s
  refine h.trans ?_
  simp [beside]

theorem reportUncorrectable_granted (by_ : ReadBy) (a : Nat) (raw : Word) (x : Option Requester) (s : State) :
    reportUncorrectable by_ a raw { s with arb.grant := x } = { reportUncorrectable by_ a raw s with arb.grant := x } := by
  rw [reportUncorrectable_eq, reportUncorrectable_eq]
  exact State.ext_parts rfl rfl rfl rfl rfl rfl rfl rfl rfl rfl rfl rfl rfl rfl rfl rfl
    (evAfter_of _ _ _ _ _ _ rfl rfl rfl rfl) rfl

/-- What the reads of a grant do is the same beside another grant. -/
theorem met_granted (by_ : ReadBy) (rs : List (Nat × ReadOutcome)) (x : Option Requester) (s : State) :
    met by_ rs { s with arb.grant := x } = { met by_ rs s with arb.grant := x } := by
  induction rs generalizing s with
  | nil => rfl
  | cons r rs ih =>
    obtain ⟨a, o⟩ := r
    cases o with
    | clean v => exact ih s
    | corrected v => simp only [met, correct_granted, ih]
    | uncorrectable raw => simp only [met, reportUncorrectable_granted, ih]

/-! ### Words that are read again -/

/-- The outcome of the read that follows: what was delivered is CLEAN. -/
def readAgain : ReadOutcome → ReadOutcome
  | .clean v => .clean v
  | .corrected v => .clean v
  | .uncorrectable raw => .uncorrectable raw

@[simp] theorem readAgain_value (o : ReadOutcome) : (readAgain o).value = o.value := by cases o <;> rfl

/-- A corrected word has its value and good check bits. -/
theorem storedAt_correct_same (a : Nat) (v : Word) {s : State} (hm : s.mem.wf = true) :
    storedAt (correct a v s) a = goodWord a v := by
  have place : readPlace (correct a v s) a = readPlace s a := by
    simp [readPlace, readLine, copyingSpare, activeSpare, spareLine]
  have mem : (correct a v s).mem = s.mem.write (readPlace s a) (goodWord a v) := by
    simp only [correct, suspectError_keeps]
    split <;> rfl
  rw [storedAt, place, mem, Memory.read_write_same _ _ _ hm]

theorem correct_wf (a : Nat) (v : Word) {s : State} (hm : s.mem.wf = true) : (correct a v s).mem.wf = true := by
  have mem : (correct a v s).mem = s.mem.write (readPlace s a) (goodWord a v) := by
    simp only [correct, suspectError_keeps]
    split <;> rfl
  rw [mem]
  exact Memory.write_wf _ _ _ hm

/-- The reads of other words of the line leave a stored word. -/
theorem storedAt_met (by_ : ReadBy) {a : Nat} (rs : List (Nat × ReadOutcome)) (s : State)
    (h : ∀ x ∈ rs, x.1 ≠ a ∧ x.1 / 256 = a / 256) : storedAt (met by_ rs s) a = storedAt s a := by
  induction rs generalizing s with
  | nil => rfl
  | cons x rs ih =>
    obtain ⟨b, o⟩ := x
    obtain ⟨hne, hl⟩ := h _ List.mem_cons_self
    have tail := fun t => ih t fun y hy => h y (List.mem_cons_of_mem _ hy)
    cases o with
    | clean v => exact tail s
    | corrected v => rw [met, tail, storedAt_correct v s hl.symm (Ne.symm hne)]
    | uncorrectable raw => rw [met, tail, storedAt_report]

/-- Read again, the words of a line give what they gave, each delivered one CLEAN. -/
theorem outcomesAt_met (by_ : ReadBy) (as : List Nat) (s : State) (l : Nat) (hn : as.Nodup) (hl : ∀ a ∈ as, a / 256 = l)
    (hm : s.mem.wf = true) :
    outcomesAt (met by_ (outcomesAt s as) s) as = (outcomesAt s as).map fun x => (x.1, readAgain x.2) := by
  induction as generalizing s with
  | nil => rfl
  | cons a as ih =>
    obtain ⟨ha, hn⟩ := List.nodup_cons.mp hn
    have line : ∀ b ∈ as, b / 256 = l := fun b hb => hl b (List.mem_cons_of_mem _ hb)
    have here : a / 256 = l := hl a List.mem_cons_self
    -- The reads of the others leave this word, and its own read leaves the others.
    have first (t : State) : storedAt (met by_ (outcomesAt t as) t) a = storedAt t a :=
      storedAt_met by_ _ t fun x hx => by
        obtain ⟨b, hb, rfl⟩ := List.mem_map.mp hx
        exact ⟨fun e => ha (e ▸ hb), (line b hb).trans here.symm⟩
    have same (t : State) (h : ∀ b ∈ as, storedAt t b = storedAt s b) : outcomesAt t as = outcomesAt s as :=
      List.map_congr_left fun b hb => by rw [h b hb]
    have split (t : State) : outcomesAt t (a :: as) = (a, decodeStored (storedAt t a) a) :: outcomesAt t as := rfl
    rw [split s]
    cases h : decodeStored (storedAt s a) a with
    | clean v => rw [met, split, first, h, ih s hn line hm] <;> rfl
    | corrected v =>
      have others := same (correct a v s) fun b hb => storedAt_correct v s ((line b hb).trans here.symm) (fun e => ha (e ▸ hb))
      rw [met, ← others, split, first, storedAt_correct_same a v hm, decode_goodWord,
        ih (correct a v s) hn line (correct_wf a v hm)] <;> rfl
    | uncorrectable raw =>
      have others := same (reportUncorrectable by_ a raw s) fun b _ => storedAt_report by_ a raw s
      rw [met, ← others, split, first, storedAt_report, h,
        ih (reportUncorrectable by_ a raw s) hn line (by simpa using hm)] <;> rfl

theorem badWords_again (rs : List (Nat × ReadOutcome)) : badWords (rs.map fun x => (x.1, readAgain x.2)) = badWords rs := by
  induction rs with
  | nil => rfl
  | cons x rs ih =>
    obtain ⟨a, o⟩ := x
    cases o with
    | clean v => exact ih
    | corrected v => exact ih
    | uncorrectable raw => exact congrArg (a :: ·) ih

theorem readValues_again (rs : List (Nat × ReadOutcome)) :
    readValues (rs.map fun x => (x.1, readAgain x.2)) = readValues rs := by
  induction rs with
  | nil => rfl
  | cons x rs ih => rw [List.map_cons, readValues, readValues, ih, readAgain_value] <;> rfl

theorem receiveChanges_again (rs : List (Nat × ReadOutcome)) (ws : List Word) :
    receiveChanges (rs.map fun x => (x.1, readAgain x.2)) ws = receiveChanges rs ws := by
  induction rs generalizing ws with
  | nil => rfl
  | cons x rs ih =>
    cases ws with
    | nil => rfl
    | cons w ws => rw [List.map_cons, receiveChanges, receiveChanges, ih, readAgain_value] <;> rfl

/-- The reads of a line. -/
theorem readWords_lineWords (by_ : ReadBy) (l : Nat) (s : State) : readWords by_ (lineWords l) s =
    (outcomesAt s (lineWords l), met by_ (outcomesAt s (lineWords l)) s) := by
  have line := wordsFrom_inLine (l * 256) 256 (by omega)
  exact readWords_met by_ (lineWords l) s _ line.1 line.2

/-- After a line without an UNCORRECTABLE word was read, its words are read CLEAN with the same values. -/
theorem readWords_again (by_ : ReadBy) (l : Nat) (s : State) (hm : s.mem.wf = true)
    (hb : badWords (outcomesAt s (lineWords l)) = []) :
    readWords by_ (lineWords l) (met by_ (outcomesAt s (lineWords l)) s) =
      ((outcomesAt s (lineWords l)).map (fun x => (x.1, readAgain x.2)), met by_ (outcomesAt s (lineWords l)) s) := by
  have line := wordsFrom_inLine (l * 256) 256 (by omega)
  have again : outcomesAt (met by_ (outcomesAt s (lineWords l)) s) (lineWords l) = _ :=
    outcomesAt_met by_ (lineWords l) s _ line.1 line.2 hm
  rw [readWords_lineWords, again, met_clean]
  intro x hx
  obtain ⟨y, hy, rfl⟩ := List.mem_map.mp hx
  obtain ⟨a, o⟩ := y
  cases o with
  | clean v => exact ⟨v, rfl⟩
  | corrected v => exact ⟨v, rfl⟩
  | uncorrectable raw =>
    have bad : ∀ rs : List (Nat × ReadOutcome), (a, ReadOutcome.uncorrectable raw) ∈ rs → badWords rs ≠ [] := by
      intro rs h
      induction rs with
      | nil => simp at h
      | cons x rs ih =>
        obtain ⟨b, o⟩ := x
        cases o with
        | uncorrectable raw => exact List.cons_ne_nil _ _
        | clean v => exact ih (by simpa using h)
        | corrected v => exact ih (by simpa using h)
    exact absurd hb (bad _ hy)

/-! ### The changes of a receive-write (R165) -/

/-- With every old value CLEAN the changes are those of the words in order. -/
theorem receiveChanges_clean (by_ : ReadBy) {s : State} (vs ws : List Word) (a : Nat) (h : cleanAt s a vs)
    (hl : vs.length = ws.length) : receiveChanges (readWords by_ (wordsFrom a vs.length) s).1 ws =
      (List.range vs.length).map fun i => (a + i, vs.getD i 0, ws.getD i 0) := by
  induction vs generalizing a ws with
  | nil => rfl
  | cons v vs ih =>
    cases ws with
    | nil => simp at hl
    | cons w ws =>
      have tail := ih ws (a + 1) h.2 (by simpa using hl)
      simp only [List.length_cons, wordsFrom_succ, readWords, readWord_clean h.1, receiveChanges, ReadOutcome.value, tail,
        List.range_succ_eq_map, List.map_cons, List.map_map]
      congr 1
      refine List.map_congr_left fun i _ => ?_
      simp [Nat.add_assoc, Nat.add_comm 1 i]

/-- Folded in, they are the changes of the 256 words. -/
theorem foldedIn_range (k : Keys) (a n : Nat) (vs ws : List Word) (sum : Nat) :
    foldedIn k ((List.range n).map fun i => (a + i, vs.getD i 0, ws.getD i 0)) sum =
      (List.range n).foldl (fun sum i => foldChange k sum (a + i) (vs.getD i 0) (ws.getD i 0)) sum := by
  rw [foldedIn, List.foldl_map]

/-! ### The frame is taken off (R165, R167) -/

section
variable {k : LinkId} {s : State} {me : Identity} {f : LineFrame} {rest left : List LineFrame}

@[simp] theorem getLink_sentUp_buffer (l : LinkId) (f : Frame) (s : State) :
    (getLink (sentUp l f s) l).buffer = (getLink s l).buffer := by cases l <;> rfl

theorem keptLines_none {b : List LineFrame} {v : Nat} (h : ∀ x ∈ b, v ≤ x.ordinal ∨ x.late = true) :
    b.dropWhile (fun f => decide (v ≤ f.ordinal) || f.late) = [] := by
  rw [List.dropWhile_eq_nil_iff]
  simpa using h

/-- The frames behind the one taken off: they stay, or a receive-write takes none of them. -/
def leaves (s : State) (rest left : List LineFrame) : Prop :=
  (left = rest ∧ ∀ x ∈ rest, x.ordinal < numVital s ∧ x.late = false) ∨
    (left = [] ∧ ∀ x ∈ rest, numVital s ≤ x.ordinal ∨ x.late = true)

/-- No GO is due: the buffer is what is left. -/
theorem takenOff_silent (hr : receivingLink s = some k) (hb : (getLink s k).buffer = f :: rest) (hl : leaves s rest left)
    (h : (getLink s k).holdSent = false ∨ 2 ≤ left.length) :
    dropLines k (leaveBuffer k rest s) = updLink k (fun x => { x with buffer := left }) s := by
  have receiving (b : List LineFrame) : receivingLink (updLink k (fun x => { x with buffer := b }) s) = some k := by
    simpa [receivingLink] using hr
  have off : leaveBuffer k rest s = goIfDrained k (updLink k (fun x => { x with buffer := rest }) s) :=
    leaveBuffer_shorter (by simp [hb])
  rcases hl with ⟨rfl, keep⟩ | ⟨rfl, drop⟩
  · rw [off, goIfDrained_stays (by simpa using h), dropLines_kept (receiving left)]
    intro x hx
    simpa [numVital] using keep x (List.mem_of_mem_head? (by simpa using hx))
  · have hold : (getLink s k).holdSent = false := h.resolve_right (by simp)
    have kept : keptLines k (updLink k (fun x => { x with buffer := rest }) s) = [] := by
      rw [keptLines, show numVital (updLink k (fun x => { x with buffer := rest }) s) = numVital s by simp [numVital]]
      exact keptLines_none (by simpa using drop)
    rw [off, goIfDrained_stays (.inl (by simpa using hold)), dropLines_receiving (receiving rest), kept]
    cases rest with
    | nil => exact leaveBuffer_same (by simp)
    | cons x rest => rw [leaveBuffer_shorter (by simp), updLink_updLink, goIfDrained_stays (.inl (by simpa using hold))]

/-- HOLD was sent and at most one frame is left: GO goes out. -/
theorem takenOff_goes (hr : receivingLink s = some k) (hb : (getLink s k).buffer = f :: rest) (hl : leaves s rest left)
    (hh : (getLink s k).holdSent = true) (hd : left.length ≤ 1) (hid : s.mgmt.params.channelId = some me)
    (hu : (getLink s k).status = .up) : dropLines k (leaveBuffer k rest s) =
      updLink k (fun x => { x with holdSent := false }) (sentUp k (ownFrame me .go)
        (updLink k (fun x => { x with buffer := left }) s)) := by
  have off : leaveBuffer k rest s = goIfDrained k (updLink k (fun x => { x with buffer := rest }) s) :=
    leaveBuffer_shorter (by simp [hb])
  have goes (b : List LineFrame) (h : b.length ≤ 1) : goIfDrained k (updLink k (fun x => { x with buffer := b }) s) =
      updLink k (fun x => { x with holdSent := false }) (sentUp k (ownFrame me .go)
        (updLink k (fun x => { x with buffer := b }) s)) :=
    goIfDrained_goes (by simpa using hid) (by simpa using hu) (by simpa using hh) (by simpa using h)
  -- Once a GO has gone out, the frames that are dropped behind it send no other.
  have receiving (b : List LineFrame) : receivingLink (updLink k (fun x => { x with holdSent := false })
      (sentUp k (ownFrame me .go) (updLink k (fun x => { x with buffer := b }) s))) = some k := by
    simpa [receivingLink] using hr
  rcases hl with ⟨rfl, keep⟩ | ⟨rfl, drop⟩
  · rw [off, goes left hd, dropLines_kept (receiving left)]
    intro x hx
    simpa [numVital] using keep x (List.mem_of_mem_head? (by simpa using hx))
  · by_cases hlen : rest.length ≤ 1
    · have kept : keptLines k (updLink k (fun x => { x with holdSent := false })
          (sentUp k (ownFrame me .go) (updLink k (fun x => { x with buffer := rest }) s))) = [] := by
        rw [keptLines, show numVital (updLink k (fun x => { x with holdSent := false })
          (sentUp k (ownFrame me .go) (updLink k (fun x => { x with buffer := rest }) s))) = numVital s by simp [numVital]]
        exact keptLines_none (by simpa using drop)
      rw [off, goes rest hlen, dropLines_receiving (receiving rest), kept]
      cases rest with
      | nil => exact leaveBuffer_same (by simp)
      | cons x rest =>
        rw [leaveBuffer_shorter (by simp), goIfDrained_stays (.inl (by simp))]
        cases k <;> rfl
    · have again : receivingLink (updLink k (fun x => { x with buffer := rest }) s) = some k := by
        simpa [receivingLink] using hr
      have kept : keptLines k (updLink k (fun x => { x with buffer := rest }) s) = [] := by
        rw [keptLines, show numVital (updLink k (fun x => { x with buffer := rest }) s) = numVital s by simp [numVital]]
        exact keptLines_none (by simpa using drop)
      have shorter : ([] : List LineFrame).length < (getLink (updLink k (fun x => { x with buffer := rest }) s) k).buffer.length := by
        simp
        omega
      rw [off, goIfDrained_stays (.inr (by simp; omega)), dropLines_receiving again, kept, leaveBuffer_shorter shorter,
        updLink_updLink, goes [] (by simp)]

end
end Sys2Proof.Machine
end

section
/-! Line captures and receive-writes (R160, R163 to R166). -/

namespace Sys2Proof.Machine
-- One proof after the other: side by side they pass the memory that the check allows.
set_option Elab.async false

theorem mem_lineWords {l a : Nat} (h : a ∈ lineWords l) : a / 256 = l := by
  have line := (wordsFrom_inLine (l * 256) 256 (by omega)).2 a h
  omega

/-! ### Line captures -/

section
variable {s : State} {r : SourceRole} {o l : Nat} {vs : List Word} {me : Identity}

theorem exec_lineCapture (h : runs .lineCapture s) : exec .lineCapture s = .next (settle (captureBody (ungranted s))) :=
  congrArg (fun t => Host.Outcome.next (settle t)) (runGrant_runs h)

/-- The state whose line has been taken out of R, with the scan position behind it. -/
def scanned (r : SourceRole) (o : Nat) (s : State) : State :=
  { s with repair.r := setErase o s.repair.r, repair.role := .source { r with scan := o + 1 } }

theorem scanned_repair : scanned r o s =
    { s with repair := { s.repair with r := setErase o s.repair.r, role := .source { r with scan := o + 1 } } } := rfl

/-- The capture of one line of R: the frame is handed on, or the words that stop it have their consequences. -/
theorem captureBody_line (hr : s.repair.role = .source r) (hn : nextCapture s.repair.r r.scan = some o)
    (hl : lineOf s.regions.committed o = some l) :
    let seen := readWords .capture (lineWords l) s
    captureBody s = closeIfDone (if badWords seen.1 = [] then
      handCaptured { r with scan := o + 1 } { ordinal := o, words := readValues seen.1 } (scanned r o seen.2)
      else consequences .capture (badWords seen.1) (scanned r o seen.2)) := by
  intro seen
  have kept : seen.2.repair = s.repair := by simp [seen]
  simp only [captureBody, captureWork, hr, hn, hl]
  by_cases hb : badWords seen.1 = []
  · rw [if_pos hb, if_pos hb, scanned, kept]
    rfl
  · rw [if_neg hb, if_neg hb, scanned, kept]

/-- With every word CLEAN the frame is handed on, and memory has not been touched. -/
theorem captureBody_clean (hr : s.repair.role = .source r) (hn : nextCapture s.repair.r r.scan = some o)
    (hl : lineOf s.regions.committed o = some l) (hlen : vs.length = 256) (hc : cleanAt s (l * 256) vs) :
    captureBody s = closeIfDone (handCaptured { r with scan := o + 1 } { ordinal := o, words := vs } (scanned r o s)) := by
  obtain ⟨good, values, same⟩ := readWords_cleanAt .capture vs (l * 256) hc
  rw [hlen] at good values same
  refine (captureBody_line hr hn hl).trans ?_
  have words : lineWords l = wordsFrom (l * 256) 256 := rfl
  simp only [words, good, values, same, if_true]

/-- The frame goes out when the link is UP and the peer does not hold. -/
theorem handCaptured_sent (f : LineFrame) (hid : s.mgmt.params.channelId = some me) (hu : (getLink s r.link).status = .up)
    (hp : (getLink s r.link).peerHolding = false) : handCaptured r f s =
      { sentUp r.link (ownFrame me (.line (BitVec.ofNat 32 f.ordinal) f.words)) s with
        repair.role := .source { r with captured := none, linesSent := satSucc r.linesSent } } := by
  rw [handCaptured, if_neg (by rw [hp]; decide), sendLine, send_up hid hu]

/-- The state behind a LINE that has been sent. -/
def lineSent (me : Identity) (r : SourceRole) (o : Nat) (vs : List Word) (s : State) : State :=
  { sentUp r.link (ownFrame me (.line (BitVec.ofNat 32 o) vs)) s with
    repair.r := setErase o s.repair.r
    repair.role := .source { r with scan := o + 1, captured := none, linesSent := satSucc r.linesSent } }

theorem handCaptured_scanned (hid : s.mgmt.params.channelId = some me) (hu : (getLink s r.link).status = .up)
    (hp : (getLink s r.link).peerHolding = false) :
    handCaptured { r with scan := o + 1 } { ordinal := o, words := vs } (scanned r o s) = lineSent me r o vs s := by
  refine (handCaptured_sent (s := scanned r o s) (r := { r with scan := o + 1 }) (me := me) _ hid hu hp).trans ?_
  rw [lineSent]
  cases r.link <;> rfl

/-- A line with a CORRECTED word among CLEAN ones is captured as it is after its correction. -/
theorem captureBody_again (hr : s.repair.role = .source r) (hn : nextCapture s.repair.r r.scan = some o)
    (hl : lineOf s.regions.committed o = some l) (hm : s.mem.wf = true) (hb : badWords (outcomesAt s (lineWords l)) = []) :
    captureBody s = captureBody (met .capture (outcomesAt s (lineWords l)) s) := by
  obtain ⟨-, -, -, regions, -, -, -, -, -, -, -, -, -, -, -, -, repair, -⟩ :=
    met_keeps .capture (outcomesAt s (lineWords l)) s
  rw [captureBody_line hr hn hl, captureBody_line (by rw [repair]; exact hr) (by rw [repair]; exact hn)
    (by rw [regions]; exact hl), readWords_again .capture l s hm hb, readWords_lineWords]
  simp only [badWords_again, readValues_again]

/-- An UNCORRECTABLE vital word withdraws the channel, and no LINE is sent. -/
theorem captureBody_withdraws (hr : s.repair.role = .source r) (hn : nextCapture s.repair.r r.scan = some o)
    (hl : lineOf s.regions.committed o = some l) (hb : badWords (outcomesAt s (lineWords l)) ≠ [])
    (hv : classOf s l = some .vital) (hs : s.csr.state = .voting ∨ s.csr.state = .held) (hroll : s.jnl.rb.rolling = false) :
    Withdrew (scanned r o (met .capture (outcomesAt s (lineWords l)) s)) (captureBody s) := by
  set seen := outcomesAt s (lineWords l) with hseen
  obtain ⟨csr, -, -, regions, -, -, -, -, -, -, -, -, jnl, -, -, -, repair, -⟩ := met_keeps .capture seen s
  set t := scanned r o (met .capture seen s)
  have cls : ∀ a ∈ badWords seen, classOf t (a / 256) = some .vital := by
    intro a ha
    rw [mem_lineWords (mem_of_mem_badWords (s := s) ha)]
    simpa [classOf, regionOf, t, scanned, regions] using hv
  obtain ⟨a, as, bad⟩ := List.exists_cons_of_ne_nil hb
  have invalid : t.sig.valid = false := by
    have first : a ∈ badWords seen := by rw [bad]; exact List.mem_cons_self
    obtain ⟨raw, hraw⟩ := outcome_of_mem_badWords first
    refine met_invalid .capture seen s a raw hraw ?_
    rw [mem_lineWords (mem_of_mem_badWords (s := s) first)]
    exact hv
  have withdraws : consequences .capture (badWords seen) t = withdraw t := by
    rw [bad] at cls ⊢
    exact consequences_signed cls (.inr (by
      rw [show t.csr = s.csr from csr]
      exact hs))
  have withdrew := withdraw_withdrew (s := t) invalid (by
    rw [show t.jnl = s.jnl from jnl]
    exact hroll)
  have ends : captureBody s = closeIfDone (withdraw t) := by
    rw [captureBody_line hr hn hl, readWords_lineWords]
    simp only [← hseen, if_neg hb]
    exact congrArg closeIfDone withdraws
  obtain ⟨j, role, -⟩ := withdrew.role
  rw [ends, closeIfDone, role]
  exact withdrew

end

/-! ### Receive-writes -/

section
variable {s : State} {j : JoinerRole} {k : LinkId} {f : LineFrame} {rest left : List LineFrame} {l : Nat} {vs : List Word}
  {me : Identity}

theorem exec_receiveWrite (h : runs .receiveWrite s) : exec .receiveWrite s = .next (receiveBody (ungranted s)) :=
  congrArg Host.Outcome.next (runGrant_runs h)

/-- The state with a frame's words written and its line counted. -/
def lineStored (j : JoinerRole) (l : Nat) (ws : List Word) (s : State) : State := { s with
  mem := (writeWords ((lineWords l).zip ws) s).mem
  repair.role := .joiner { j with linesWritten := satSucc j.linesWritten } }

theorem lineStored_signed (ws : List Word) (sum : Nat) :
    lineStored j l ws { s with sig.s := sum } = { lineStored j l ws s with sig.s := sum } := by
  have mem : (writeWords ((lineWords l).zip ws) { s with sig.s := sum }).mem = (writeWords ((lineWords l).zip ws) s).mem :=
    writeWords_mem_congr _ rfl rfl rfl
  rw [lineStored, mem, lineStored]

/-- The write of one frame: S, the words, the line's count, the buffer, and then what UNCORRECTABLE words have for
consequences. -/
theorem receiveBody_line (hr : s.repair.role = .joiner j) (hp : j.phase = .receiving ∨ j.phase = .closing)
    (hk : j.link = some k) (hb : (getLink s k).buffer = f :: rest) (hl : lineOf s.regions.committed f.ordinal = some l) :
    receiveBody s = consequences .receive (badWords (readWords .receive (lineWords l) s).1)
      (dropLines k (leaveBuffer k rest (lineStored j l f.words
        (updateWordsS (receiveChanges (readWords .receive (lineWords l) s).1 f.words)
          (readWords .receive (lineWords l) s).2)))) := by
  have link : receivingLink s = some k := by simp [receivingLink, hr, (receiving_iff j).mpr hp, hk]
  have role (u : State) (h : u.repair = s.repair) (ws : List (Nat × Word)) : countLine (writeWords ws u) = { u with
      mem := (writeWords ws u).mem, repair.role := .joiner { j with linesWritten := satSucc j.linesWritten } } := by
    rw [writeWords_frame ws u, countLine]
    simp only [h, hr]
  simp only [receiveBody, link, hb, hl]
  rw [role _ (by rw [updateWordsS_eq]; simp)] <;> rfl

/-- With every old value CLEAN the changes are folded into S, and nothing else follows. -/
theorem receiveBody_clean (hr : s.repair.role = .joiner j) (hp : j.phase = .receiving ∨ j.phase = .closing)
    (hk : j.link = some k) (hb : (getLink s k).buffer = f :: rest) (hl : lineOf s.regions.committed f.ordinal = some l)
    (hw : f.words.length = 256) (hv : vs.length = 256) (hc : cleanAt s (l * 256) vs) :
    receiveBody s = dropLines k (leaveBuffer k rest { lineStored j l f.words s with
      sig.s := if s.sig.valid then (List.range 256).foldl (fun sum i =>
          foldChange s.sig.committedKeys sum (l * 256 + i) (vs.getD i 0) (f.words.getD i 0)) s.sig.s
        else s.sig.s }) := by
  obtain ⟨good, -, same⟩ := readWords_cleanAt .receive vs (l * 256) hc
  have changes := receiveChanges_clean .receive vs f.words (l * 256) hc (hv.trans hw.symm)
  rw [hv] at good same changes
  have words : lineWords l = wordsFrom (l * 256) 256 := rfl
  rw [receiveBody_line hr hp hk hb hl]
  simp only [words, good, same, changes, consequences_nil, updateWordsS_eq, foldedIn_range]
  rw [lineStored_signed]

/-- A line with CORRECTED words is written as it is after their correction. -/
theorem receiveBody_again (hr : s.repair.role = .joiner j) (hp : j.phase = .receiving ∨ j.phase = .closing)
    (hk : j.link = some k) (hb : (getLink s k).buffer = f :: rest) (hl : lineOf s.regions.committed f.ordinal = some l)
    (hm : s.mem.wf = true) (bad : badWords (outcomesAt s (lineWords l)) = []) :
    receiveBody s = receiveBody (met .receive (outcomesAt s (lineWords l)) s) := by
  obtain ⟨-, -, -, regions, -, -, -, -, -, -, -, -, -, -, link1, link2, repair, -⟩ :=
    met_keeps .receive (outcomesAt s (lineWords l)) s
  have links : getLink (met .receive (outcomesAt s (lineWords l)) s) k = getLink s k := by
    cases k
    · exact link1
    · exact link2
  rw [receiveBody_line hr hp hk hb hl, receiveBody_line (by rw [repair]; exact hr) hp hk (by rw [links]; exact hb)
    (by rw [regions]; exact hl), readWords_again .receive l s hm bad, readWords_lineWords]
  simp only [badWords_again, receiveChanges_again]

/-- With an old value UNCORRECTABLE S is invalid and nothing is folded; the line is written, and its consequences follow. -/
theorem receiveBody_bad (hr : s.repair.role = .joiner j) (hp : j.phase = .receiving ∨ j.phase = .closing)
    (hk : j.link = some k) (hb : (getLink s k).buffer = f :: rest) (hl : lineOf s.regions.committed f.ordinal = some l)
    (bad : badWords (outcomesAt s (lineWords l)) ≠ []) (hv : classOf s l = some .vital) :
    receiveBody s = consequences .receive (badWords (outcomesAt s (lineWords l)))
      (dropLines k (leaveBuffer k rest (lineStored j l f.words (met .receive (outcomesAt s (lineWords l)) s)))) := by
  have invalid : (met .receive (outcomesAt s (lineWords l)) s).sig.valid = false := by
    obtain ⟨a, as, h⟩ := List.exists_cons_of_ne_nil bad
    have first : a ∈ badWords (outcomesAt s (lineWords l)) := by rw [h]; exact List.mem_cons_self
    obtain ⟨raw, hraw⟩ := outcome_of_mem_badWords first
    refine met_invalid .receive _ s a raw hraw ?_
    rw [mem_lineWords (mem_of_mem_badWords first)]
    exact hv
  have unfolded (cs : List (Nat × Word × Word)) : updateWordsS cs (met .receive (outcomesAt s (lineWords l)) s) =
      met .receive (outcomesAt s (lineWords l)) s := by
    rw [updateWordsS_eq, invalid] <;> rfl
  rw [receiveBody_line hr hp hk hb hl, readWords_lineWords]
  simp only [unfolded]

/-- The consequences in RECEIVING: the joiner's role ends with JOINER-FAULT and the channel is back in OUT. -/
theorem receive_consequences {u : State} {x : Identity} {j1 : JoinerRole} {b : Nat} {bs : List Nat}
    (hv : ∀ a ∈ b :: bs, classOf u (a / 256) = some .vital) (hs : u.csr.state = .receiving) (hr : u.repair.role = .joiner j1)
    (hp : j1.phase = .receiving ∨ j1.phase = .closing) (hx : j1.source = some x) (hk : j1.link = some k)
    (hid : u.mgmt.params.channelId = some me) (hu : (getLink u k).status = .up) :
    ReturnedToOut u (consequences .receive (b :: bs) u) j1 x k 5 15 [ownFrame me (.abort .joinerFault)] := by
  rw [consequences_vital hv, hs]
  exact abortReceiving_told .joinerFault hr hp hx hk hid hu

end

/-! ### The statement -/

/-- The captures of lines without an upset word. -/
theorem lines_captured (s : State) (r : SourceRole) (o l : Nat) (vs : List Word) (hg : runs .lineCapture s)
    (hr : s.repair.role = .source r) (hn : nextCapture s.repair.r r.scan = some o)
    (hl : lineOf s.regions.committed o = some l) (hlen : vs.length = 256) (hc : cleanAt s (l * 256) vs) :
    exec .lineCapture s = .next (settle (closeIfDone
      (handCaptured { r with scan := o + 1 } { ordinal := o, words := vs } (scanned r o (ungranted s))))) := by
  rw [exec_lineCapture hg, captureBody_clean (s := ungranted s) hr hn hl hlen (by exact cleanAt_grant none vs _ hc)]

/-- The capture of the last line sends CLOSE behind the LINE. -/
theorem lineSent_closes {s : State} {r : SourceRole} {o : Nat} {vs : List Word} {me : Identity}
    (hid : s.mgmt.params.channelId = some me) (hu : (getLink s r.link).status = .up) (last : ∀ x ∈ s.repair.r, x = o)
    (h : r.phase = .catchup ∨ (r.phase = .pass ∧ s.csr.state = .held)) :
    let sent := satSucc r.linesSent
    let cycle := if r.phase = .catchup then r.closeCycle else s.csr.committed
    let target := if r.phase = .catchup then r.target else s.sig.s
    closeIfDone (lineSent me r o vs s) = { setRelation r.joiner (some .joining)
        (sentUp r.link (ownFrame me (.close cycle (BitVec.ofNat 32 sent) (wordOf target)))
          (sentUp r.link (ownFrame me (.line (BitVec.ofNat 32 o) vs)) s)) with
      repair := { s.repair with
        r := []
        role := .source { r with
          scan := o + 1, captured := none, linesSent := sent, phase := .awaitVerdict, catchupTimer := none
          verdictTimer := some s.mgmt.params.holdLimit, closeCycle := cycle, target := target } } } := by
  intro sent cycle target
  have none : setErase o s.repair.r = [] := List.filter_eq_nil_iff.mpr fun x hx => by simpa using last x hx
  have up : (getLink (lineSent me r o vs s) r.link).status = .up := by
    have same : (getLink (lineSent me r o vs s) r.link).status = (getLink s r.link).status := by
      rw [lineSent]
      cases r.link <;> rfl
    exact same.trans hu
  have closes : closeIfDone (lineSent me r o vs s) = sendClose
      { r with scan := o + 1, captured := .none, linesSent := sent } cycle target (lineSent me r o vs s) := by
    rcases h with hp | ⟨hp, hs⟩
    · have at' := closeIfDone_catchup (s := lineSent me r o vs s) rfl none rfl hp
      simpa [cycle, target, hp] using at'
    · have at' := closeIfDone_held (s := lineSent me r o vs s) rfl none rfl hp (by simpa [lineSent] using hs)
      simpa [cycle, target, hp, lineSent] using at'
  refine (closes.trans (sendClose_up (me := me) (by simpa [lineSent] using hid) up)).trans ?_
  rw [setRelation_eq, setRelation_eq, lineSent, none]
  cases r.link <;> rfl

/-- Settles O54: captures and receive-writes, with every word CLEAN, with CORRECTED and with UNCORRECTABLE ones. -/
theorem linesAreCapturedAndWritten : Obligations.LinesAreCapturedAndWritten := by
  refine ⟨?_, ?_, ?_, ?_, ?_, ?_⟩
  · intro s r o l vs me hg hr hn hl hlen hc hid hu hp more
    rw [lines_captured s r o l vs hg hr hn hl hlen hc, handCaptured_scanned (s := ungranted s) (me := me) hid hu hp]
    have waits := closeIfDone_waits (s := lineSent me r o vs (ungranted s)) rfl (by
      rcases more with ⟨x, hx, ne⟩ | ⟨hph, hst⟩
      · exact .inl (List.ne_nil_of_mem (List.mem_filter.mpr ⟨hx, by simpa using ne⟩))
      · exact .inr (.inr (.inr ⟨hph, by simpa [lineSent, ungranted] using hst⟩)))
    rw [waits]
    cases h : r.link <;> rw [lineSent, h] <;> rfl
  · intro s r o l vs me hg hr hn last hl hlen hc hid hu hp h sent cycle target
    rw [lines_captured s r o l vs hg hr hn hl hlen hc, handCaptured_scanned (s := ungranted s) (me := me) hid hu hp,
      lineSent_closes (s := ungranted s) hid hu last h, setRelation_eq, setRelation_eq]
    cases r.link <;> rfl
  · intro s r o l vs hg hr hn hl hlen hc hp
    rw [lines_captured s r o l vs hg hr hn hl hlen hc, handCaptured, if_pos (by exact hp)]
    exact congrArg (fun t => Host.Outcome.next (settle t)) (closeIfDone_waits rfl (.inr (.inl (by simp))))
  · intro s j k f rest left l vs hg hr hp hk hb hleft hl hw hv hc written
    set stored : State := { lineStored j l f.words (ungranted s) with
      sig.s := if s.sig.valid then (List.range 256).foldl (fun sum i =>
          foldChange s.sig.committedKeys sum (l * 256 + i) (vs.getD i 0) (f.words.getD i 0)) s.sig.s
        else s.sig.s } with hstored
    have writes : exec .receiveWrite s = .next (dropLines k (leaveBuffer k rest stored)) := by
      rw [exec_receiveWrite hg, receiveBody_clean (s := ungranted s) hr hp hk hb hl hw hv (by exact cleanAt_grant none vs _ hc)]
      rfl
    have all : written = updLink k (fun x => { x with buffer := left }) stored := by
      have mem : (writeWords ((lineWords l).zip f.words) (ungranted s)).mem = (writeWords ((lineWords l).zip f.words) s).mem :=
        writeWords_mem_congr _ rfl rfl rfl
      rw [hstored, lineStored, mem] <;> rfl
    have link : receivingLink stored = some k := by
      simp [receivingLink, hstored, lineStored, JoinerRole.receiving, hk, hp]
    rw [writes, all]
    refine ⟨fun h => ?_, fun me hh hd hid hu => ?_⟩
    · rw [takenOff_silent (s := stored) link hb hleft h]
    · rw [takenOff_goes (s := stored) link hb hleft hh hd hid hu]
  · intro s r o l hg hr hn hl seen
    refine ⟨fun bad hm => ?_, fun bad hv hs hroll => ?_⟩
    · have again := captureBody_again (s := ungranted s) hr hn hl hm bad
      have granted' : exec .lineCapture { met .capture seen s with arb.grant := some .lineCapture } = .next (settle
          (captureBody { met .capture seen s with arb.grant := none })) :=
        congrArg (fun t => Host.Outcome.next (settle t)) (runGrant_granted (.inl rfl))
      rw [exec_lineCapture hg, again, granted', ← met_granted] <;> rfl
    · have withdrew := captureBody_withdraws (s := ungranted s) hr hn hl bad hv hs hroll
      have kept : (met .capture seen { s with arb.grant := none }).repair = s.repair := by
        obtain ⟨-, -, -, -, -, -, -, -, -, -, -, -, -, -, -, -, repair, -⟩ := met_keeps .capture seen { s with arb.grant := none }
        exact repair
      have same : ({ met .capture seen { s with arb.grant := none } with
          repair := { s.repair with
            r := s.repair.r.filter (fun x => decide (x ≠ o)), role := .source { r with scan := o + 1 } } } : State) =
          scanned r o (met .capture seen { s with arb.grant := none }) := by
        rw [scanned, kept] <;> rfl
      rw [same]
      exact ⟨_, exec_lineCapture hg, withdrew⟩
  · intro s j k f rest l hg hr hp hk hb hl hw seen
    refine ⟨fun bad hm => ?_, ?_⟩
    · have again := receiveBody_again (s := ungranted s) hr hp hk hb hl hm bad
      have granted' : exec .receiveWrite { met .receive seen s with arb.grant := some .receiveWrite } = .next
          (receiveBody { met .receive seen s with arb.grant := none }) :=
        congrArg Host.Outcome.next (runGrant_granted (.inl rfl))
      rw [exec_receiveWrite hg, again, granted', ← met_granted] <;> rfl
    · intro left me x bad hv hs hx hid hu hleft j1 read written drained
      obtain ⟨csr, -, -, regions, -, -, -, -, -, -, -, -, -, -, link1, link2, repair, mgmt, -⟩ :=
        met_keeps .receive seen (ungranted s)
      have stored : lineStored j l f.words read = { read with
        mem := (writeWords ((lineWords l).zip f.words) read).mem, repair.role := .joiner j1 } := rfl
      have links : getLink (lineStored j l f.words read) k = getLink s k := by
        cases k
        · exact link1
        · exact link2
      have link : receivingLink (lineStored j l f.words read) = some k := by
        simp [receivingLink, lineStored, JoinerRole.receiving, hk, hp]
      have vital : numVital (lineStored j l f.words read) = numVital s := congrArg (fun x : RegionUnit => vitalLines x.committed) regions
      have takes : dropLines k (leaveBuffer k rest (lineStored j l f.words read)) = drained := by
        by_cases h : (getLink s k).holdSent = true ∧ left.length ≤ 1
        · rw [show drained = _ from if_pos h]
          exact takenOff_goes link (by rw [links]; exact hb) (by simpa only [leaves, vital] using hleft)
            (by rw [links]; exact h.1) h.2 (by
              rw [show (lineStored j l f.words read).mgmt = s.mgmt from mgmt]
              exact hid) (by rw [links]; exact hu)
        · rw [show drained = _ from if_neg h]
          refine takenOff_silent link (by rw [links]; exact hb) (by simpa only [leaves, vital] using hleft) ?_
          rw [links]
          by_cases hh : (getLink s k).holdSent = true
          · exact .inr (by
              have : ¬ left.length ≤ 1 := fun hd => h ⟨hh, hd⟩
              omega)
          · exact .inl (Bool.eq_false_iff.mpr hh)
      have ends := receiveBody_bad (s := ungranted s) hr hp hk hb hl bad hv
      have kept : drained.csr = s.csr ∧ drained.regions = s.regions ∧ drained.repair.role = .joiner j1 ∧
          drained.mgmt = s.mgmt ∧ (getLink drained k).status = (getLink s k).status := by
        have csr' : read.csr = s.csr := csr
        have regions' : read.regions = s.regions := regions
        have mgmt' : read.mgmt = s.mgmt := mgmt
        have status : (getLink read k).status = (getLink s k).status := congrArg Link.status links
        have base : written.csr = s.csr ∧ written.regions = s.regions ∧ written.repair.role = .joiner j1 ∧
            written.mgmt = s.mgmt ∧ (getLink written k).status = (getLink s k).status := by
          cases k
          · exact ⟨csr', regions', rfl, mgmt', status⟩
          · exact ⟨csr', regions', rfl, mgmt', status⟩
        simp only [drained]
        split
        · simpa using base
        · exact base
      obtain ⟨csrD, regionsD, roleD, mgmtD, statusD⟩ := kept
      obtain ⟨b, bs, hbs⟩ := List.exists_cons_of_ne_nil bad
      have ends := receiveBody_bad (s := ungranted s) hr hp hk hb hl bad hv
      have returned := receive_consequences (u := drained) (x := x) (j1 := j1) (b := b) (bs := bs) (me := me) (k := k)
        (fun a ha => by
          rw [mem_lineWords (mem_of_mem_badWords (s := s) (by rw [show badWords _ = b :: bs from hbs]; exact ha))]
          simpa [classOf, regionOf, regionsD] using hv)
        (by rw [csrD]; exact hs) roleD hp hx hk (by rw [mgmtD]; exact hid) (by rw [statusD]; exact hu)
      refine ⟨_, exec_receiveWrite hg, ?_⟩
      rw [ends]
      have work : consequences .receive (badWords (outcomesAt (ungranted s) (lineWords l))) (dropLines k (leaveBuffer k rest
          (lineStored j l f.words (met .receive (outcomesAt (ungranted s) (lineWords l)) (ungranted s))))) =
          consequences .receive (b :: bs) drained := by
        rw [← takes, ← hbs]
        rfl
      rw [work]
      exact returned

end Sys2Proof.Machine
end

section
/-! JOIN and RESUME (R104, R106, R107). -/

namespace Sys2Proof.Machine
-- One proof after the other: side by side they pass the memory that the check allows.
set_option Elab.async false

theorem otherIds_distinct {me x y : Identity} (ho : otherIds (some me) = some (x, y)) : y ≠ x := by
  cases me <;> obtain ⟨rfl, rfl⟩ := Prod.mk.inj (Option.some.inj ho) <;> decide

/-- A fresh sequence that passes the first peer over and asks the second. -/
theorem beginSequence_asks_second {s : State} {j : JoinerRole} {me x y : Identity} {k : LinkId} (hr : s.repair.role = .joiner j)
    (hid : s.mgmt.params.channelId = some me) (ho : otherIds (some me) = some (x, y)) (h0 : eligible s.vote.peer0 = false)
    (he : eligible s.vote.peer1 = true) (hk : s.vote.peer1.link = some k) (hu : (getLink s k).status = .up) :
    beginSequence s = { sentUp k (ownFrame me (.request j.base (j.need.map (BitVec.ofNat 32)))) s with
      vote.peer1.relation := some .joinerOf
      repair.role := .joiner (asking y { afresh j with tried := [x, y] } s) } := by
  have slot (t : State) (ht : t.mgmt = s.mgmt) : peerSlot t y = some true := by
    simp [peerSlot, ht, hid, ho, otherIds_distinct ho]
  refine (beginSequence_eq hr).trans ((tryNext_some (j := afresh j) rfl (nextCandidate_second (me := me) (by exact hid) ho
    (.inr (by exact h0)) (by simp [afresh]) (by exact he))).trans ?_)
  refine (sendRequest_eq (s := { s with repair.role := .joiner { afresh j with tried := [x, y] } })
    (j := { afresh j with tried := [x, y] }) (second := true) (me := me) (l := k) rfl (by exact hid) (slot _ rfl) (by exact hk)
    (by cases k <;> exact hu)).trans ?_
  rw [setRelation, updPeer_at _ (slot _ (by simp))]
  cases k <;> rfl

/-- A fresh sequence with no peer eligible and no retry left gives up. -/
theorem beginSequence_gives_up {s : State} {j : JoinerRole} (hr : s.repair.role = .joiner j)
    (h0 : eligible s.vote.peer0 = false) (h1 : eligible s.vote.peer1 = false) (h : j.retry = 0) : beginSequence s = { s with
      repair.role := .joiner { afresh j with phase := .gaveUp }
      ev := evAfter .repair 11 .none 0 s } := by
  rw [beginSequence_eq hr, tryNext_none (s := { s with repair.role := .joiner (afresh j) }) (j := afresh j) rfl
      (nextCandidate_ineligible h0 h1),
    endSequence_gaveUp (s := { s with repair.role := .joiner (afresh j) }) (j := afresh j) rfl h]
  exact State.ext_ev rfl (evAfter_of _ _ _ _ _ _ rfl rfl rfl rfl)

section
variable {s : State}

theorem exec_join (hf : free s) : exec .join s = .next (runJoin (underWay 10 [] s)) :=
  congrArg Host.Outcome.next (giveCommand_free hf)

theorem exec_resume (hf : free s) : exec .resume s = .next (runResume (underWay 11 [] s)) :=
  congrArg Host.Outcome.next (giveCommand_free hf)

/-- JOIN by state (R107). -/
theorem runJoin_underWay : runJoin (underWay 10 [] s) =
    if s.csr.state = .configured then
      (if engineRunning s then turnedAway 10 [] .engineBusy s else finish [] (joinFresh (underWay 10 [] s)))
    else if s.csr.state = .out then finish [] (joinAgain (underWay 10 [] s))
    else turnedAway 10 [] .wrongState s := rfl

/-- The joiner role as JOIN takes it, its retries set (R152). -/
def joiningRole (s : State) : JoinerRole := { freshJoiner true with retry := s.mgmt.params.rejoinRetries }

/-- JOIN from CONFIGURED with S not valid. -/
theorem joinFresh_eq (hv : s.sig.valid = false) : joinFresh s = { s with
    csr := { s.csr with state := .out, stateInv := ~~~ (7 : BitVec 8) }
    sig := { s.sig with walk := .preparation, cursor := 0, acc := 0, poisoned := [], overflow := false }
    vote.peer0.slot := none, vote.peer1.slot := none
    repair.role := .joiner (joiningRole s)
    ev := evAfter .stateChange 11 (.channelState s.csr.state) (wordOf s.csr.committed.toNat) (setState .out s) } := by
  rw [joinFresh, changeState_eq, prepareSignature_walks (by exact hv)]
  rfl

/-- The role that JOIN finds in OUT, its retries restored. -/
theorem joinAgain_eq {j : JoinerRole} (hr : s.repair.role = .joiner j) : joinAgain s =
    if j.phase = .gaveUp ∨ j.phase = .retryWait then
      beginSequence { s with repair.role := .joiner { j with retry := s.mgmt.params.rejoinRetries } }
    else { s with repair.role := .joiner { j with retry := s.mgmt.params.rejoinRetries } } := by
  simp only [joinAgain, restoreRetries, hr]

end

/-- Settles O22: JOIN from CONFIGURED, in OUT by the joiner's phase, and RESUME. -/
theorem joinAndResumeChangeTheState : Obligations.JoinAndResumeChangeTheState := by
  refine ⟨fun s hf => ⟨?_, ?_, ?_, ?_⟩, fun s hf => ⟨?_, ?_⟩, ?_⟩
  · intro hc ho
    rw [exec_join hf, runJoin_underWay, if_neg hc, if_neg ho]
  · intro hc busy
    rw [exec_join hf, runJoin_underWay, if_pos hc, if_pos (by simpa [engineRunning] using busy)]
  · intro hc hp hi hv s1
    refine ⟨joiningRole s, ?_, rfl, rfl, rfl, rfl, rfl⟩
    rw [exec_join hf, runJoin_underWay, if_pos hc, if_neg (by simp [engineRunning, hp, hi]),
      joinFresh_eq (s := underWay 10 [] s) (by exact hv)]
    have record : evAfter .stateChange 11 (.channelState s.csr.state) (wordOf s.csr.committed.toNat)
        (setState .out (underWay 10 [] s)) =
        evAfter .stateChange 11 (.channelState .configured) (wordOf s.csr.committed.toNat) s1 := by
      rw [← hc]
      exact evAfter_of _ _ _ _ _ _ rfl rfl rfl rfl
    exact congrArg Host.Outcome.next (State.ext_ev rfl record)
  · intro j ho hr hp
    rw [exec_join hf, runJoin_underWay, if_neg (by simp [ho]), if_pos ho, joinAgain_eq (s := underWay 10 [] s) hr,
      if_neg (by rcases hp with hp | hp <;> simp [hp])]
    rfl
  · intro hs
    exact (exec_resume hf).trans (congrArg Host.Outcome.next (if_pos hs))
  · intro hs hc s1
    have counter : setCounter s.csr.committed (underWay 11 [] s) =
        { underWay 11 [] s with csr.counterInv := ~~~ s.csr.committed } := by
      refine (if_pos (show s.csr.committed = (underWay 11 [] s).csr.counter from hc.symm)).trans ?_
      simp only [← hc]
      rfl
    have runs : runResume (underWay 11 [] s) =
        finish [] (changeState .voting .resume (setCounter s.csr.committed (underWay 11 [] s))) := if_neg (not_not.mpr hs)
    have record : evAfter .stateChange 9 (.channelState s.csr.state) (wordOf s.csr.committed.toNat)
        (setState .voting (setCounter s.csr.committed (underWay 11 [] s))) =
        evAfter .stateChange 9 (.channelState .held) (wordOf s.csr.committed.toNat) s1 := by
      rw [← hs, counter]
      exact evAfter_of _ _ _ _ _ _ rfl rfl rfl rfl
    rw [exec_resume hf, runs, changeState_eq]
    refine congrArg Host.Outcome.next (State.ext_ev ?_ (by rw [counter] at record ⊢; exact record))
    rw [counter]
    rfl
  · intro s j me x y hf ho hr hp hid hoth given fresh asked request
    have run : exec .join s = .next (finish [] (beginSequence { underWay 10 [] s with
        repair.role := .joiner { j with retry := s.mgmt.params.rejoinRetries } })) := by
      rw [exec_join hf, runJoin_underWay, if_neg (by simp [ho]), if_pos ho, joinAgain_eq (s := underWay 10 [] s) hr,
        if_pos hp.symm]
      rfl
    rw [run]
    refine ⟨fun l he hk hu => ?_, fun l h0 he hk hu => ?_, fun h0 h1 => ⟨fun h => ?_, fun h => ?_⟩⟩
    · rw [beginSequence_asks_first (s := { underWay 10 [] s with repair.role := .joiner _ }) rfl hid hoth he hk
        (by cases l <;> exact hu)]
      cases l <;> rfl
    · rw [beginSequence_asks_second (s := { underWay 10 [] s with repair.role := .joiner _ }) rfl hid hoth h0 he hk
        (by cases l <;> exact hu)]
      cases l <;> rfl
    · rw [beginSequence_waits (s := { underWay 10 [] s with repair.role := .joiner _ }) rfl h0 h1 h]
      rfl
    · rw [beginSequence_gives_up (s := { underWay 10 [] s with repair.role := .joiner _ }) rfl h0 h1 h]
      refine congrArg Host.Outcome.next (State.ext_ev ?_ (evAfter_of _ _ _ _ _ _ rfl rfl rfl rfl))
      show _ = ({ given with repair.role := .joiner { fresh with phase := .gaveUp }, ev := _ } : State)
      simp only [fresh, h]
      rfl

end Sys2Proof.Machine
end

section
/-! LINK-MODE (R134): a link taken into service, out of service, and from one mode in service to the other. -/

namespace Sys2Proof.Machine
-- One proof after the other: side by side they pass the memory that the check allows.
set_option Elab.async false

/-! ### The command -/

section
variable {s : State} {l : LinkId} {p v : Word} {m : LinkMode}

theorem exec_linkMode (hf : free s) (hp : p.toNat = 14 + l.code) :
    exec (.setParameter p v) s = .next (settle (setLinkMode l v.toNat (underWay 4 [p, v] s))) := by
  have given : exec (.setParameter p v) s = .next (settle (runSetParameter (underWay 4 [p, v] s))) :=
    congrArg (fun t => Host.Outcome.next (settle t)) (giveCommand_free hf)
  have first : arg (underWay 4 [p, v] s) 1 = 14 + l.code := hp
  rw [given, runSetParameter, first]
  cases l <;> rfl

theorem linkModeOf_code (m : LinkMode) : linkModeOf m.code = some m := by cases m <;> rfl

theorem linkModeOf_none {n : Nat} (h : n = 0 ∨ 3 < n) : linkModeOf n = none := by
  unfold linkModeOf
  split <;> first | rfl | omega

/-- A mode that disturbs no grant under way acts at once. -/
theorem exec_linkMode_calm (hf : free s) (hp : p.toNat = 14 + l.code) (hv : v.toNat = m.code)
    (calm : disturbs (underWay 4 [p, v] s) (setMode l m (underWay 4 [p, v] s)) = false) :
    exec (.setParameter p v) s = .next (settle (finish [v] (setMode l m (underWay 4 [p, v] s)))) := by
  rw [exec_linkMode hf hp, setLinkMode, hv, linkModeOf_code]
  simp only
  rw [during_undisturbed _ _ calm, ← hv, wordOf_toNat]

theorem exec_linkMode_idle (hf : free s) (hp : p.toNat = 14 + l.code) (hv : v.toNat = m.code) (hg : s.arb.grant = none) :
    exec (.setParameter p v) s = .next (settle (finish [v] (setMode l m (underWay 4 [p, v] s)))) := by
  rw [exec_linkMode hf hp, setLinkMode, hv, linkModeOf_code]
  simp only
  rw [during_none _ (underWay 4 [p, v] s) hg, ← hv, wordOf_toNat]

end

/-! ### The modes (Table 8-2) -/

section
variable {s : State} {l : LinkId} {m : LinkMode} {x : Identity} {me : Identity}

theorem setMode_same (h : (getLink s l).mode = m) : setMode l m s = s := if_pos h

/-- OFF on a link that is not UP. -/
theorem setMode_off_down (hm : (getLink s l).mode ≠ .off) (hs : (getLink s l).status ≠ .up) :
    setMode l .off s = updLink l (fun k => { k with
      mode := .off, status := .down, hailTimer := none, quietTimer := none, silenceTimer := none, beatTimer := none }) s := by
  rw [setMode, if_neg hm]
  simp only [if_true, enterDown]
  rw [if_neg (by simpa using hs), updLink_updLink]

/-- OFF on a link that is UP: it leaves UP with cause MODE-OFF. -/
theorem setMode_off_up (hm : (getLink s l).mode ≠ .off) (hs : (getLink s l).status = .up) (hx : (getLink s l).peer = some x) :
    setMode l .off s = updLink l (fun k => { k with
        peer := none, status := .down, hailTimer := none, quietTimer := none, silenceTimer := none, beatTimer := none })
      (hand .linkState 4 (.link l) (wordOf x.code)
        (repairLinkLost l x (linkLeft l x .down (updLink l (fun k => { k with mode := .off }) s)))) := by
  rw [setMode, if_neg hm]
  simp only [if_true, enterDown]
  rw [if_pos (by simpa using hs), leaveUp_eq _ _ (by simpa using hx), updLink_updLink]
  rfl

/-- In UP and in QUIET a change between PASSIVE and ACTIVE is the mode's only. -/
theorem setMode_up (hm : (getLink s l).mode ≠ m) (ho : m ≠ .off)
    (hs : (getLink s l).status = .up ∨ (getLink s l).status = .quiet) :
    setMode l m s = updLink l (fun k => { k with mode := m }) s := by
  rw [setMode, if_neg hm]
  simp only [if_neg ho, changeHailing]
  rcases hs with hs | hs <;> simp [hs]

/-- In HAILING and MISMATCH a link made PASSIVE stops its timer. -/
theorem setMode_passive (hm : (getLink s l).mode ≠ .passive)
    (hs : (getLink s l).status = .hailing ∨ (getLink s l).status = .mismatch) :
    setMode l .passive s = updLink l (fun k => { k with mode := .passive, hailTimer := none }) s := by
  have change : setMode l .passive s = updLink l (fun k => { k with hailTimer := none })
      (updLink l (fun k => { k with mode := .passive }) s) := by
    rw [setMode, if_neg hm]
    simp only [changeHailing]
    rcases hs with hs | hs <;> simp [hs]
  rw [change, updLink_updLink]

/-- In HAILING and MISMATCH a link made ACTIVE hails at once. -/
theorem setMode_active (hid : s.mgmt.params.channelId = some me) (hm : (getLink s l).mode ≠ .active)
    (hs : (getLink s l).status = .hailing ∨ (getLink s l).status = .mismatch) :
    setMode l .active s = updLink l (fun k => { k with mode := .active, hailTimer := some 1 }) (transmit l
      { ack := decide ((getLink s l).status = .hailing) && (getLink s l).heard.isSome
        mismatch := decide ((getLink s l).status = .mismatch), relayed := false, sender := me, originator := me
        payload := .hail s.mgmt.digest (some s.csr.state) s.csr.counter s.csr.committed } s) := by
  have change : setMode l .active s = updLink l (fun k => { k with hailTimer := some 1 })
      (sendHail l (updLink l (fun k => { k with mode := .active }) s)) := by
    rw [setMode, if_neg hm]
    simp only [changeHailing]
    rcases hs with hs | hs <;> simp [hs, Config.hailMs]
  rw [change, sendHail_hails (me := me) (by simpa using hid) (by simpa using hs)]
  simp only [getLink_updLink_self, updLink_keeps]
  cases l <;> rfl

/-- From OFF a link enters HAILING. -/
theorem setMode_hails (hm : (getLink s l).mode = .off) (ho : m ≠ .off) (hs : (getLink s l).status = .down)
    (hc : s.csr.state ≠ .unconfigured) : setMode l m s = enterHailing l (updLink l (fun k => { k with mode := m }) s) := by
  rw [setMode, if_neg (by rw [hm]; exact ho.symm)]
  simp [changeHailing, ho, hs, hc]

/-- In UNCONFIGURED it stays DOWN. -/
theorem setMode_stays (hm : (getLink s l).mode = .off) (ho : m ≠ .off) (hs : (getLink s l).status = .down)
    (hc : s.csr.state = .unconfigured) : setMode l m s = updLink l (fun k => { k with mode := m }) s := by
  rw [setMode, if_neg (by rw [hm]; exact ho.symm)]
  simp [changeHailing, ho, hs, hc]

/-- A part without an identity sends no HAIL. -/
theorem enterHailing_nameless (hid : s.mgmt.params.channelId = none) : enterHailing l s = updLink l (fun k => { k with
    status := .hailing, heard := none, peer := none, silenceTimer := none, beatTimer := none, quietTimer := none
    hailTimer := if k.mode = .active then some 1 else none }) s := by
  simp only [enterHailing]
  split
  · simp [sendHail, hid, Config.hailMs]
  · rfl

end

/-! ### The statement -/

section
variable {s : State} {l : LinkId} {p v : Word} {m : LinkMode} {me x : Identity}

/-- A mode that changes the link alone. -/
theorem exec_linkMode_link {f : Link → Link} (hf : free s) (hp : p.toNat = 14 + l.code) (hv : v.toNat = m.code)
    (h : setMode l m (underWay 4 [p, v] s) = updLink l f (underWay 4 [p, v] s)) :
    exec (.setParameter p v) s = .next (settle (updLink l f (done 4 [p, v] [v] s))) := by
  rw [exec_linkMode_calm hf hp hv (by rw [h]; exact disturbs_of_kept (by simp) (by simp) (by simp)), h]
  cases l <;> rfl

/-- OFF on a link that is UP. -/
theorem exec_linkMode_off (hm : (getLink s l).mode ≠ .off) (hs : (getLink s l).status = .up)
    (hx : (getLink s l).peer = some x) : setMode l .off (underWay 4 [p, v] s) = updLink l (fun k => { k with
        peer := none, status := .down, hailTimer := none, quietTimer := none, silenceTimer := none, beatTimer := none })
      (hand .linkState 4 (.link l) (wordOf x.code) (repairLinkLost l x
        (linkLeft l x .down (updLink l (fun k => { k with mode := .off }) (underWay 4 [p, v] s))))) :=
  setMode_off_up (s := underWay 4 [p, v] s) (by cases l <;> exact hm) (by cases l <;> exact hs) (by cases l <;> exact hx)

/-- What a link that leaves service over OFF keeps nothing of. -/
theorem linkMode_loses_nothing (hf : free s) (hp : p.toNat = 14 + l.code) (hv : v.toNat = 1) (hs : (getLink s l).status = .up)
    (hm : (getLink s l).mode ≠ .off) (hx : (getLink s l).peer = some x) (hr : s.repair.role = .none) :
    exec (.setParameter p v) s = .next (settle (updLink l (fun k => { k with
      mode := .off, status := .down, hailTimer := none, quietTimer := none, silenceTimer := none, beatTimer := none
      peer := none, buffer := [], holdSent := false, peerHolding := false })
      { updPeer x (fun y => { y with link := none, state := none }) (done 4 [p, v] [v] s) with
        ev := evAfter .linkState 4 (.link l) (wordOf x.code) s })) := by
  have eq := exec_linkMode_off (p := p) (v := v) hm hs hx
  rw [repairLinkLost_none (by simp [linkLeft, underWay, hr]), hand_as_evAfter] at eq
  rw [exec_linkMode_calm hf hp (m := .off) hv
    (by rw [eq]; exact disturbs_of_kept (by simp [linkLeft]) (by simp [linkLeft]) (by simp [linkLeft])), eq]
  refine congrArg (fun t => Host.Outcome.next (settle t)) (State.ext_ev ?_ ?_)
  · simp only [linkLeft, updPeer_eq]
    cases l <;> rfl
  · simp only [finish, updLink_keeps]
    exact evAfter_of _ _ _ _ _ _ (by simp [linkLeft, underWay]) (by simp [linkLeft, underWay]) (by simp [linkLeft, underWay])
      (by simp [linkLeft, underWay])

/-- From OFF the link enters HAILING, whatever the part's identity. -/
theorem linkMode_hails (hf : free s) (hp : p.toNat = 14 + l.code) (hv : v.toNat = m.code) (ho : m ≠ .off)
    (hm : (getLink s l).mode = .off) (hs : (getLink s l).status = .down) (hc : s.csr.state ≠ .unconfigured) :
    exec (.setParameter p v) s = .next (settle (finish [v]
      (enterHailing l (updLink l (fun k => { k with mode := m }) (underWay 4 [p, v] s))))) := by
  have eq := setMode_hails (s := underWay 4 [p, v] s) (l := l) (m := m) (by cases l <;> exact hm) ho (by cases l <;> exact hs) hc
  rw [exec_linkMode_calm hf hp hv (by rw [eq]; exact disturbs_of_kept (by simp) (by simp) (by simp)), eq]

theorem linkMode_hails_active (hf : free s) (hp : p.toNat = 14 + l.code) (hv : v.toNat = 3)
    (hid : s.mgmt.params.channelId = some me) (hm : (getLink s l).mode = .off) (hs : (getLink s l).status = .down)
    (hc : s.csr.state ≠ .unconfigured) : exec (.setParameter p v) s = .next (settle (updLink l (fun k => { k with
        mode := .active, status := .hailing, heard := none, peer := none, silenceTimer := none, beatTimer := none
        quietTimer := none, hailTimer := some 1 }) (transmit l
      (ownFrame me (.hail s.mgmt.digest (some s.csr.state) s.csr.counter s.csr.committed)) (done 4 [p, v] [v] s)))) := by
  rw [linkMode_hails hf hp (m := .active) hv (by decide) hm hs hc, enterHailing_eq (me := me) (by simpa [underWay, ended] using hid),
    hailsAfresh_active (by simp)]
  cases l <;> rfl

theorem linkMode_hails_passive (hf : free s) (hp : p.toNat = 14 + l.code) (hv : v.toNat = 2)
    (hm : (getLink s l).mode = .off) (hs : (getLink s l).status = .down)
    (hc : s.csr.state ≠ .unconfigured) : exec (.setParameter p v) s = .next (settle (updLink l (fun k => { k with
        mode := .passive, status := .hailing, heard := none, peer := none, silenceTimer := none, beatTimer := none
        quietTimer := none, hailTimer := none }) (done 4 [p, v] [v] s))) := by
  have quiet : enterHailing l (updLink l (fun k => { k with mode := .passive }) (underWay 4 [p, v] s)) =
      updLink l (fun k => { k with
        status := .hailing, heard := none, peer := none, silenceTimer := none, beatTimer := none, quietTimer := none
        hailTimer := if k.mode = .active then some 1 else none }) (updLink l (fun k => { k with mode := .passive })
          (underWay 4 [p, v] s)) := by
    simp only [enterHailing, getLink_updLink_self, Config.hailMs]
    rfl
  rw [linkMode_hails hf hp (m := .passive) hv (by decide) hm hs hc, quiet]
  cases l <;> rfl

/-- From OFF a mode in service leaves the link HAILING, and nothing but the links and the frames sent has changed. -/
theorem linkMode_enters (hf : free s) (hp : p.toNat = 14 + l.code) (hv : v.toNat = m.code) (ho : m ≠ .off)
    (hm : (getLink s l).mode = .off) (hs : (getLink s l).status = .down) (hc : s.csr.state ≠ .unconfigured) :
    ∃ t, exec (.setParameter p v) s = .next (settle t) ∧
      t = { done 4 [p, v] [v] s with link1 := t.link1, link2 := t.link2, out := t.out } ∧
      getLink t l = { getLink s l with
        mode := m, status := .hailing, heard := none, peer := none, silenceTimer := none, beatTimer := none
        quietTimer := none, hailTimer := if m = .active then some 1 else none } ∧
      getLink t (otherLink l) = getLink s (otherLink l) ∧ t.out.responses = s.out.responses := by
  cases m with
  | off => exact absurd rfl ho
  | passive =>
    refine ⟨_, linkMode_hails_passive hf hp hv hm hs hc, ?_⟩
    rw [if_neg (by decide)]
    cases l <;> exact ⟨rfl, rfl, rfl, rfl⟩
  | active =>
    rw [if_pos rfl]
    cases hid : s.mgmt.params.channelId with
    | none =>
      refine ⟨_, linkMode_hails hf hp hv ho hm hs hc, ?_⟩
      rw [enterHailing_nameless (by simpa [underWay, ended] using hid)]
      cases l <;> exact ⟨rfl, rfl, rfl, rfl⟩
    | some me =>
      refine ⟨_, linkMode_hails_active hf hp hv hid hm hs hc, ?_⟩
      cases l <;> exact ⟨rfl, rfl, rfl, rfl⟩

end

/-- The first part of O16: a code that names no mode, the present mode, OFF without UP, and service from OFF. -/
theorem linkMode_outside_up (l : LinkId) (p v : Word) (s : State) (hf : free s) (hp : p.toNat = 14 + l.code) :
    (v.toNat = 0 ∨ 3 < v.toNat → exec (.setParameter p v) s = .next (settle (turnedAway 4 [p, v] .badArgument s))) ∧
    (∀ m : LinkMode, v.toNat = m.code → (getLink s l).mode = m →
      exec (.setParameter p v) s = .next (settle (done 4 [p, v] [v] s))) ∧
    (v.toNat = 1 → (getLink s l).mode ≠ .off → (getLink s l).status ≠ .up →
      exec (.setParameter p v) s = .next (settle (updLink l (fun k => { k with
        mode := .off, status := .down, hailTimer := none, quietTimer := none, silenceTimer := none, beatTimer := none })
        (done 4 [p, v] [v] s)))) ∧
    (∀ m : LinkMode, v.toNat = m.code → m ≠ .off → (getLink s l).mode = .off → (getLink s l).status = .down →
      s.csr.state ≠ .unconfigured → ∃ t, exec (.setParameter p v) s = .next (settle t) ∧
        t = { done 4 [p, v] [v] s with link1 := t.link1, link2 := t.link2, out := t.out } ∧
        getLink t l = { getLink s l with
          mode := m, status := .hailing, heard := none, peer := none, silenceTimer := none, beatTimer := none
          quietTimer := none, hailTimer := if m = .active then some 1 else none } ∧
        getLink t (otherLink l) = getLink s (otherLink l) ∧
        t.out.responses = s.out.responses) := by
  refine ⟨fun h => ?_, fun m hv hm => ?_, fun hv hm hs => ?_, fun m hv ho hm hs hc => ?_⟩
  · rw [exec_linkMode hf hp, setLinkMode, linkModeOf_none h] <;> rfl
  · have eq := setMode_same (s := underWay 4 [p, v] s) (l := l) (m := m) (by cases l <;> exact hm)
    rw [exec_linkMode_calm hf hp hv (by rw [eq]; exact disturbs_of_kept rfl rfl rfl), eq] <;> rfl
  · exact exec_linkMode_link hf hp (m := .off) hv
      (setMode_off_down (s := underWay 4 [p, v] s) (by cases l <;> exact hm) (by cases l <;> exact hs))
  · exact linkMode_enters hf hp hv ho hm hs hc

end Sys2Proof.Machine
end

section
/-! LINK-MODE with a role over the link (R134, R155, R170): a source role ends, a try fails, a receiving joiner returns. -/

namespace Sys2Proof.Machine
-- One proof after the other: side by side they pass the memory that the check allows.
set_option Elab.async false

/-! ### A link's mode through a joiner's return -/

section
variable (l k : LinkId) (s : State)

@[simp] theorem getLink_hand (e : EventKind) (d : Nat) (j : Subject) (v : Word) :
    getLink (hand e d j v s) l = getLink s l := by cases l <;> simp [getLink]

@[simp] theorem getLink_finish (ws : List Word) : getLink (finish ws s) l = getLink s l := by cases l <;> rfl

@[simp] theorem getLink_setRelation (i : Identity) (r : Option Relation) :
    getLink (setRelation i r s) l = getLink s l := by cases l <;> simp [getLink]

theorem mode_updLink {f : Link → Link} (hf : ∀ x, (f x).mode = x.mode) :
    (getLink (updLink k f s) l).mode = (getLink s l).mode := by
  cases k <;> cases l
  · exact hf _
  · rfl
  · rfl
  · exact hf _

@[simp] theorem mode_sendFrame (f : Frame) : (getLink (sendFrame k f s) l).mode = (getLink s l).mode := by
  have moved (t : State) : getLink (transmit k f t) l = getLink t l := by cases k <;> cases l <;> rfl
  unfold sendFrame
  split
  · refine (mode_updLink l k _ ?_).trans (congrArg Link.mode (moved s))
    exact fun _ => rfl
  · split <;> simp [moved]
  · split <;> simp [moved]
  · rfl
  · rfl

@[simp] theorem mode_send (pl : Payload) : (getLink (send k pl s) l).mode = (getLink s l).mode := by
  unfold send
  split <;> simp

@[simp] theorem mode_leaveBuffer (rest : List LineFrame) : (getLink (leaveBuffer k rest s) l).mode = (getLink s l).mode := by
  have buffer : (getLink (updLink k (fun x => { x with buffer := rest }) s) l).mode = (getLink s l).mode :=
    mode_updLink l k s fun _ => rfl
  unfold leaveBuffer
  split
  · simp only [goIfDrained]
    split
    · refine (mode_updLink l k _ ?_).trans ((mode_send l k _ _).trans buffer)
      exact fun _ => rfl
    · exact buffer
  · rfl

@[simp] theorem mode_settleBuffers : (getLink (settleBuffers s) l).mode = (getLink s l).mode := by
  have drops (k : LinkId) (t : State) : (getLink (dropLines k t) l).mode = (getLink t l).mode := by
    unfold dropLines
    split <;> simp
  rw [settleBuffers, drops, drops]

theorem mode_beginSequence : (getLink (beginSequence s) l).mode = (getLink s l).mode := by
  have asks (i : Identity) (t : State) : (getLink (sendRequest i t) l).mode = (getLink t l).mode := by
    unfold sendRequest
    split
    · split
      · rw [mode_send, getLink_setRelation] <;> rfl
      · rw [getLink_setRelation] <;> rfl
    · rfl
  have ends (t : State) : (getLink (endSequence t) l).mode = (getLink t l).mode := by
    unfold endSequence
    split
    · split
      · rfl
      · rw [getLink_hand] <;> rfl
    · rfl
  have tries (t : State) : (getLink (tryNext t) l).mode = (getLink t l).mode := by
    unfold tryNext
    split
    · split
      · rw [asks] <;> rfl
      · exact ends t
    · rfl
  unfold beginSequence
  split
  · rw [tries] <;> rfl
  · rfl

theorem mode_prepareSignature : (getLink (prepareSignature s) l).mode = (getLink s l).mode := by
  unfold prepareSignature
  split
  · unfold finishPreparation
    split
    · rw [mode_beginSequence] <;> rfl
    · rfl
  · rfl

end

/-- A return to OUT leaves every link its mode and its status. -/
theorem abortReceiving_links {s : State} {j : JoinerRole} {x : Identity} (why : AbortReason) (l : LinkId)
    (hr : s.repair.role = .joiner j) (hp : j.phase = .receiving ∨ j.phase = .closing) (hx : j.source = some x) :
    (getLink (abortReceiving why false s) l).mode = (getLink s l).mode ∧
    (getLink (abortReceiving why false s) l).status = (getLink s l).status ∧
    ∃ j1, (abortReceiving why false s).repair.role = .joiner j1 ∧ j1.phase ≠ .receiving ∧ j1.phase ≠ .closing := by
  have role : (hand .repair (3 + why.code) (.peer x) (wordOf j.linesWritten) s).repair.role = .joiner j := by simpa using hr
  obtain ⟨status, back⟩ := joinerReturn_links (c := .repairAbort) role
  rw [abortReceiving_eq why false hr hp hx, if_neg Bool.false_ne_true]
  refine ⟨?_, (status l).trans (by rw [getLink_hand]), back⟩
  rw [joinerReturn_eq .repairAbort hr hx, mode_prepareSignature, mode_settleBuffers]
  cases l <;> rfl

/-! ### The roles -/

section
variable {s : State} {l : LinkId} {p v : Word} {me x : Identity}

@[simp] theorem underWay_keeps (code : Nat) (args : List Word) (s : State) :
    (underWay code args s).csr = s.csr ∧ (underWay code args s).repair = s.repair ∧ (underWay code args s).ev = s.ev ∧
    (underWay code args s).regions = s.regions ∧ (underWay code args s).vote = s.vote ∧ (underWay code args s).sig = s.sig ∧
    (underWay code args s).mem = s.mem ∧ (underWay code args s).jnl = s.jnl ∧
    (underWay code args s).mgmt.params = s.mgmt.params :=
  ⟨rfl, rfl, rfl, rfl, rfl, rfl, rfl, rfl, rfl⟩

@[simp] theorem done_keeps (code : Nat) (args ws : List Word) (s : State) :
    (done code args ws s).csr = s.csr ∧ (done code args ws s).repair = s.repair ∧ (done code args ws s).ev = s.ev ∧
    (done code args ws s).regions = s.regions :=
  ⟨rfl, rfl, rfl, rfl⟩

/-- The link that has gone out of service over UP. -/
def outOfService (k : Link) : Link := { k with
  mode := .off, status := .down, hailTimer := none, quietTimer := none, silenceTimer := none, beatTimer := none
  peer := none, buffer := [], holdSent := false, peerHolding := false }

/-- The state behind a link taken out of service over UP: its peer's entry names no link and no state. -/
def serviceLeft (l : LinkId) (x : Identity) (t : State) : State :=
  updLink l outOfService (updPeer x (fun y => { y with link := none, state := none }) t)

/-- A source role over the link ends. -/
theorem linkMode_ends_source {r : SourceRole} (hf : free s) (hp : p.toNat = 14 + l.code) (hv : v.toNat = 1)
    (hs : (getLink s l).status = .up) (hm : (getLink s l).mode ≠ .off) (hx : (getLink s l).peer = some x)
    (hr : s.repair.role = .source r) (hl : r.link = l) (hg : s.arb.grant = none) :
    let ended : State := { done 4 [p, v] [v] s with
      repair := { s.repair with role := .none, r := [] }
      ev := evAfter .repair 8 (.peer r.joiner) (wordOf r.linesSent) s }
    exec (.setParameter p v) s = .next (settle (serviceLeft l x (setRelation r.joiner none { ended with
      ev := evAfter .linkState 4 (.link l) (wordOf x.code) ended }))) := by
  intro ended
  rw [exec_linkMode_idle hf hp (m := .off) hv hg, exec_linkMode_off hm hs hx,
    repairLinkLost_source (r := r) (by simpa [linkLeft] using hr) hl, hand_as_evAfter]
  refine congrArg (fun t => Host.Outcome.next (settle t)) (State.ext_ev ?_ ?_)
  · simp only [sourceEnded, linkLeft, serviceLeft, ended, setRelation_eq, updPeer_eq]
    have commute := voteWith_comm (f := fun y => { y with relation := none })
      (g := fun y => { y with link := none, state := none }) (fun _ => rfl) s.mgmt.params.channelId r.joiner x s.vote
    cases l <;> exact State.ext_parts rfl rfl rfl rfl rfl rfl rfl rfl rfl rfl rfl commute rfl rfl rfl rfl rfl rfl
  · simp only [finish, updLink_keeps, serviceLeft, updPeer_keeps, setRelation_keeps]
    refine evAfter_of _ _ _ _ ended _ ?_ ?_ ?_ (evAfter_of _ _ _ _ _ _ ?_ ?_ ?_ ?_) <;>
      simp [sourceEnded, linkLeft, ended, underWay]

/-- A joiner's outstanding try over the link fails, and with every peer tried it waits. -/
theorem linkMode_fails_try {j : JoinerRole} (hf : free s) (hp : p.toNat = 14 + l.code) (hv : v.toNat = 1)
    (hid : s.mgmt.params.channelId = some me) (hs : (getLink s l).status = .up) (hm : (getLink s l).mode ≠ .off)
    (hx : (getLink s l).peer = some x) (hr : s.repair.role = .joiner j) (hph : j.phase = .requesting) (hc : j.candidate = some x)
    (htr : ∀ i, i ≠ me → i ∈ j.tried) (h : 0 < j.retry) :
    exec (.setParameter p v) s = .next (settle (serviceLeft l x (setRelation x none { done 4 [p, v] [v] s with
      repair.role := .joiner { j with
        phase := .retryWait, retry := j.retry - 1, candidate := none, replyTimer := none
        retryTimer := some s.mgmt.params.rejoinRetry }
      ev := evAfter .linkState 4 (.link l) (wordOf x.code) s }))) := by
  have eq := exec_linkMode_off (p := p) (v := v) hm hs hx
  rw [repairLinkLost_requesting (j := j) (by simpa [linkLeft] using hr) hph hc,
    failTry_waits (j := j) (me := me) (by simpa [linkLeft] using hr) hc (by simpa [linkLeft, underWay, ended] using hid) htr h,
    hand_as_evAfter] at eq
  rw [exec_linkMode_calm hf hp (m := .off) hv
    (by rw [eq]; simp [disturbs, linkLeft, Role.alike, underWay, hr]), eq]
  refine congrArg (fun t => Host.Outcome.next (settle t)) (State.ext_ev ?_ ?_)
  · simp only [linkLeft, serviceLeft, setRelation_eq, updPeer_eq]
    have commute := voteWith_comm (f := fun y => { y with relation := none })
      (g := fun y => { y with link := none, state := none }) (fun _ => rfl) s.mgmt.params.channelId x x s.vote
    cases l <;> exact State.ext_parts rfl rfl rfl rfl rfl rfl rfl rfl rfl rfl rfl commute rfl rfl rfl rfl rfl rfl
  · simp only [finish, updLink_keeps, serviceLeft, updPeer_keeps, setRelation_keeps]
    refine evAfter_of _ _ _ _ s _ ?_ ?_ ?_ ?_ <;> simp [linkLeft, underWay]

/-- A joiner that receives over the link is back in OUT, its base lost. -/
theorem linkMode_returns {j : JoinerRole} (hf : free s) (hp : p.toNat = 14 + l.code) (hv : v.toNat = 1)
    (hs : (getLink s l).status = .up) (hm : (getLink s l).mode ≠ .off) (hx : (getLink s l).peer = some x)
    (hr : s.repair.role = .joiner j) (hph : j.phase = .receiving ∨ j.phase = .closing) (hl : j.link = some l)
    (hsrc : j.source = some x) (hval : s.sig.valid = true) (hg : s.arb.grant = none) :
    ∃ t j1, exec (.setParameter p v) s = .next (settle t) ∧ t.csr.state = .out ∧
      t.csr.counter = s.csr.counter ∧ t.sig = s.sig ∧ t.mem = s.mem ∧ t.jnl = s.jnl ∧ t.mgmt = (done 4 [p, v] [v] s).mgmt ∧
      t.repair.role = .joiner j1 ∧ j1.base = none ∧ j1.need = [] ∧ j1.phase ≠ .receiving ∧ j1.phase ≠ .closing ∧
      (getLink t l).mode = .off ∧ (getLink t l).status = .down ∧ (getLink t l).buffer = [] ∧ (getLink t l).peer = none := by
  obtain ⟨csr, role, mgmt, sig, mem, jnl, -, -, -⟩ :=
    linkLeft_keeps l x .down (updLink l (fun k => { k with mode := .off }) (underWay 4 [p, v] s))
  have link : getLink (linkLeft l x .down (updLink l (fun k => { k with mode := .off }) (underWay 4 [p, v] s))) l =
      { getLink s l with
        mode := .off, status := .down, silenceTimer := none, beatTimer := none, buffer := [], holdSent := false
        peerHolding := false } := by
    simp only [linkLeft, updPeer_eq]
    cases l <;> rfl
  have run := exec_linkMode_idle hf hp (m := .off) hv hg
  rw [exec_linkMode_off hm hs hx, repairLinkLost_receiving (j := j) (by rw [role]; simpa using hr) hph hl] at run
  generalize hu : linkLeft l x .down (updLink l (fun k => { k with mode := .off }) (underWay 4 [p, v] s)) = u at *
  have hr' : u.repair.role = .joiner j := by rw [role]; simpa using hr
  have back := abortReceiving_silent (l := l) .linkLost hr' hph hsrc
  obtain ⟨mode, status, j2, jrole, p1, p2⟩ := abortReceiving_links .linkLost l hr' hph hsrc
  generalize abortReceiving .linkLost false u = w at *
  obtain ⟨kmem, -, kjnl, -, -, -, kmgmt, -, -, -⟩ := back.kept
  obtain ⟨j1, hj1, base, need, -, -, -, valid⟩ := back.role
  have same : j2 = j1 := by
    have := jrole
    rw [hj1] at this
    exact (Role.joiner.inj this).symm
  subst same
  have sigw : w.sig = s.sig := ((valid (by rw [sig]; simpa using hval)).1).trans (by rw [sig]; simp)
  refine ⟨_, j2, run, ?_, ?_, ?_, ?_, ?_, ?_, ?_, base, need, p1, p2, ?_, ?_, ?_, ?_⟩
  · simp [finish, back.csr]
  · simp [finish, back.csr, csr]
  · simpa [finish] using sigw
  · simp [finish, kmem, mem]
  · simp [finish, kjnl, jnl]
  · simp [finish, kmgmt, mgmt]
    rfl
  · simpa [finish] using jrole
  · simp [mode, link]
  · simp
  · obtain ⟨b1, b2⟩ := back.buffers
    simp only [getLink_finish, getLink_updLink_self, getLink_hand]
    cases l
    · exact b1
    · exact b2
  · simp

end

/-- Settles O16: by the link's status, its mode, and the role it carries. -/
theorem linkModeTakesALinkInAndOutOfService : Obligations.LinkModeTakesALinkInAndOutOfService := by
  refine ⟨linkMode_outside_up, fun l p v s me hf hp hid => ?_, fun l p v s me hf hp hid => ?_⟩
  · intro k
    refine ⟨fun x hv hs hm hx hr => linkMode_loses_nothing hf hp hv hs hm hx hr, fun m hv ho hm hs => ?_, fun hs => ⟨?_, ?_⟩⟩
    · exact exec_linkMode_link hf hp hv
        (setMode_up (s := underWay 4 [p, v] s) (by cases l <;> exact hm) ho (by cases l <;> exact hs))
    · intro hv hm
      exact exec_linkMode_link hf hp (m := .passive) hv (setMode_passive (s := underWay 4 [p, v] s)
        (fun h => absurd (hm.symm.trans (by cases l <;> exact h)) (by decide)) (by cases l <;> exact hs))
    · intro hv hm
      have eq := setMode_active (s := underWay 4 [p, v] s) (l := l) (me := me) (by exact hid)
        (fun h => absurd (hm.symm.trans (by cases l <;> exact h)) (by decide)) (by cases l <;> exact hs)
      rw [exec_linkMode_calm hf hp (m := .active) hv
        (by rw [eq]; exact disturbs_of_kept (by simp) (by simp) (by simp)), eq]
      cases l <;> rfl
  · intro k given
    refine ⟨fun hm hs hc => ⟨fun hv => linkMode_hails_active hf hp hv hid hm hs hc,
      fun hv => linkMode_hails_passive hf hp hv hm hs hc⟩, fun m hv ho hm hs hc => ?_, fun x hv hs hm hx => ⟨?_, ?_, ?_⟩⟩
    · exact exec_linkMode_link hf hp hv
        (setMode_stays (s := underWay 4 [p, v] s) (by cases l <;> exact hm) ho (by cases l <;> exact hs) hc)
    · exact fun r hr hl hg => linkMode_ends_source hf hp hv hs hm hx hr hl hg
    · exact fun j hr hph hc htr h => linkMode_fails_try hf hp hv hid hs hm hx hr hph hc htr h
    · exact fun j hr hph hl hsrc hval hg => linkMode_returns hf hp hv hs hm hx hr hph hl hsrc hval hg

end Sys2Proof.Machine
end

section
/-! RELEASE (R110, R111): what it ends, in its order, and what it leaves. -/

namespace Sys2Proof.Machine
-- One proof after the other: side by side they pass the memory that the check allows.
set_option Elab.async false

/-! ### What one link does -/

/-- One link and the frames that it sends, and nothing else. -/
def linkActs (l : LinkId) (k : Link) (fs : List Frame) (s : State) : State :=
  match l with
  | .link1 => { s with link1 := k, out.tx1 := s.out.tx1 ++ fs }
  | .link2 => { s with link2 := k, out.tx2 := s.out.tx2 ++ fs }

theorem linkActs_again (l : LinkId) (k1 k2 : Link) (f1 f2 : List Frame) (s : State) :
    linkActs l k2 f2 (linkActs l k1 f1 s) = linkActs l k2 (f1 ++ f2) s := by
  cases l <;> simp [linkActs]

theorem linkActs_nothing {l : LinkId} {k : Link} {s : State} (h : k = getLink s l) : linkActs l k [] s = s := by
  subst h
  cases l <;> simp [linkActs, getLink]

/-- A frame of this channel's own leaves on a link that is UP, once the part has its identity. -/
def linkSends (s : State) (l : LinkId) : Bool := decide ((getLink s l).status = .up) && s.mgmt.params.channelId.isSome

/-- The frame that a link so sends. -/
def framesSent (s : State) (l : LinkId) (pl : Payload) : List Frame :=
  match s.mgmt.params.channelId with
  | some me => if linkSends s l = true then [ownFrame me pl] else []
  | none => []

/-- A payload other than a HAIL goes out in UP, and starts the beat timer again. -/
theorem send_acts (l : LinkId) {pl : Payload} (s : State) (hk : pl.kind ≠ .hail) : send l pl s = linkActs l
    { getLink s l with beatTimer := if linkSends s l = true then some s.mgmt.params.beat else (getLink s l).beatTimer }
    (framesSent s l pl) s := by
  by_cases hs : linkSends s l = true
  · simp only [framesSent, hs, if_true]
    simp only [linkSends, Bool.and_eq_true, decide_eq_true_eq, Option.isSome_iff_exists] at hs
    obtain ⟨up, me, hid⟩ := hs
    rw [send_up hid up, hid]
    cases l <;> rfl
  · have still : send l pl s = s := by
      unfold send
      cases hid : s.mgmt.params.channelId with
      | none => rfl
      | some me =>
        have away : (getLink s l).status ≠ .up := fun up => hs (by simp [linkSends, up, hid])
        simp only [sendFrame]
        split <;> first | rfl | exact absurd ‹_› away | exact if_neg hk
    have none_ : framesSent s l pl = [] := by
      unfold framesSent
      split
      · exact if_neg hs
      · rfl
    rw [still, none_, if_neg hs]
    exact (linkActs_nothing rfl).symm

/-- A buffer that is dropped sends GO where HOLD had been sent. -/
theorem leaveBuffer_acts (l : LinkId) (s : State) :
    let drops := decide ((getLink s l).buffer ≠ [])
    let goes := drops && (getLink s l).holdSent
    leaveBuffer l [] s = linkActs l { getLink s l with
      beatTimer := if linkSends s l = true ∧ goes = true then some s.mgmt.params.beat else (getLink s l).beatTimer
      buffer := [], holdSent := (getLink s l).holdSent && !drops } (if goes = true then framesSent s l .go else []) s := by
  intro drops goes
  by_cases hb : (getLink s l).buffer = []
  · have d : drops = false := by simp [drops, hb]
    rw [leaveBuffer_same (by simp [hb])]
    simp only [goes, d, Bool.false_and, Bool.not_false, Bool.and_true, Bool.false_eq_true, and_false, if_false]
    refine (linkActs_nothing ?_).symm
    rw [← hb]
  · have d : drops = true := by simp [drops, hb]
    have shorter : ([] : List LineFrame).length < (getLink s l).buffer.length := List.length_pos_of_ne_nil hb
    rw [leaveBuffer_shorter shorter]
    cases hh : (getLink s l).holdSent with
    | false =>
      rw [goIfDrained_stays (.inl (by simpa using hh))]
      simp only [goes, d, hh, Bool.and_false, Bool.false_eq_true, and_false, if_false, Bool.false_and]
      rw [← hh]
      cases l <;> simp [linkActs, updLink, getLink]
    | true =>
      have goDue : goIfDrained l (updLink l (fun k => { k with buffer := [] }) s) =
          updLink l (fun k => { k with holdSent := false }) (send l .go (updLink l (fun k => { k with buffer := [] }) s)) := by
        simp [goIfDrained, hh]
      rw [goDue, send_acts _ _ (by decide)]
      simp only [goes, d, hh, Bool.and_true, Bool.true_and, Bool.not_true, if_true, and_true]
      cases l <;> rfl

/-! ### The roles end (step 1 of R110) -/

/-- A link behind the end of the roles: told of it, and its receive buffer dropped. -/
def partedLink (s : State) (told : Option LinkId) (drops : LinkId → Bool) (l : LinkId) : Link := { getLink s l with
  beatTimer := if linkSends s l = true ∧ (told = some l ∨ (drops l && (getLink s l).holdSent) = true) then
    some s.mgmt.params.beat else (getLink s l).beatTimer
  buffer := if drops l = true then [] else (getLink s l).buffer
  holdSent := (getLink s l).holdSent && !drops l }

/-- What it sends then. -/
def partedFrames (s : State) (told : Option LinkId) (drops : LinkId → Bool) (l : LinkId) : List Frame :=
  (if told = some l then framesSent s l (.abort .released) else []) ++
    (if (drops l && (getLink s l).holdSent) = true then framesSent s l .go else [])

/-- The state in which no role is left. -/
def rolesGone (ev : EventUnit) (r : List Nat) (told : Option LinkId) (drops : LinkId → Bool) (s : State) : State := { s with
  ev := ev
  link1 := partedLink s told drops .link1, link2 := partedLink s told drops .link2
  out.tx1 := s.out.tx1 ++ partedFrames s told drops .link1, out.tx2 := s.out.tx2 ++ partedFrames s told drops .link2
  vote.peer0.relation := none, vote.peer1.relation := none
  repair := { s.repair with role := .none, r := r } }

theorem rolesGone_eq (ev : EventUnit) (r : List Nat) (told : Option LinkId) (drops : LinkId → Bool) (s : State) :
    rolesGone ev r told drops s =
      { linkActs .link2 (partedLink s told drops .link2) (partedFrames s told drops .link2)
          (linkActs .link1 (partedLink s told drops .link1) (partedFrames s told drops .link1) s) with
        ev := ev, vote.peer0.relation := none, vote.peer1.relation := none
        repair := { s.repair with role := .none, r := r } } := rfl

section
variable {s : State} {told : Option LinkId} {l : LinkId} {drops : LinkId → Bool}

theorem parted_untouched (ht : told ≠ some l) (hd : drops l = false) :
    partedLink s told drops l = getLink s l ∧ partedFrames s told drops l = [] := by
  simp [partedLink, partedFrames, ht, hd]

/-- The relations that RELEASE clears are clear whatever they were. -/
theorem unrelated_vote (me : Option Identity) (i : Identity) (v : VoteUnit) :
    ({ voteWith me i (fun y => { y with relation := none }) v with peer0.relation := none, peer1.relation := none } : VoteUnit) =
      { v with peer0.relation := none, peer1.relation := none } := by
  unfold voteWith
  split
  · split
    · rfl
    · split <;> rfl
  · rfl

/-- With no role there is none to end. -/
theorem releaseRoles_none (hr : s.repair.role = .none) :
    releaseRoles s = rolesGone s.ev s.repair.r none (fun _ => false) s := by
  obtain ⟨l1, f1⟩ := parted_untouched (s := s) (told := none) (l := .link1) (drops := fun _ => false) (by simp) rfl
  obtain ⟨l2, f2⟩ := parted_untouched (s := s) (told := none) (l := .link2) (drops := fun _ => false) (by simp) rfl
  have repair : s.repair = { s.repair with role := .none, r := s.repair.r } := by rw [← hr]
  have ends : releaseRoles s = { s with vote.peer0.relation := none, vote.peer1.relation := none } := by
    simp only [releaseRoles, abortSource, endJoiner, hr]
  rw [ends, rolesGone_eq, l1, l2, f1, f2, linkActs_nothing rfl, linkActs_nothing rfl, ← repair]

/-- What ABORT leaves of each link. -/
def toldLink (s : State) (told : Option LinkId) (l : LinkId) : Link := { getLink s l with
  beatTimer := if told = some l ∧ linkSends s l = true then some s.mgmt.params.beat else (getLink s l).beatTimer }

def toldFrames (s : State) (told : Option LinkId) (l : LinkId) : List Frame :=
  if told = some l then framesSent s l (.abort .released) else []

theorem sendAbort_acts (told : Option LinkId) (s : State) : sendAbort told .released s =
    linkActs .link2 (toldLink s told .link2) (toldFrames s told .link2)
      (linkActs .link1 (toldLink s told .link1) (toldFrames s told .link1) s) := by
  have away (l : LinkId) (h : told ≠ some l) : toldLink s told l = getLink s l ∧ toldFrames s told l = [] := by
    simp [toldLink, toldFrames, h]
  cases told with
  | none => rw [(away .link1 (by simp)).1, (away .link1 (by simp)).2, (away .link2 (by simp)).1, (away .link2 (by simp)).2,
      linkActs_nothing rfl, linkActs_nothing rfl, sendAbort]
  | some l =>
    have sent : sendAbort (some l) .released s = send l (.abort .released) s := rfl
    have here : toldLink s (some l) l = { getLink s l with
        beatTimer := if linkSends s l = true then some s.mgmt.params.beat else (getLink s l).beatTimer } := by simp [toldLink]
    have frames : toldFrames s (some l) l = framesSent s l (.abort .released) := by simp [toldFrames]
    rw [sent, send_acts _ _ (by decide)]
    cases l with
    | link1 =>
      rw [(away .link2 (by decide)).1, (away .link2 (by decide)).2, here, frames]
      exact (linkActs_nothing rfl).symm
    | link2 => rw [(away .link1 (by decide)).1, (away .link1 (by decide)).2, here, frames, linkActs_nothing rfl]

/-- A source role: its joiner is told, R is cleared. -/
theorem releaseRoles_source {r : SourceRole} (hr : s.repair.role = .source r) : releaseRoles s =
    rolesGone (evAfter .repair 10 (.peer r.joiner) (wordOf r.linesSent) s) [] (some r.link) (fun _ => false) s := by
  have ends : releaseRoles s = { hand .repair 10 (.peer r.joiner) (wordOf r.linesSent)
      (endSource r (sendAbort (some r.link) .released s)) with vote.peer0.relation := none, vote.peer1.relation := none } := by
    simp only [releaseRoles, abortSource, hr, if_true]
    simp only [endJoiner, hand_keeps, endSource, setRelation_keeps]
    rfl
  have same (l : LinkId) : partedLink s (some r.link) (fun _ => false) l = toldLink s (some r.link) l ∧
      partedFrames s (some r.link) (fun _ => false) l = toldFrames s (some r.link) l := by
    simp [partedLink, toldLink, partedFrames, toldFrames, and_comm]
  have vote := unrelated_vote s.mgmt.params.channelId r.joiner s.vote
  rw [ends, hand_as_evAfter, endSource, setRelation_eq, sendAbort_acts, rolesGone_eq, (same .link1).1, (same .link1).2,
    (same .link2).1, (same .link2).2]
  generalize toldLink s (some r.link) .link1 = k1
  generalize toldLink s (some r.link) .link2 = k2
  generalize toldFrames s (some r.link) .link1 = f1
  generalize toldFrames s (some r.link) .link2 = f2
  exact State.ext_ev (State.ext_parts rfl rfl rfl rfl rfl rfl rfl rfl rfl rfl rfl vote rfl rfl rfl rfl rfl rfl)
    (evAfter_of _ _ _ _ _ _ rfl rfl rfl rfl)

/-- A link that is told, and whose buffer is then dropped. -/
theorem leaveBuffer_parted {t : State} (l : LinkId) (told : Option LinkId) (hk : getLink t l = toldLink s told l)
    (hs : linkSends t l = linkSends s l) (hm : t.mgmt = s.mgmt) :
    leaveBuffer l [] t = linkActs l (partedLink s told (fun l => decide ((getLink s l).buffer ≠ [])) l)
      (if (decide ((getLink s l).buffer ≠ []) && (getLink s l).holdSent) = true then framesSent s l .go else []) t := by
  have go : framesSent t l .go = framesSent s l .go := by simp only [framesSent, hs, hm]
  rw [leaveBuffer_acts, hk, hs, go, hm]
  congr 1
  simp only [toldLink, partedLink]
  by_cases hl : told = some l <;> by_cases hsend : linkSends s l = true <;>
    by_cases hb : (getLink s l).buffer = [] <;> simp [hl, hsend, hb]

/-- The partner that a joiner role ends with. -/
def joinerPartner (j : JoinerRole) : Option Identity := if j.receiving then j.source else j.candidate

/-- The link to it. -/
def joinerLink (s : State) (j : JoinerRole) : Option LinkId := if j.receiving then j.link else j.candidate.bind (peerLink s)

/-- The state in which a joiner role has ended, before its receive buffers are dropped. -/
def joinerEnded (j : JoinerRole) (v : VoteUnit) (s : State) : State := { sendAbort (joinerLink s j) .released s with
  vote := v
  repair.role := .none
  ev := evAfter .repair 10 (partnerSubject (joinerPartner j)) (wordOf j.linesWritten) s }

theorem endJoiner_eq {j : JoinerRole} (hr : s.repair.role = .joiner j) : ∃ v,
    ({ v with peer0.relation := none, peer1.relation := none } : VoteUnit) =
      { s.vote with peer0.relation := none, peer1.relation := none } ∧
    endJoiner .released s = settleBuffers (joinerEnded j v s) := by
  have ends : endJoiner .released s = settleBuffers (hand .repair 10 (partnerSubject (joinerPartner j)) (wordOf j.linesWritten)
      { (match joinerPartner j with
        | some i => setRelation i none (sendAbort (joinerLink s j) .released s)
        | none => sendAbort (joinerLink s j) .released s) with repair.role := .none }) := by
    simp only [endJoiner, hr, joinerPartner, joinerLink]
    rfl
  rw [ends, hand_as_evAfter]
  simp only [joinerEnded, sendAbort_acts]
  generalize toldLink s (joinerLink s j) .link1 = k1
  generalize toldLink s (joinerLink s j) .link2 = k2
  generalize toldFrames s (joinerLink s j) .link1 = f1
  generalize toldFrames s (joinerLink s j) .link2 = f2
  cases joinerPartner j with
  | none => exact ⟨s.vote, rfl, congrArg settleBuffers (State.ext_ev rfl (evAfter_of _ _ _ _ _ _ rfl rfl rfl rfl))⟩
  | some i =>
    refine ⟨_, unrelated_vote s.mgmt.params.channelId i s.vote, congrArg settleBuffers ?_⟩
    simp only [setRelation_eq]
    exact State.ext_ev rfl (evAfter_of _ _ _ _ _ _ rfl rfl rfl rfl)

theorem releaseRoles_joiner {j : JoinerRole} (hr : s.repair.role = .joiner j) : releaseRoles s =
    rolesGone (evAfter .repair 10 (partnerSubject (joinerPartner j)) (wordOf j.linesWritten) s) s.repair.r (joinerLink s j)
      (fun l => decide ((getLink s l).buffer ≠ [])) s := by
  obtain ⟨v, vote, ends⟩ := endJoiner_eq hr
  have released : releaseRoles s =
      { settleBuffers (joinerEnded j v s) with vote.peer0.relation := none, vote.peer1.relation := none } := by
    rw [releaseRoles, ← ends]
    simp only [abortSource, hr]
  have first : dropLines .link1 (joinerEnded j v s) = leaveBuffer .link1 [] (joinerEnded j v s) :=
    dropLines_other (by simp [receivingLink, joinerEnded])
  have second : dropLines .link2 (leaveBuffer .link1 [] (joinerEnded j v s)) =
      leaveBuffer .link2 [] (leaveBuffer .link1 [] (joinerEnded j v s)) :=
    dropLines_other (by simp [receivingLink, joinerEnded])
  rw [released, settleBuffers, first, second, leaveBuffer_parted (s := s) .link1 (joinerLink s j),
    leaveBuffer_parted (s := s) .link2 (joinerLink s j), rolesGone_eq]
  · simp only [joinerEnded, sendAbort_acts, partedFrames, linkActs, List.append_assoc, toldFrames]
    exact State.ext_parts rfl rfl rfl rfl rfl rfl rfl rfl rfl rfl rfl vote rfl rfl rfl rfl rfl rfl
  all_goals simp only [joinerEnded, sendAbort_acts]
  all_goals rfl

end
end Sys2Proof.Machine
end

section
/-! RELEASE (R110, R111): the walk, the engine, the state that is left. -/

namespace Sys2Proof.Machine
-- One proof after the other: side by side they pass the memory that the check allows.
set_option Elab.async false

section
variable {s : State}

/-- A walk ends; a seal walk with its record (R73). -/
theorem endWalk_eq (s : State) : endWalk s = { s with
    sig := { s.sig with
      walk := .idle
      cursor := if s.sig.walk = .idle then s.sig.cursor else 0, acc := if s.sig.walk = .idle then s.sig.acc else 0 }
    ev := if s.sig.walk = .seal then evAfter .commandDone 2 (.command 9) 0 s else s.ev } := by
  cases hw : s.sig.walk <;> simp only [endWalk, hw]
  · rw [if_pos trivial, if_pos trivial, if_neg (by decide), ← hw]
  · rw [hand_as_evAfter]
    exact State.ext_ev rfl (evAfter_of _ _ _ _ _ _ rfl rfl rfl rfl)
  · rfl

/-- A running proof test or initialise ends in STOPPED with its record (R38, R40). -/
theorem stopEngine_eq (s : State) : stopEngine s = { s with
    scrub := { s.scrub with
      proof.status := if s.scrub.proof.status = .running then .stopped else s.scrub.proof.status
      init.status := if s.scrub.proof.status ≠ .running ∧ s.scrub.init.status = .running then .stopped
        else s.scrub.init.status }
    ev := if s.scrub.proof.status = .running then
        evAfter .proofResult 3 (.line s.scrub.proof.first) (wordOf s.scrub.proof.loops) s
      else if s.scrub.init.status = .running then
        evAfter .initDone 2 (.line s.scrub.init.first) (wordOf s.scrub.init.written) s
      else s.ev } := by
  by_cases hp : s.scrub.proof.status = .running
  · rw [stopEngine_proof hp]
    simp only [hp, if_true, ne_eq, not_true_eq_false, false_and, if_false]
  · by_cases hi : s.scrub.init.status = .running
    · rw [stopEngine_init hp hi]
      simp only [hp, hi, if_true, if_false, ne_eq, not_false_eq_true, and_self]
    · rw [stopEngine_idle hp hi]
      simp only [hp, hi, if_false, and_false]

/-- A change of the counter empties both slots and lets the next skew be reported. -/
theorem setCounter_eq (n : Cycle) (s : State) : setCounter n s = { s with
    csr := { s.csr with counter := n, counterInv := ~~~ n }
    vote := if n = s.csr.counter then s.vote
      else { s.vote with skewReported := false, peer0.slot := none, peer1.slot := none } } := by
  unfold setCounter
  split <;> rfl

/-- Counter, committed cycle and C at 0 in both copies, the slots empty. -/
theorem zeroCounters_eq (u : State) : emptySlots (setC 0 (setCommitted 0 (setCounter 0 u))) = { u with
    csr := { u.csr with
      counter := 0, counterInv := 0xFFFFFFFF, committed := 0, committedInv := 0xFFFFFFFF, c := 0, cInv := 0xFFFFFFFFFFFFFFFF }
    vote := { u.vote with
      skewReported := u.vote.skewReported && decide (u.csr.counter = 0), peer0.slot := none, peer1.slot := none } } := by
  rw [setCounter_eq]
  by_cases hc : (0 : Cycle) = u.csr.counter
  · rw [if_pos hc, decide_eq_true hc.symm, Bool.and_true]
    rfl
  · rw [if_neg hc, decide_eq_false (fun h => hc h.symm), Bool.and_false]
    rfl

/-- The journal, the maps, S and the counters as RELEASE leaves them. -/
theorem releaseState_eq (s : State) : releaseState s = { s with
    csr := { s.csr with
      counter := 0, counterInv := 0xFFFFFFFF, committed := 0, committedInv := 0xFFFFFFFF, c := 0, cInv := 0xFFFFFFFFFFFFFFFF }
    jnl := { JournalUnit.reset with rb := s.jnl.rb }
    repair := { dc := [], dv := [], dO := [], r := [], dcValid := false, role := s.repair.role }
    sig := { s.sig with valid := false, poisoned := [], overflow := false }
    vote := { s.vote with skewReported := s.vote.skewReported && decide (s.csr.counter = 0), peer0.slot := none, peer1.slot := none } } :=
  zeroCounters_eq _

/-! ### The whole (R110) -/

/-- The event unit behind the end of a walk. -/
def walkEvents (ev : EventUnit) (s : State) : EventUnit :=
  if s.sig.walk = .seal then evAfter .commandDone 2 (.command 9) 0 { s with ev := ev } else ev

/-- The event unit behind the end of an engine operation. -/
def engineEvents (ev : EventUnit) (s : State) : EventUnit :=
  if s.scrub.proof.status = .running then
    evAfter .proofResult 3 (.line s.scrub.proof.first) (wordOf s.scrub.proof.loops) { s with ev := ev }
  else if s.scrub.init.status = .running then
    evAfter .initDone 2 (.line s.scrub.init.first) (wordOf s.scrub.init.written) { s with ev := ev }
  else ev

/-- The channel state record that RELEASE leaves. -/
def releasedRecord (s : State) : ChannelRecord := { ChannelRecord.reset with
  state := .configured, stateInv := if s.csr.state = .configured then s.csr.stateInv else ~~~ (2 : BitVec 8) }

/-- The records behind that of the role: the walk's, the engine's, and STATE-CHANGE last. -/
def releasedEvents (ev : EventUnit) (s : State) : EventUnit :=
  if s.csr.state = .configured then engineEvents (walkEvents ev s) s
  else evAfter .stateChange 16 (.channelState s.csr.state) 0
    { s with csr := releasedRecord s, ev := engineEvents (walkEvents ev s) s }

/-- The state that RELEASE leaves. -/
def releasedState (ev : EventUnit) (told : Option LinkId) (drops : LinkId → Bool) (s : State) (m : MgmtUnit) : State := { s with
  csr := releasedRecord s
  ev := releasedEvents ev s
  link1 := partedLink s told drops .link1, link2 := partedLink s told drops .link2
  out.tx1 := s.out.tx1 ++ partedFrames s told drops .link1, out.tx2 := s.out.tx2 ++ partedFrames s told drops .link2
  vote := { s.vote with
    record := VoteRecord.cleared, skewReported := s.vote.skewReported && decide (s.csr.counter = 0)
    peer0.slot := none, peer0.relation := none, peer1.slot := none, peer1.relation := none }
  mgmt := m
  jnl := { JournalUnit.reset with rb := { s.jnl.rb with rolling := false } }
  repair := { dc := [], dv := [], dO := [], r := [], dcValid := false, role := .none }
  sig := { s.sig with
    valid := false, poisoned := [], overflow := false, walk := .idle
    cursor := if s.sig.walk = .idle then s.sig.cursor else 0, acc := if s.sig.walk = .idle then s.sig.acc else 0 }
  scrub := { s.scrub with
    proof.status := if s.scrub.proof.status = .running then .stopped else s.scrub.proof.status
    init.status := if s.scrub.proof.status ≠ .running ∧ s.scrub.init.status = .running then .stopped
      else s.scrub.init.status } }

theorem evAfter_with (k : EventKind) (d : Nat) (j : Subject) (v : Word) (ev : EventUnit) {s t : State} (hs : t.csr.state = s.csr.state)
    (hc : t.csr.counter = s.csr.counter) (hr : t.regions = s.regions) (he : t.ev = ev) :
    evAfter k d j v t = evAfter k d j v { s with ev := ev } := evAfter_of _ _ _ _ _ _ hs hc hr he

section
variable {ev : EventUnit} {r : List Nat} {told : Option LinkId} {drops : LinkId → Bool}

/-- With the roles gone, the vote, the rollback, a walk and an engine operation end (steps 2 and 3 of R110). -/
theorem endings_eq : stopEngine (endWalk (abandonRollback (cancelVote (rolesGone ev r told drops s)))) =
    { rolesGone ev r told drops s with
      vote := { s.vote with
        record := VoteRecord.cleared
        peer0.slot := none, peer0.relation := none, peer1.slot := none, peer1.relation := none }
      jnl.rb.rolling := false
      sig := { s.sig with
        walk := .idle
        cursor := if s.sig.walk = .idle then s.sig.cursor else 0, acc := if s.sig.walk = .idle then s.sig.acc else 0 }
      scrub := { s.scrub with
        proof.status := if s.scrub.proof.status = .running then .stopped else s.scrub.proof.status
        init.status := if s.scrub.proof.status ≠ .running ∧ s.scrub.init.status = .running then .stopped
          else s.scrub.init.status }
      ev := engineEvents (walkEvents ev s) s } := by
  have walk : (endWalk (abandonRollback (cancelVote (rolesGone ev r told drops s)))).ev = walkEvents ev s := by
    rw [endWalk_eq]
    exact if_congr Iff.rfl (evAfter_with _ _ _ _ _ rfl rfl rfl rfl) rfl
  rw [stopEngine_eq]
  refine State.ext_ev (by rw [endWalk_eq] <;> rfl) ?_
  rw [engineEvents, ← walk]
  generalize hw : endWalk (abandonRollback (cancelVote (rolesGone ev r told drops s))) = w
  have parts : w.csr = s.csr ∧ w.regions = s.regions ∧ w.scrub = s.scrub := by
    rw [← hw, endWalk_eq]
    exact ⟨rfl, rfl, rfl⟩
  obtain ⟨csr, regions, scrub⟩ := parts
  simp only [scrub]
  exact if_congr Iff.rfl (evAfter_with _ _ _ _ _ (by rw [csr]) (by rw [csr]) regions rfl)
    (if_congr Iff.rfl (evAfter_with _ _ _ _ _ (by rw [csr]) (by rw [csr]) regions rfl) rfl)

/-- Every effect of RELEASE. -/
theorem releaseEffect_eq (h : releaseRoles s = rolesGone ev r told drops s) :
    releaseEffect s = releasedState ev told drops s { s.mgmt with phase := .done, results := List.replicate 16 0 } := by
  have effect : releaseEffect s = finish [] (if s.csr.state = .configured then
      releaseState (stopEngine (endWalk (abandonRollback (cancelVote (rolesGone ev r told drops s)))))
      else changeState .configured .release
        (releaseState (stopEngine (endWalk (abandonRollback (cancelVote (rolesGone ev r told drops s))))))) := by
    rw [← h] <;> rfl
  rw [effect, endings_eq]
  by_cases hs : s.csr.state = .configured
  · rw [if_pos hs, releaseState_eq, releasedState, releasedEvents, if_pos hs]
    refine State.ext_parts rfl rfl ?_ rfl rfl rfl rfl rfl rfl rfl rfl rfl rfl rfl rfl rfl rfl rfl
    rw [releasedRecord, if_pos hs, ← hs] <;> rfl
  · rw [if_neg hs, changeState_eq, releaseState_eq, releasedState, releasedEvents, if_neg hs]
    refine State.ext_parts rfl rfl ?_ rfl rfl rfl rfl rfl rfl rfl rfl rfl rfl rfl rfl rfl ?_ rfl
    · rw [releasedRecord, if_neg hs] <;> rfl
    · exact evAfter_of _ _ _ _ _ _ rfl rfl rfl rfl

end

end
end Sys2Proof.Machine
end

section
/-! RELEASE (R110, R111) for every role, at once and when it has waited. -/

namespace Sys2Proof.Machine
-- One proof after the other: side by side they pass the memory that the check allows.
set_option Elab.async false

section
variable {s : State} {ev : EventUnit} {told : Option LinkId} {drops : LinkId → Bool}

theorem evAfter_managed (k : EventKind) (d : Nat) (j : Subject) (v : Word) (m : MgmtUnit) (s : State) :
    evAfter k d j v { s with mgmt := m } = evAfter k d j v s := evAfter_of _ _ _ _ _ _ rfl rfl rfl rfl

/-- The management unit beside it changes nothing that RELEASE leaves, its parameters kept. -/
theorem releasedState_managed {m n : MgmtUnit} (hp : m.params = s.mgmt.params) :
    releasedState ev told drops { s with mgmt := m } n = releasedState ev told drops s n := by
  have sends (l : LinkId) : linkSends { s with mgmt := m } l = linkSends s l := by
    simp only [linkSends, hp]
    cases l <;> rfl
  have frames (l : LinkId) (pl : Payload) : framesSent { s with mgmt := m } l pl = framesSent s l pl := by
    simp only [framesSent, hp, sends]
  have links (l : LinkId) : getLink { s with mgmt := m } l = getLink s l := by cases l <;> rfl
  have walk : walkEvents ev { s with mgmt := m } = walkEvents ev s :=
    if_congr Iff.rfl (evAfter_of _ _ _ _ _ _ rfl rfl rfl rfl) rfl
  have engine : engineEvents (walkEvents ev { s with mgmt := m }) { s with mgmt := m } = engineEvents (walkEvents ev s) s := by
    rw [walk]
    exact if_congr Iff.rfl (evAfter_of _ _ _ _ _ _ rfl rfl rfl rfl) (if_congr Iff.rfl (evAfter_of _ _ _ _ _ _ rfl rfl rfl rfl) rfl)
  have events : releasedEvents ev { s with mgmt := m } = releasedEvents ev s :=
    if_congr Iff.rfl engine (evAfter_of _ _ _ _ _ _ rfl rfl rfl engine)
  simp only [releasedState, partedLink, partedFrames, links, sends, frames, events, hp]
  rfl

end

/-- Settles O23: the refusal, the effects at once, and the effects behind the grant waited for. -/
theorem releaseReturnsToConfigured : Obligations.ReleaseReturnsToConfigured := by
  intro s role partner partnerLink drops goes sends frames cleared subject roleEnded walkEnded engineEnded csr released
  -- The effects from the state in which the command is under way or has waited.
  have effect (m : MgmtUnit) (hp : m.params = s.mgmt.params) : releaseEffect { s with mgmt := m } =
      released { m with phase := .done, results := List.replicate 16 0 } := by
    have framesEq (l : LinkId) : frames l = partedFrames s partnerLink drops l := by
      have sent (pl : Payload) : framesSent s l pl = match s.mgmt.params.channelId with
          | some me => if sends l = true then [ownFrame me pl] else []
          | none => [] := by
        rw [framesSent] <;> rfl
      simp only [frames, partedFrames, sent, ← show goes l = (drops l && (getLink s l).holdSent) from rfl]
      cases s.mgmt.params.channelId with
      | none => simp
      | some me => by_cases h : sends l = true <;> simp [h]
    have all : released { m with phase := .done, results := List.replicate 16 0 } =
        releasedState roleEnded partnerLink drops s { m with phase := .done, results := List.replicate 16 0 } := by
      simp only [released, framesEq]
      rfl
    rw [all]
    cases hr : s.repair.role with
    | none =>
      rw [releaseEffect_eq (releaseRoles_none (s := { s with mgmt := m }) hr), releasedState_managed hp]
      simp only [roleEnded, partnerLink, drops, role, hr]
    | source r =>
      rw [releaseEffect_eq (releaseRoles_source (s := { s with mgmt := m }) hr), releasedState_managed hp, evAfter_managed]
      simp only [roleEnded, partnerLink, partner, subject, drops, role, hr]
    | joiner j =>
      have links (l : LinkId) : getLink { s with mgmt := m } l = getLink s l := by cases l <;> rfl
      have link : joinerLink { s with mgmt := m } j = joinerLink s j := by
        have peer : peerLink { s with mgmt := m } = peerLink s := by
          funext i
          simp only [peerLink, peerSlot, hp]
          rfl
        rw [joinerLink, joinerLink, peer]
      have receiving {α : Type} (x y : α) : (if j.receiving = true then x else y) =
          if j.phase = .receiving ∨ j.phase = .closing then x else y := if_congr (receiving_iff j) rfl rfl
      rw [releaseEffect_eq (releaseRoles_joiner (s := { s with mgmt := m }) hr), releasedState_managed hp, evAfter_managed, link]
      simp only [roleEnded, partnerLink, partner, subject, drops, role, hr, links, joinerPartner, joinerLink, receiving]
      have peer : peerLink s = fun i => (peerSlot s i).bind fun k => (getPeer s k).link := rfl
      rw [peer]
      congr 2
      cases (if j.phase = .receiving ∨ j.phase = .closing then j.source else j.candidate) <;> rfl
  refine ⟨fun hf hs => ?_, fun hf hs hi => ?_, fun hd hg => ?_⟩
  · have given : exec .release s = .next (settle (runRelease (underWay 12 [] s))) :=
      congrArg (fun t => Host.Outcome.next (settle t)) (giveCommand_free hf)
    rw [given]
    exact congrArg (fun t => Host.Outcome.next (settle t)) (if_pos hs)
  · have given : exec .release s = .next (settle (runRelease (underWay 12 [] s))) :=
      congrArg (fun t => Host.Outcome.next (settle t)) (giveCommand_free hf)
    have runs : runRelease (underWay 12 [] s) = releaseEffect (underWay 12 [] s) :=
      (if_neg hs).trans (deferOrDo_idle _ hi)
    rw [given, runs]
    exact congrArg (fun t => Host.Outcome.next (settle t)) (effect (ended 12 [] .busy none [] s.mgmt) rfl)
  · rw [exec_deferred hd hg]
    exact congrArg (fun t => Host.Outcome.next (settle t)) (effect { s.mgmt with deferred := none } rfl)

end Sys2Proof.Machine
end

section
/-! COMMIT-TABLES (R100, R146, R177): what each link does, and the state that the new tables leave. -/

namespace Sys2Proof.Machine
-- One proof after the other: side by side they pass the memory that the check allows.
set_option Elab.async false

/-! ### One link (R146) -/

/-- A link in service that is UP leaves it. -/
def linkLeaves (s : State) (l : LinkId) : Bool := decide ((getLink s l).mode ≠ .off) && decide ((getLink s l).status = .up)

/-- The link behind COMMIT-TABLES. -/
def committedLink (s : State) (l : LinkId) : Link :=
  if (getLink s l).mode = .off then getLink s l
  else { getLink s l with
    status := .hailing, heard := none, peer := none, silenceTimer := none, beatTimer := none, quietTimer := none
    hailTimer := if (getLink s l).mode = .active then some 1 else none
    buffer := if linkLeaves s l = true then [] else (getLink s l).buffer
    holdSent := (getLink s l).holdSent && !linkLeaves s l
    peerHolding := (getLink s l).peerHolding && !linkLeaves s l }

/-- The HAIL that an ACTIVE link sends. -/
def committedHail (me : Identity) (s : State) (l : LinkId) : List Frame :=
  if (getLink s l).mode = .active then
    [ownFrame me (.hail s.mgmt.digest (some s.csr.state) s.csr.counter s.csr.committed)] else []

/-- The peer that a link loses. -/
def linkLoses (s : State) (l : LinkId) : Option Identity := if linkLeaves s l = true then (getLink s l).peer else none

/-- Its record. -/
def committedEvents (s : State) (l : LinkId) : EventUnit :=
  match linkLoses s l with
  | some x => evAfter .linkState 5 (.link l) (wordOf x.code) s
  | none => s.ev

/-- The peer table without the link and the state of a peer lost. -/
def voteLost (me : Option Identity) (lost : Option Identity) (v : VoteUnit) : VoteUnit :=
  match lost with
  | some x => voteWith me x (fun y => { y with link := none, state := none }) v
  | none => v

section
variable {s : State} {l : LinkId} {me x : Identity}

/-- Entering HAILING, as what one link does. -/
theorem hailsAfresh_acts : hailsAfresh l me s = linkActs l { getLink s l with
      status := .hailing, heard := none, peer := none, silenceTimer := none, beatTimer := none, quietTimer := none
      hailTimer := if (getLink s l).mode = .active then some 1 else none } (committedHail me s l) s := by
  by_cases h : (getLink s l).mode = .active
  · rw [hailsAfresh_active h, committedHail, if_pos h, if_pos h]
    cases l <;> rfl
  · rw [hailsAfresh_other h, committedHail, if_neg h, if_neg h]
    cases l <;> simp [linkActs, updLink, getLink]

/-- With no role held, what one link does (R146). -/
theorem commitLink_eq (hid : s.mgmt.params.channelId = some me) (hr : s.repair.role = .none) : commitLink l s =
    { linkActs l (committedLink s l) (committedHail me s l) s with
      ev := committedEvents s l, vote := voteLost (some me) (linkLoses s l) s.vote } := by
  by_cases hm : (getLink s l).mode = .off
  · have stays : linkLeaves s l = false := by simp [linkLeaves, hm]
    have still : linkActs l (committedLink s l) (committedHail me s l) s = s := by
      rw [committedHail, if_neg (by rw [hm]; decide)]
      exact linkActs_nothing (if_pos hm)
    simp [commitLink, hm, still, committedEvents, voteLost, linkLoses, stays]
  · by_cases hs : (getLink s l).status = .up
    · have goes : linkLeaves s l = true := by simp [linkLeaves, hm, hs]
      have link : committedLink s l = { getLink s l with
          status := .hailing, heard := none, peer := none, silenceTimer := none, beatTimer := none, quietTimer := none
          hailTimer := if (getLink s l).mode = .active then some 1 else none, buffer := [], holdSent := false
          peerHolding := false } := by
        simp [committedLink, hm, goes]
      have leaves : commitLink l s = enterHailing l (leaveUp l .tables .hailing s) := by simp [commitLink, hm, hs]
      rw [leaves, link]
      cases hx : (getLink s l).peer with
      | none =>
        have left : leaveUp l .tables .hailing s = updLink l (fun k => { k with
            status := .hailing, silenceTimer := none, beatTimer := none, buffer := [], holdSent := false
            peerHolding := false }) s := by simp [leaveUp, hx]
        rw [left, enterHailing_eq (me := me) (by simpa using hid), hailsAfresh_acts]
        simp only [committedEvents, voteLost, linkLoses, goes, if_true, hx]
        cases l <;> rfl
      | some x =>
        have lost : repairLinkLost l x (linkLeft l x .hailing s) = linkLeft l x .hailing s :=
          repairLinkLost_none (by simp [linkLeft, hr])
        rw [leaveUp_eq _ _ hx, lost, hand_as_evAfter, linkLeft, updPeer_eq]
        rw [enterHailing_eq (me := me) (by simpa using hid), hailsAfresh_acts]
        simp only [committedEvents, voteLost, linkLoses, goes, if_true, hx, ← hid]
        cases l
        · exact State.ext_ev rfl (evAfter_of _ _ _ _ _ _ rfl rfl rfl rfl)
        · exact State.ext_ev rfl (evAfter_of _ _ _ _ _ _ rfl rfl rfl rfl)
    · have stays : linkLeaves s l = false := by simp [linkLeaves, hs]
      have link : committedLink s l = { getLink s l with
          status := .hailing, heard := none, peer := none, silenceTimer := none, beatTimer := none, quietTimer := none
          hailTimer := if (getLink s l).mode = .active then some 1 else none } := by
        simp [committedLink, hm, stays]
      have enters : commitLink l s = enterHailing l s := by simp [commitLink, hm, hs]
      rw [enters, enterHailing_eq hid, hailsAfresh_acts, link]
      simp only [committedEvents, voteLost, linkLoses, stays]
      cases l <;> rfl

/-- What a peer's entry keeps of a peer lost. -/
theorem voteLost_peer {second : Bool} {lost : Option Identity} (hid : s.mgmt.params.channelId = some me)
    (hx : peerSlot s x = some second) (v : VoteUnit) : (if second then (voteLost (some me) lost v).peer1 else (voteLost (some me) lost v).peer0) =
      { (if second then v.peer1 else v.peer0) with
        link := if lost = some x then none else (if second then v.peer1 else v.peer0).link
        state := if lost = some x then none else (if second then v.peer1 else v.peer0).state } := by
  cases lost with
  | none => cases second <;> simp [voteLost]
  | some y =>
    simp only [voteLost, voteWith]
    simp only [peerSlot, hid] at hx
    cases ho : otherIds (some me) with
    | none => simp [ho] at hx
    | some p =>
      obtain ⟨a, b⟩ := p
      have ne := otherIds_distinct ho
      simp only [ho] at hx
      by_cases ha : x = a
      · subst ha
        obtain rfl : second = false := by simpa using hx.symm
        by_cases hy : y = x
        · simp [hy]
        · by_cases hb : y = b <;> simp [hy, hb, ne]
      · by_cases hb : x = b
        · subst hb
          obtain rfl : second = true := by simpa [ha] using hx.symm
          by_cases hy : y = a
          · simp [hy, Ne.symm ha]
          · by_cases hxy : y = x <;> simp [hy, hxy, ha]
        · simp [ha, hb] at hx

end

/-! ### The statement -/

/-- The state with the loaded tables taken, as the records see it. -/
def tablesTaken (s : State) : State := { s with
  regions.committed := s.regions.loaded
  ev := { s.ev with
    producer := 0, consumer := 0, waiting := [], withheld := 0, kinds := [], intBusy := false, intLevel := false } }

/-- The record of a link that has left UP. -/
def linkRecord (s : State) (l : LinkId) (e : EventUnit) : EventUnit :=
  match linkLoses s l with
  | some x => evAfter .linkState 5 (.link l) (wordOf x.code) { tablesTaken s with ev := e }
  | none => e

/-- The peers behind both links. -/
def peersLeft (me : Identity) (s : State) : VoteUnit :=
  voteLost (some me) (linkLoses s .link2) (voteLost (some me) (linkLoses s .link1) s.vote)

theorem peersLeft_keeps (me : Identity) (s : State) :
    (peersLeft me s).record = s.vote.record ∧ (peersLeft me s).skewReported = s.vote.skewReported := by
  have one (c : Option Identity) (v : VoteUnit) : (voteLost (some me) c v).record = v.record ∧
      (voteLost (some me) c v).skewReported = v.skewReported := by
    cases c with
    | none => exact ⟨rfl, rfl⟩
    | some x =>
      simp only [voteLost, voteWith]
      split
      · split
        · exact ⟨rfl, rfl⟩
        · split <;> exact ⟨rfl, rfl⟩
      · exact ⟨rfl, rfl⟩
  obtain ⟨r1, s1⟩ := one (linkLoses s .link1) s.vote
  obtain ⟨r2, s2⟩ := one (linkLoses s .link2) (voteLost (some me) (linkLoses s .link1) s.vote)
  exact ⟨r2.trans r1, s2.trans s1⟩

/-- The state that COMMIT-TABLES leaves. -/
def tablesCommitted (me : Identity) (digest : BitVec 32) (s : State) (m : MgmtUnit) : State :=
  let hails (l : LinkId) : List Frame := if (getLink s l).mode = .active then
    [ownFrame me (.hail digest (some s.csr.state) s.csr.counter s.csr.committed)] else []
  let csr : ChannelRecord := { ChannelRecord.reset with state := .configured, stateInv := ~~~ (2 : BitVec 8) }
  let records := linkRecord s .link2 (linkRecord s .link1 (tablesTaken s).ev)
  { s with
    csr := csr
    spare := { suspects := List.replicate 16 none, remap := List.replicate 32 .untested
               op := { s.spare.op with kind := .idle }, exhaustionReported := false }
    jnl := { JournalUnit.reset with rb := s.jnl.rb }
    ev := if s.csr.state = .configured then records
      else evAfter .stateChange 1 (.channelState s.csr.state) 0 { tablesTaken s with csr := csr, ev := records }
    link1 := committedLink s .link1, link2 := committedLink s .link2
    out.tx1 := s.out.tx1 ++ hails .link1, out.tx2 := s.out.tx2 ++ hails .link2
    vote := { peersLeft me s with
      skewReported := (peersLeft me s).skewReported && decide (s.csr.counter = 0), peer0.slot := none, peer1.slot := none }
    regions.committed := s.regions.loaded
    sig.committedKeys := s.sig.loadedKeys
    scrub.line := 0, scrub.word := 0
    mgmt := m }

/-- The record that a link hands over the taken tables. -/
theorem committedEvents_of {s t : State} {l : LinkId} (hl : getLink t l = getLink s l) (hc : t.csr = s.csr)
    (hreg : t.regions = (tablesTaken s).regions) : committedEvents t l = linkRecord s l t.ev := by
  have loses : linkLoses t l = linkLoses s l := by rw [linkLoses, linkLoses, linkLeaves, linkLeaves, hl]
  rw [committedEvents, linkRecord, loses]
  cases linkLoses s l with
  | none => rfl
  | some x => exact evAfter_with _ _ _ _ _ (by rw [hc]; rfl) (by rw [hc]; rfl) hreg rfl

theorem commitEffect_eq {me : Identity} {s : State} (hid : s.mgmt.params.channelId = some me) (hr : s.repair.role = .none) :
    let digest := digestOf s.regions.loaded s.sig.loadedKeys
    commitEffect (underWay 5 [] s) = tablesCommitted me digest s { ended 5 [] .done none
      [wordOf digest.toNat, wordOf (vitalLines s.regions.loaded)] s.mgmt with digest := digest } := by
  intro digest
  set taken := commitTablesOnly (underWay 5 [] s) with htaken
  have links : commitLink .link2 (commitLink .link1 taken) = { taken with
      link1 := committedLink s .link1, link2 := committedLink s .link2
      out.tx1 := s.out.tx1 ++ committedHail me taken .link1, out.tx2 := s.out.tx2 ++ committedHail me taken .link2
      ev := linkRecord s .link2 (linkRecord s .link1 (tablesTaken s).ev), vote := peersLeft me s } := by
    have first := commitLink_eq (s := taken) (l := .link1) (me := me) hid hr
    set t1 := commitLink .link1 taken with ht1
    have second := commitLink_eq (s := t1) (l := .link2) (me := me) (by rw [first]; exact hid) (by rw [first]; exact hr)
    have record1 : t1.ev = linkRecord s .link1 (tablesTaken s).ev := by
      rw [first]
      exact committedEvents_of (t := taken) rfl rfl rfl
    have record2 : committedEvents t1 .link2 = linkRecord s .link2 t1.ev := by
      refine committedEvents_of ?_ ?_ ?_ <;> rw [first] <;> rfl
    rw [second, record2, record1, first]
    rfl
  have last : (if s.csr.state = .configured then
      emptySlots (setC 0 (setCommitted 0 (setCounter 0 (setState .configured (commitLink .link2 (commitLink .link1 taken))))))
    else handStateChange s.csr.state .tables
      (emptySlots (setC 0 (setCommitted 0 (setCounter 0 (setState .configured (commitLink .link2 (commitLink .link1 taken)))))))) =
      tablesCommitted me digest s { (underWay 5 [] s).mgmt with digest := digest } := by
    rw [links, zeroCounters_eq]
    by_cases hs : s.csr.state = .configured
    · rw [if_pos hs]
      exact State.ext_ev rfl (if_pos hs).symm
    · rw [if_neg hs, handStateChange, hand_as_evAfter]
      refine State.ext_ev rfl ((evAfter_of _ _ _ _ _ _ ?_ ?_ ?_ ?_).trans (if_neg hs).symm) <;> rfl
  have effect : commitEffect (underWay 5 [] s) = finish [wordOf digest.toNat, wordOf (vitalLines s.regions.loaded)]
      (tablesCommitted me digest s { (underWay 5 [] s).mgmt with digest := digest }) :=
    congrArg (fun t : State => finish [wordOf t.mgmt.digest.toNat, wordOf (numVital t)] t) last
  exact effect

/-- Settles O18: what the links do, then the counters, then STATE-CHANGE where the state has changed. -/
theorem commitTablesTakesTheLoadedTables : Obligations.CommitTablesTakesTheLoadedTables := by
  intro s hf hst hp hi fit idle hr digest taken leaves told afresh hails lost csr records
  obtain ⟨me, hid⟩ := Option.ne_none_iff_exists'.mp fit.identity
  have given : exec .commitTables s = .next (commitEffect (underWay 5 [] s)) := by
    have run : exec .commitTables s = .next (runCommitTables (underWay 5 [] s)) := congrArg Host.Outcome.next (giveCommand_free hf)
    have loading : (!s.csr.state.loading) = false := by rcases hst with h | h <;> rw [h] <;> rfl
    have calm : engineRunning s = false := by simp [engineRunning, hp, hi]
    have valid : tableFault (underWay 5 [] s) = none := (tableFault_none_iff_fits s).mpr fit
    have passes : runCommitTables (underWay 5 [] s) = deferOrDo .commitTables (underWay 5 [] s) := by
      rw [runCommitTables, if_neg (by rw [show (underWay 5 [] s).csr = s.csr from rfl, loading]; decide),
        if_neg (by rw [show engineRunning (underWay 5 [] s) = engineRunning s from rfl, calm]; decide), valid]
    rw [run, passes, deferOrDo_idle _ idle]
    rfl
  refine ⟨_, given.trans (congrArg Host.Outcome.next (commitEffect_eq hid hr)), ?_, ?_⟩
  · have record (l : LinkId) (e : EventUnit) : linkRecord s l e = told l e := by
      have up : leaves l = linkLeaves s l := rfl
      simp only [linkRecord, linkLoses, told, up]
      cases hx : (getLink s l).peer with
      | none => simp
      | some x => by_cases h : linkLeaves s l = true <;> simp [h] <;> rfl
    have frames (l : LinkId) : (if (getLink s l).mode = .active then
        [ownFrame me (.hail digest (some s.csr.state) s.csr.counter s.csr.committed)] else []) = hails l := by
      simp only [hails, hid]
    obtain ⟨kept, skew⟩ := peersLeft_keeps me s
    refine State.ext_parts rfl rfl rfl rfl rfl rfl rfl rfl rfl rfl rfl ?_ rfl rfl rfl rfl ?_ ?_
    · simp only [tablesCommitted, kept, skew]
    · rw [tablesCommitted]
      simp only [record]
      rfl
    · rw [tablesCommitted, ← frames .link1, ← frames .link2]
  · intro x second hx
    have loses (l : LinkId) : (linkLoses s l = some x) ↔ leaves l = true ∧ (getLink s l).peer = some x := by
      simp only [linkLoses, show leaves l = linkLeaves s l from rfl]
      by_cases h : linkLeaves s l = true <;> simp [h]
    have lostIff : lost x = true ↔ linkLoses s .link2 = some x ∨ linkLoses s .link1 = some x := by
      rw [loses, loses]
      simp only [lost, Bool.or_eq_true, Bool.and_eq_true, decide_eq_true_eq]
      exact or_comm
    have once := voteLost_peer (lost := linkLoses s .link1) hid hx s.vote
    have twice := voteLost_peer (lost := linkLoses s .link2) hid hx (voteLost (some me) (linkLoses s .link1) s.vote)
    rw [once] at twice
    have peer : getPeer (tablesCommitted me digest s { ended 5 [] .done none
        [wordOf digest.toNat, wordOf (vitalLines s.regions.loaded)] s.mgmt with digest := digest }) second =
        { (if second then (peersLeft me s).peer1 else (peersLeft me s).peer0) with slot := none } := by
      cases second <;> rfl
    rw [peer, peersLeft, twice]
    by_cases h2 : linkLoses s .link2 = some x
    · rw [if_pos h2, if_pos h2, if_pos (lostIff.mpr (.inl h2)), if_pos (lostIff.mpr (.inl h2))]
      cases second <;> rfl
    · by_cases h1 : linkLoses s .link1 = some x
      · simp only [if_neg h2, if_pos h1, if_pos (lostIff.mpr (.inr h1))]
        cases second <;> rfl
      · have stays : lost x = false := Bool.eq_false_iff.mpr fun h => (lostIff.mp h).elim h2 h1
        simp only [if_neg h2, if_neg h1, stays, Bool.false_eq_true, if_false]
        cases second <;> rfl

end Sys2Proof.Machine
end

section
/-! Entry to HALTED (R96, R108): what it leaves, whatever was under way. -/

namespace Sys2Proof.Machine
-- One proof after the other: side by side they pass the memory that the check allows.
set_option Elab.async false

/-! ### What the end of a role keeps of the peers -/

section
variable {α : Type} {g : Peer → α}

theorem setRelation_peers (hg : ∀ y r, g { y with relation := r } = g y) (i : Identity) (r : Option Relation) (s : State) :
    g (setRelation i r s).vote.peer0 = g s.vote.peer0 ∧ g (setRelation i r s).vote.peer1 = g s.vote.peer1 := by
  rw [setRelation_eq]
  exact voteWith_keeps g (f := fun y => { y with relation := r }) (fun y => hg y r) _ _ _

theorem abortSource_peers (hg : ∀ y r, g { y with relation := r } = g y) (why : AbortReason) (tell : Bool) (s : State) :
    g (abortSource why tell s).vote.peer0 = g s.vote.peer0 ∧ g (abortSource why tell s).vote.peer1 = g s.vote.peer1 := by
  unfold abortSource
  split
  · rename_i r hr
    have ended (u : State) (hu : u.vote = s.vote) : g (endSource r u).vote.peer0 = g s.vote.peer0 ∧
        g (endSource r u).vote.peer1 = g s.vote.peer1 := by
      obtain ⟨h0, h1⟩ := setRelation_peers hg r.joiner none { u with repair.role := .none, repair.r := [] }
      rw [endSource, h0, h1, hu]
      exact ⟨rfl, rfl⟩
    simp only [hand_keeps]
    split
    · exact ended _ (by simp)
    · exact ended _ rfl
  · exact ⟨rfl, rfl⟩

theorem endJoiner_peers (hg : ∀ y r, g { y with relation := r } = g y) (why : AbortReason) (s : State) :
    g (endJoiner why s).vote.peer0 = g s.vote.peer0 ∧ g (endJoiner why s).vote.peer1 = g s.vote.peer1 := by
  unfold endJoiner
  split
  · rename_i j hr
    simp only [settleBuffers_keeps, handJoinerAbort, hand_keeps]
    have told (l : Option LinkId) : (sendAbort l why s).vote = s.vote := by simp
    split
    · obtain ⟨h0, h1⟩ := setRelation_peers hg ‹Identity› none (sendAbort (if j.receiving then j.link else j.candidate.bind (peerLink s)) why s)
      rw [h0, h1, told]
      exact ⟨rfl, rfl⟩
    · rw [told]
      exact ⟨rfl, rfl⟩
  · exact ⟨rfl, rfl⟩

end

/-- After both ends no role is left. -/
theorem roles_ended (why how : AbortReason) (tell : Bool) (s : State) :
    (endJoiner why (abortSource how tell s)).repair.role = .none := by
  have joiner (u : State) (h : ∀ r, u.repair.role ≠ .source r) : (endJoiner why u).repair.role = .none := by
    unfold endJoiner
    split
    · simp [handJoinerAbort]
    · rename_i hn
      cases hr : u.repair.role with
      | none => rfl
      | source r => exact absurd hr (h r)
      | joiner j => exact absurd hr (hn j)
  refine joiner _ fun r hr => ?_
  unfold abortSource at hr
  split at hr
  · simp [endSource] at hr
  · rename_i hn
    exact hn r hr

/-- With no role nothing ends. -/
theorem roles_none (why how : AbortReason) (tell : Bool) {s : State} (h : s.repair.role = .none) :
    endJoiner why (abortSource how tell s) = s := by
  simp [endJoiner, abortSource, h]

/-! ### Entry to HALTED -/

/-- The channel state record of a channel that has entered HALTED. -/
def haltedRecord (s : State) : ChannelRecord :=
  { state := .halted, counter := s.csr.committed, committed := s.csr.committed, c := s.csr.c
    stateInv := ~~~ (9 : BitVec 8), counterInv := ~~~ s.csr.committed, committedInv := ~~~ s.csr.committed
    cInv := ~~~ wordOf s.csr.c }

theorem haltedRecord_agrees {t : State} {s : State} (h : t.csr = haltedRecord s) : copiesAgree t := by
  rw [copiesAgree_iff, h]
  exact ⟨rfl, rfl, rfl, rfl⟩

/-- The channel has entered HALTED from `s`. -/
structure HaltedFrom (c : Cause) (s t : State) : Prop where
  csr : t.csr = haltedRecord s
  jnl : t.jnl = { JournalUnit.reset with rb := { s.jnl.rb with rolling := false } }
  sig : t.sig.valid = false ∧ t.sig.walk = .idle ∧ t.sig.s = s.sig.s
  vote : t.vote.record = VoteRecord.cleared ∧ t.vote.peer0.slot = none ∧ t.vote.peer1.slot = none
  marks : t.vote.peer0.status = s.vote.peer0.status ∧ t.vote.peer0.arrival = s.vote.peer0.arrival ∧
    t.vote.peer1.status = s.vote.peer1.status ∧ t.vote.peer1.arrival = s.vote.peer1.arrival
  repair : t.repair = { dc := [], dv := [], dO := [], r := [], dcValid := false, role := .none }
  latch : t.ev.faultLatch = true ∧ t.ev.health = s.ev.health
  kept : t.mem = s.mem ∧ t.port = s.port ∧ t.regions = s.regions ∧ t.spare = s.spare ∧ t.scrub = s.scrub ∧ t.mgmt = s.mgmt
  records : s.repair.role = .none → s.sig.walk ≠ .seal → t.ev =
    if s.csr.state = .halted then { s.ev with faultLatch := true }
    else evAfter .stateChange c.code (.channelState s.csr.state) (wordOf s.csr.committed.toNat)
      { s with csr := haltedRecord s, ev := { s.ev with faultLatch := true } }

/-- The record rewritten, S and the journal emptied, and the vote, the rollback and a walk ended. -/
def haltedBefore (s : State) : State :=
  endWalk (abandonRollback (cancelVote (emptyJournal (invalidateS (setLatch
    (setCounter s.csr.committed (setC s.csr.c (setCommitted s.csr.committed (setState .halted s)))))))))

theorem haltedBefore_keeps (s : State) : (haltedBefore s).csr = haltedRecord s ∧
    (haltedBefore s).jnl = { JournalUnit.reset with rb := { s.jnl.rb with rolling := false } } ∧
    (haltedBefore s).sig.valid = false ∧ (haltedBefore s).sig.walk = .idle ∧ (haltedBefore s).sig.s = s.sig.s ∧
    (haltedBefore s).vote.record = VoteRecord.cleared ∧ (haltedBefore s).repair = s.repair ∧
    (haltedBefore s).regions = s.regions := by
  rw [haltedBefore, endWalk_eq, setCounter_eq]
  exact ⟨rfl, rfl, rfl, rfl, rfl, rfl, rfl, rfl⟩

theorem haltedBefore_peers (s : State) : (haltedBefore s).vote.peer0 = { s.vote.peer0 with slot := none } ∧
    (haltedBefore s).vote.peer1 = { s.vote.peer1 with slot := none } := by
  have counted (n : Cycle) (u : State) : ({ (setCounter n u).vote.peer0 with slot := none } : Peer) = { u.vote.peer0 with slot := none } ∧
      ({ (setCounter n u).vote.peer1 with slot := none } : Peer) = { u.vote.peer1 with slot := none } := by
    rw [setCounter_vote]
    split <;> exact ⟨rfl, rfl⟩
  rw [haltedBefore, endWalk_eq]
  exact counted s.csr.committed (setC s.csr.c (setCommitted s.csr.committed (setState .halted s)))

theorem haltedBefore_ev {s : State} (h : s.sig.walk ≠ .seal) : (haltedBefore s).ev = { s.ev with faultLatch := true } := by
  rw [haltedBefore, endWalk_eq, setCounter_eq]
  exact if_neg h

/-- HALTED once the roles have ended. -/
def haltedBody (s : State) : State :=
  let t := endJoiner .joinerFault (abortSource .sourceFault true (haltedBefore s))
  clearDirty { t with repair.r := [] }

theorem enterHalted_eq (c : Cause) (s : State) : enterHalted c s =
    if s.csr.state = .halted then haltedBody s else handStateChange s.csr.state c (haltedBody s) := rfl

theorem enterHalted_halted (c : Cause) (s : State) : HaltedFrom c s (enterHalted c s) := by
  obtain ⟨csr, jnl, valid, walk, sum, record, repair, regions⟩ := haltedBefore_keeps s
  obtain ⟨peer0, peer1⟩ := haltedBefore_peers s
  -- What the two ends and the record leave.
  have body : (haltedBody s).csr = haltedRecord s ∧ (haltedBody s).jnl = (haltedBefore s).jnl ∧
      (haltedBody s).sig = (haltedBefore s).sig ∧ (haltedBody s).vote.record = VoteRecord.cleared ∧
      (haltedBody s).repair = { dc := [], dv := [], dO := [], r := [], dcValid := false, role := .none } := by
    refine ⟨by simp [haltedBody, csr], by simp [haltedBody], by simp [haltedBody], by simp [haltedBody, record], ?_⟩
    have role := roles_ended .joinerFault .sourceFault true (haltedBefore s)
    simp only [haltedBody, clearDirty, role]
  have peers {α : Type} {g : Peer → α} (hg : ∀ y r, g { y with relation := r } = g y) :
      g (haltedBody s).vote.peer0 = g { s.vote.peer0 with slot := none } ∧
      g (haltedBody s).vote.peer1 = g { s.vote.peer1 with slot := none } := by
    obtain ⟨a0, a1⟩ := abortSource_peers hg .sourceFault true (haltedBefore s)
    obtain ⟨b0, b1⟩ := endJoiner_peers hg .joinerFault (abortSource .sourceFault true (haltedBefore s))
    rw [← peer0, ← peer1]
    exact ⟨b0.trans a0, b1.trans a1⟩
  have last {β : Type} (p : State → β) (hp : ∀ u, p (handStateChange s.csr.state c u) = p u) :
      p (enterHalted c s) = p (haltedBody s) := by
    rw [enterHalted_eq]
    split
    · rfl
    · exact hp _
  have voted : (enterHalted c s).vote = (haltedBody s).vote := last (·.vote) fun u => by simp [handStateChange]
  obtain ⟨bcsr, bjnl, bsig, brecord, brepair⟩ := body
  exact {
    csr := (last (·.csr) fun u => by simp [handStateChange]).trans bcsr
    jnl := (last (·.jnl) fun u => by simp [handStateChange]).trans (bjnl.trans jnl)
    sig := by
      rw [last (·.sig) fun u => by simp [handStateChange], bsig]
      exact ⟨valid, walk, sum⟩
    vote := by
      rw [voted]
      exact ⟨brecord, peers (g := Peer.slot) fun _ _ => rfl⟩
    marks := by
      rw [voted]
      obtain ⟨s0, s1⟩ := peers (g := Peer.status) fun _ _ => rfl
      obtain ⟨a0, a1⟩ := peers (g := Peer.arrival) fun _ _ => rfl
      exact ⟨s0, a0, s1, a1⟩
    repair := (last (·.repair) fun u => by simp [handStateChange]).trans brepair
    latch := ⟨by
      rw [show (enterHalted c s).ev.faultLatch = (haltedBody s).ev.faultLatch from
        last (·.ev.faultLatch) fun u => by simp [handStateChange]]
      simp [haltedBody, haltedBefore, setLatch], by simp⟩
    kept := by simp
    records := fun hr hw => by
      have still : haltedBody s = clearDirty { haltedBefore s with repair.r := [] } := by
        simp only [haltedBody]
        rw [roles_none _ _ _ (by rw [repair]; exact hr)]
      have ev : (haltedBody s).ev = { s.ev with faultLatch := true } := by
        rw [still]
        exact haltedBefore_ev hw
      rw [enterHalted_eq]
      by_cases hs : s.csr.state = .halted
      · rw [if_pos hs, if_pos hs, ev]
      · rw [if_neg hs, if_neg hs, handStateChange, hand_as_evAfter, bcsr]
        exact evAfter_of _ _ _ _ _ _ (by rw [bcsr]) (by rw [bcsr]) (by simp [haltedBody, regions]) ev }

end Sys2Proof.Machine
end

section
/-! A mark elsewhere, and a mark that finds the record's copies disagreeing (R96, R108, R114). -/

namespace Sys2Proof.Machine
-- One proof after the other: side by side they pass the memory that the check allows.
set_option Elab.async false

/-- The FAULT latch beside it changes nothing of a record handed. -/
theorem evAfter_latched (k : EventKind) (d : Nat) (j : Subject) (v : Word) (b : Bool) (e : EventUnit) (s : State) :
    evAfter k d j v { s with ev := { e with faultLatch := b } } = { evAfter k d j v { s with ev := e } with faultLatch := b } := by
  have cap : eventCapacity { s with ev := { e with faultLatch := b } } = eventCapacity { s with ev := e } := rfl
  have occ : occupancy { s with ev := { e with faultLatch := b } } = occupancy { s with ev := e } := rfl
  simp only [evAfter, hand, handAt, handRecord, cap, occ]
  split
  · rfl
  · split <;> rfl

/-- INTERNAL-FAULT, which sets the latch, then HALTED. -/
theorem recordFault_halted (u : Nat × Word) (s : State) : HaltedFrom .record
    { s with ev := { evAfter .internalFault u.1 .none u.2 s with faultLatch := true } } (recordFault u s) := by
  rw [recordFault, hand_as_evAfter]
  exact enterHalted_halted .record _

/-- The records of a record disagreement where nothing else ends with it. -/
theorem recordFault_waiting {u : Nat × Word} {s t : State} (h : HaltedFrom .record
      { s with ev := { evAfter .internalFault u.1 .none u.2 s with faultLatch := true } } t)
    (hr : s.repair.role = .none) (hw : s.sig.walk ≠ .seal) (hs : s.csr.state ≠ .halted) :
    t.ev.waiting = (let s1 := hand .internalFault u.1 .none u.2 s
      hand .stateChange 17 (.channelState s.csr.state) (wordOf s.csr.committed.toNat) { s1 with csr := t.csr }).ev.waiting := by
  have ev := h.records hr hw
  rw [if_neg hs] at ev
  have latched := congrArg EventUnit.waiting (evAfter_latched .stateChange 17 (.channelState s.csr.state)
    (wordOf s.csr.committed.toNat) true (evAfter .internalFault u.1 .none u.2 s) { s with csr := haltedRecord s })
  rw [ev, h.csr]
  refine latched.trans ?_
  simp only [hand_as_evAfter]
  rfl

section
variable {s : State}

/-- The commit that a waiting COMMIT-TABLES leaves, in what HALTED goes on from. -/
theorem commitEffect_leaves (s : State) : (commitEffect s).csr.committed = 0 ∧ (commitEffect s).csr.c = 0 ∧
    (commitEffect s).regions = { s.regions with committed := s.regions.loaded } ∧
    (commitEffect s).sig.committedKeys = s.sig.loadedKeys ∧
    (commitEffect s).mgmt.digest = digestOf s.regions.loaded s.sig.loadedKeys ∧ (commitEffect s).mgmt.phase = .done := by
  have regions : (commitTablesOnly s).regions = { s.regions with committed := s.regions.loaded } := rfl
  have keys : (commitTablesOnly s).sig.committedKeys = s.sig.loadedKeys := rfl
  have digest : (commitTablesOnly s).mgmt.digest = digestOf s.regions.loaded s.sig.loadedKeys := rfl
  simp only [commitEffect, zeroCounters_eq]
  split <;> simp [handStateChange, finish, setState, regions, keys, digest]

/-- A mark that is decided in no state of a cycle. -/
theorem markWord_elsewhere (h1 : s.csr.state ≠ .sealed) (h2 : s.csr.state ≠ .voting) (h : s.csr.state = .unconfigured ∨ copiesAgree s) :
    markDuring s = { s with port.refusalReported := false } := by
  have marking : s.csr.state.marking = false := by
    cases hs : s.csr.state <;> simp_all [ChannelState.marking]
  have word : markWord s = clearReported s := by
    simp only [markWord]
    split
    · rfl
    · rename_i hu
      rw [show recordUpset s = none from h.resolve_left hu]
      simp [marking]
  unfold markDuring
  split
  · rename_i u hu
    rw [if_pos (h.resolve_right fun agrees => absurd (hu.symm.trans agrees) (by simp)), word]
    rfl
  · rw [if_neg (by simp [marking]), word]
    rfl

theorem markDuring_upset {u : Nat × Word} (hs : s.csr.state ≠ .unconfigured) (hg : s.arb.grant = none)
    (hu : recordUpset s = some u) : markDuring s = recordFault u (landCommit s) := by
  simp only [markDuring, hu, if_neg hs]
  exact overGrant_none _ s hg

end

/-- Settles O31: a mark that opens no vote, and the record disagreement it finds. -/
theorem markElsewhereOrOnAnUpsetRecord : Obligations.MarkElsewhereOrOnAnUpsetRecord := by
  refine ⟨fun s h1 h2 hm hg h => ?_, fun s detail v hs hm hg hu => ?_⟩
  · rw [exec_cycleMark hg hm, markWord_elsewhere h1 h2 h]
  · have run : exec .cycleMark s = .next (recordFault (detail, v) (landCommit s)) := by
      rw [exec_cycleMark (by simp [hg]) hm, markDuring_upset hs hg hu]
    refine ⟨fun hd => ⟨_, run, ?_⟩, fun hd => ⟨_, run, ?_⟩⟩
    · have landed : landCommit s = commitEffect { s with mgmt.deferred := none } := by simp only [landCommit, hd, deferredEffect]
      obtain ⟨committed, c, regions, keys, digest, phase⟩ := commitEffect_leaves { s with mgmt.deferred := none }
      have halted := recordFault_halted (detail, v) (landCommit s)
      rw [landed] at halted ⊢
      obtain ⟨csr, jnl, sig, -, -, -, latch, kept⟩ := halted
      obtain ⟨kmem, kport, kregions, -, -, kmgmt⟩ := kept
      refine ⟨by rw [csr]; rfl, by rw [csr]; exact committed, by rw [csr]; exact committed, by rw [csr]; exact c,
        haltedRecord_agrees csr, kregions.trans regions, by simpa using keys, by rw [kmgmt]; exact digest,
        by rw [kmgmt]; exact phase, by rw [kmgmt]; simp, latch.1, sig.1, by rw [jnl]; rfl, by rw [kmem]; simp,
        by rw [kport]; simp⟩
    · have landed : landCommit s = s := by
        unfold landCommit
        split
        · exact absurd ‹_› hd
        · rfl
      have halted := recordFault_halted (detail, v) s
      rw [landed]
      have records := recordFault_waiting halted
      obtain ⟨csr, jnl, sig, vote, -, repair, latch, kept⟩ := halted
      obtain ⟨kmem, kport, kregions, kspare, kscrub, kmgmt⟩ := kept
      refine ⟨by rw [csr]; rfl, by rw [csr]; rfl, by rw [csr]; rfl, by rw [csr]; rfl, haltedRecord_agrees csr, latch.1,
        by simp, sig.1, sig.2.1, jnl, vote.1, vote.2.1, vote.2.2, repair, kmem, kport, kregions, kspare, kscrub, kmgmt, ?_⟩
      intro hr hw
      by_cases hh : s.csr.state = .halted
      · exact .inr hh
      · exact .inl (records hr hw hh)

end Sys2Proof.Machine
end

section
/-! The outcome of a vote, and AGREE (R125 to R127). -/

namespace Sys2Proof.Machine
-- One proof after the other: side by side they pass the memory that the check allows.
set_option Elab.async false

section
variable {s : State}

/-- The window's expiry with no grant under way resolves the open vote. -/
theorem exec_voteWindowExpiry (hg : s.arb.grant = none) (ho : s.vote.record.isOpen = true)
    (hw : s.vote.record.window ≠ none) : exec .voteWindowExpiry s = .next (settle (resolveVote s)) := by
  have opened : (s.vote.record.isOpen && s.vote.record.window.isSome) = true := by
    rw [ho, Bool.true_and]
    exact Option.isSome_iff_ne_none.mpr hw
  simp only [exec, execVoteWindowExpiry, windowExpiry, resolveOpen, overGrant_none _ _ hg, opened, if_true]

theorem resolveVote_acts (h : copiesAgree s) : resolveVote s = clearVote (actOnVote s) := by
  rw [resolveVote, show recordUpset s = none from h]

theorem resolveVote_upset {u : Nat × Word} (h : recordUpset s = some u) : resolveVote s = recordFault u (clearVote s) := by
  rw [resolveVote, h]

/-- The record of a vote carries the vote's cycle. -/
theorem handAt_eq (k : EventKind) (d : Nat) (j : Subject) (v : Word) (n : Cycle) (s : State) :
    handAt k d j v n s = { s with ev := evAfter k d j v { s with csr := { s.csr with counter := n } } } := by
  simp only [handAt, handRecord, evAfter, hand]
  split
  · rfl
  · have room : (eventCapacity { s with csr := { s.csr with counter := n } } - 1 ≤
        occupancy { s with csr := { s.csr with counter := n } } ∨ Config.waitingDepth ≤ s.ev.waiting.length) =
        (eventCapacity s - 1 ≤ occupancy s ∨ Config.waitingDepth ≤ s.ev.waiting.length) := rfl
    simp only [room]
    split <;> rfl

theorem absentPeers_eq (s : State) : absentPeers s = setOfPeers s.mgmt.params.channelId
    (decide (s.vote.peer0.status ≠ .agree)) (decide (s.vote.peer1.status ≠ .agree)) := by
  unfold absentPeers setOfPeers
  cases s.mgmt.params.channelId with
  | none => rfl
  | some me => cases me <;> rfl

theorem arrivalIs_iff {v : Nat} {a : Option (Nat × Arrival)} : arrivalIs v a = true ↔ ∃ how, a = some (v, how) := by
  cases a with
  | none => simp [arrivalIs]
  | some a => obtain ⟨w, how⟩ := a; simp [arrivalIs]

end

/-! ### AGREE -/

/-- The journal once the voting segment is discarded (R87). -/
def journalDiscarded (s : State) : JournalUnit :=
  { s.jnl with
    head := s.jnl.boundary, votingCount := 0, votingOver := false, votingPresent := false
    pressure := s.jnl.pressure && decide (pressureLevel s ≤ s.jnl.openCount) }

theorem discardVoting_eq (s : State) : discardVoting s = { s with jnl := journalDiscarded s } := by
  have level (j : JournalUnit) : pressureLevel { s with jnl := j } = pressureLevel s := rfl
  simp only [discardVoting, rearmPressure, journalDiscarded, JournalUnit.entries, level]
  by_cases h : s.jnl.openCount < pressureLevel s
  · rw [if_pos (by omega), show decide (pressureLevel s ≤ s.jnl.openCount) = false from by simpa using h, Bool.and_false]
  · rw [if_neg (by omega), show decide (pressureLevel s ≤ s.jnl.openCount) = true from by simpa using h, Bool.and_true]

/-- The record of a cycle that is agreed. -/
def agreedRecord (s : State) : ChannelRecord :=
  { state := if s.csr.state = .sealed then .voting else s.csr.state
    counter := s.csr.counter, committed := s.vote.record.cycle, c := s.vote.record.snapshot
    stateInv := if s.csr.state = .sealed then ~~~ BitVec.ofNat 8 ChannelState.voting.code else s.csr.stateInv
    counterInv := s.csr.counterInv, committedInv := ~~~ s.vote.record.cycle, cInv := ~~~ wordOf s.vote.record.snapshot }

/-- The cycle committed, before its records. -/
def agreedState (s : State) : State :=
  { s with
    csr := agreedRecord s, jnl := journalDiscarded s
    repair := { s.repair with dc := s.repair.dv, dv := [], dcValid := true }
    ev := { s.ev with health := if s.ev.faultLatch then s.ev.health else !s.ev.health } }

theorem agree_eq (s : State) : agree s =
    let u := agreedState s
    let voted : State := { u with
      ev := evAfter (if unanimous s then .voteUnanimous else .vote) voteAgree
        (if unanimous s then .none else absentPeers s) (wordOf s.vote.record.snapshot)
        { u with csr := { u.csr with counter := s.vote.record.cycle } } }
    if s.csr.state = .sealed then handStateChange .sealed .agree voted else voted := by
  have latch (u : State) : toggleHealth u =
      { u with ev := { u.ev with health := if u.ev.faultLatch then u.ev.health else !u.ev.health } } := by
    unfold toggleHealth
    split <;> rfl
  have toggled : toggleHealth (if s.csr.state = .sealed
      then setState .voting (commitMaps (setCommitted s.vote.record.cycle (setC s.vote.record.snapshot (discardVoting s))))
      else commitMaps (setCommitted s.vote.record.cycle (setC s.vote.record.snapshot (discardVoting s)))) = agreedState s := by
    rw [latch, discardVoting_eq]
    by_cases hs : s.csr.state = .sealed <;>
      simp [hs, agreedState, agreedRecord, setState, commitMaps, setCommitted, setC]
  simp only [agree, toggled]
  have marked : unanimous (agreedState s) = unanimous s := rfl
  have absent : absentPeers (agreedState s) = absentPeers s := rfl
  rw [marked, absent]
  by_cases hs : s.csr.state = .sealed <;> by_cases hu : unanimous s = true <;> simp [hs, hu, handAt_eq]

/-- What AGREE leaves, its records beside it. -/
theorem agree_leaves (s : State) : agree s = { agreedState s with ev := (agree s).ev } ∧
    (agree s).ev.faultLatch = s.ev.faultLatch ∧
    (agree s).ev.health = (if s.ev.faultLatch then s.ev.health else !s.ev.health) := by
  rw [agree_eq]
  by_cases hs : s.csr.state = .sealed
  · simp only [hs, if_true, handStateChange, hand_as_evAfter]
    exact ⟨trivial, by simp [evAfter, agreedState], by simp [evAfter, agreedState]⟩
  · simp only [hs, if_false]
    exact ⟨trivial, by simp [evAfter, agreedState], by simp [evAfter, agreedState]⟩

theorem agreedRecord_agrees {s t : State} (h : copiesAgree s) (ht : t.csr = agreedRecord s) : copiesAgree t := by
  obtain ⟨state, counter, -, -⟩ := (copiesAgree_iff s).mp h
  rw [copiesAgree_iff, ht]
  refine ⟨?_, counter, rfl, rfl⟩
  unfold agreedRecord
  by_cases hs : s.csr.state = .sealed
  · simp only [hs, if_true]
  · simpa only [hs, if_false] using state

/-- A peer's entry after a vote with majority value `v`. -/
theorem votedPeer_majority (v : Nat) (a : Option (Nat × Arrival)) (x : Peer) : votedPeer (some v) a x = (match a with
    | some (w, how) => { x with status := if w = v then .agree else .dissent, arrival := some how }
    | none => { x with status := .absent, arrival := none }) := by
  cases a with
  | none => rfl
  | some a => simp only [votedPeer, Option.some.injEq, eq_comm]

theorem votedPeer_status (v : Nat) (a : Option (Nat × Arrival)) (x : Peer) :
    decide ((votedPeer (some v) a x).status = .agree) = arrivalIs v a := by
  cases a with
  | none => simp [votedPeer, arrivalIs]
  | some a =>
    rw [votedPeer_majority]
    by_cases hv : a.1 = v <;> simp [arrivalIs, hv]

theorem agreed_cleared {s a : State} {m : Option Nat} (h : a = { agreedState (markPeers m s) with ev := a.ev }) :
    clearVote a = { s with
      csr := (clearVote a).csr, ev := (clearVote a).ev, vote := (clearVote a).vote
      jnl := journalDiscarded s
      repair.dc := s.repair.dv, repair.dv := [], repair.dcValid := true } := by
  rw [h]
  rfl

/-- A majority with this channel: the peers marked, and AGREE. -/
theorem actOnVote_agrees {s : State} (h : arrivalIs s.vote.record.snapshot s.vote.record.arrival0 = true ∨
    arrivalIs s.vote.record.snapshot s.vote.record.arrival1 = true) :
    actOnVote s = agree (markPeers (some s.vote.record.snapshot) s) := by
  have held := Bool.or_eq_true_iff.mpr h
  simp only [actOnVote, held, if_true]

/-- Settles O32: AGREE at the window's expiry, and the comparison of the record before any outcome. -/
theorem agreeCommitsTheCycle : Obligations.AgreeCommitsTheCycle := by
  refine ⟨fun s hg ho hw agrees => ?_, fun s detail v hg ho hw hu => ?_⟩
  · intro r holds hh
    have is_holds (a : Option (Nat × Arrival)) : holds a = arrivalIs r.snapshot a := by
      cases a <;> rfl
    set m := markPeers (some r.snapshot) s with hm
    have run : exec .voteWindowExpiry s = .next (settle (clearVote (agree m))) := by
      rw [exec_voteWindowExpiry hg ho hw, resolveVote_acts agrees, actOnVote_agrees (by simpa only [is_holds] using hh)]
    obtain ⟨state, latch, health⟩ := agree_leaves m
    have csr : (clearVote (agree m)).csr = agreedRecord m := congrArg State.csr state
    have both : unanimous m = (arrivalIs r.snapshot r.arrival0 && arrivalIs r.snapshot r.arrival1) := by
      rw [← votedPeer_status _ _ s.vote.peer0, ← votedPeer_status _ _ s.vote.peer1]
      rfl
    have absent : absentPeers m = setOfPeers s.mgmt.params.channelId (!arrivalIs r.snapshot r.arrival0)
        (!arrivalIs r.snapshot r.arrival1) := by
      rw [absentPeers_eq, ← votedPeer_status _ _ s.vote.peer0, ← votedPeer_status _ _ s.vote.peer1]
      simp only [decide_not]
      rfl
    have vote : (clearVote (agree m)).vote = { m.vote with record := VoteRecord.cleared } := by
      simp only [clearVote, agree_keeps]
    refine ⟨_, run, ?_, by rw [csr]; rfl, by rw [csr]; rfl, by rw [csr]; rfl, by rw [csr]; rfl,
      agreedRecord_agrees (s := m) agrees csr, latch, health, by rw [vote], by rw [vote]; rfl,
      ⟨by rw [vote]; exact votedPeer_majority _ _ _, by rw [vote]; exact votedPeer_majority _ _ _⟩, ?_⟩
    · exact agreed_cleared state
    · simp only [is_holds, csr]
      rw [← both]
      have ev := congrArg State.ev (agree_eq m)
      have name : (if unanimous m = true then Subject.none else setOfPeers s.mgmt.params.channelId
          (!arrivalIs r.snapshot r.arrival0) (!arrivalIs r.snapshot r.arrival1)) =
          if unanimous m = true then .none else absentPeers m := by rw [absent]
      have voted (k : EventKind) (j : Subject) (v : Word) :
          evAfter k 1 j v { s with csr := { agreedRecord m with counter := r.cycle }, ev := { s.ev with health := (agree m).ev.health } } =
          evAfter k 1 j v { agreedState m with csr := { (agreedState m).csr with counter := r.cycle } } :=
        evAfter_of _ _ _ _ _ _ rfl rfl rfl (by rw [health]; rfl)
      rw [name]
      refine ev.trans ?_
      by_cases hs : s.csr.state = .sealed
      · have hm' : m.csr.state = .sealed := hs
        simp only [if_pos hs, if_pos hm', handStateChange, hand_as_evAfter]
        exact evAfter_of _ _ _ _ _ _ rfl rfl rfl (voted _ _ _).symm
      · have hm' : ¬ m.csr.state = .sealed := hs
        simp only [if_neg hs, if_neg hm']
        exact (voted _ _ _).symm
  · have halted := recordFault_halted (detail, v) (clearVote s)
    have run := (exec_voteWindowExpiry hg ho hw).trans (congrArg _ (congrArg settle (resolveVote_upset hu)))
    obtain ⟨csr, jnl, sig, vote, marks, repair, latch, kept, records⟩ := halted
    obtain ⟨kmem, kport, kregions, kspare, kscrub, kmgmt⟩ := kept
    obtain ⟨m0, a0, m1, a1⟩ := marks
    refine ⟨_, run, by rw [csr]; rfl, by rw [csr]; rfl, by rw [csr]; rfl, by rw [csr]; rfl, haltedRecord_agrees csr,
      latch.1, latch.2.trans (by simp [evAfter, clearVote]), sig.1, sig.2.2, sig.2.1, jnl, vote.1, vote.2.1, vote.2.2, m0, a0, m1, a1, repair,
      kmem, kport, kregions, kspare, kscrub, kmgmt, ?_⟩
    intro hr hn hs
    refine (records hr hn).trans ((if_neg hs).trans ?_)
    rw [csr]
    have same : evAfter .internalFault detail .none v (clearVote s) = evAfter .internalFault detail .none v s :=
      evAfter_of _ _ _ _ _ _ rfl rfl rfl rfl
    simp only [same]
    exact evAfter_of _ _ _ _ _ _ rfl rfl rfl rfl

end Sys2Proof.Machine
end

section
/-! A rollback that a vote requests: what the request leaves, and the preparation that takes its result (R81, R89, R152). -/

namespace Sys2Proof.Machine
-- One proof after the other: side by side they pass the memory that the check allows.
set_option Elab.async false

/-! ### The request -/

section
variable {s : State} (why : RollbackReason)

/-- The journal of a channel that has nothing to undo. -/
structure NothingToUndo (s : State) : Prop where
  votingCount : s.jnl.votingCount = 0
  openCount : s.jnl.openCount = 0
  votingOver : s.jnl.votingOver = false
  openOver : s.jnl.openOver = false
  valid : s.sig.valid = true
  sum : s.sig.s = s.csr.c

/-- The rollback has ended: the journal emptied, the counter at the committed cycle. -/
def rollbackEnded (why : RollbackReason) (s : State) : State :=
  setCounter s.csr.committed { s with jnl := { JournalUnit.reset with rb := requested why false s } }

theorem rollbackEnded_eq (s : State) : rollbackEnded why s = { s with
    csr := { s.csr with counter := s.csr.committed, counterInv := ~~~ s.csr.committed }
    jnl := { JournalUnit.reset with rb := requested why false s }
    vote := if s.csr.committed = s.csr.counter then s.vote
      else { s.vote with skewReported := false, peer0.slot := none, peer1.slot := none } } := setCounter_eq _ _

/-- With S valid and equal to C and an empty journal the rollback is COMPLETE at once. -/
theorem requestRollback_complete (h : NothingToUndo s) :
    requestRollback why s = (rollbackEnded why s, some .complete) := by
  obtain ⟨pe, me, csr, port, arb, reg, cou, scr, spa, sig, jnl, vote, l1, l2, rep, mg, ev, out⟩ := s
  obtain ⟨hd, bo, ta, vc, oc, vp, vo, oo, pr, rb⟩ := jnl
  obtain ⟨hvc, hoc, hvo, hoo, hv, hs⟩ := h
  dsimp only at hvc hoc hvo hoo hv hs
  subst hvc hoc hvo hoo
  by_cases hc : csr.committed = csr.counter <;>
    simp [requestRollback, JournalUnit.broken, JournalUnit.entries, endRollback, hv, hs, hc, rollbackEnded, requested, setCounter,
      emptySlots, emptyJournal, openCycle, JournalUnit.reset, tag_eq]

/-- With entries in an intact journal the rollback rolls. -/
theorem requestRollback_rolls (hb : s.jnl.broken = false) (he : s.jnl.entries ≠ 0) :
    requestRollback why s = ({ s with jnl := { s.jnl with rb := requested why true s } }, none) := by
  have kept (rb : RollbackRecord) : ({ s.jnl with rb := rb } : JournalUnit).broken = false ∧
      ({ s.jnl with rb := rb } : JournalUnit).entries ≠ 0 := ⟨hb, he⟩
  simp only [requestRollback, (kept _).1, (kept _).2, Bool.false_eq_true, if_false]
  simp [requested, openCycle, tag_eq]

/-- With a segment that has overflowed the rollback ends BROKEN at once. -/
theorem requestRollback_broken (hb : s.jnl.broken = true) : requestRollback why s =
    (let t := rollbackEnded why s
     { t with sig := { s.sig with valid := false }, ev := evAfter .rollbackCheck 2 (.region (journalIndex s)) 0 t },
     some .broken) := by
  have kept (rb : RollbackRecord) : ({ s.jnl with rb := rb } : JournalUnit).broken = true := hb
  simp only [requestRollback, kept, if_true, endRollback, hand_as_evAfter, setCounter_eq, rollbackEnded]
  refine Prod.ext (State.ext_ev ?_ (evAfter_of _ _ _ _ _ _ rfl rfl rfl rfl)) rfl
  simp [requested, openCycle, tag_eq, invalidateS, emptyJournal, JournalUnit.reset]

end

/-! ### What preparation makes of the result -/

/-- The joiner that asks for a repair from the committed cycle, after a COMPLETE rollback. -/
def wanting (s : State) : JoinerRole :=
  { freshJoiner false with
    result := some .complete, base := some s.csr.committed, retry := s.mgmt.params.rejoinRetries }

/-- After a COMPLETE rollback the search for a source begins. -/
theorem beginPreparation_complete {s : State} (h : s.sig.valid = true) :
    beginPreparation (some .complete) s = beginSequence { s with repair.role := .joiner (wanting s) } := by
  simp only [beginPreparation, prepareResult, prepareSignature, h, if_true, finishPreparation]
  rfl

theorem sendRequest_asks {s : State} {j : JoinerRole} (x : Identity) (hr : s.repair.role = .joiner j) :
    (sendRequest x s).repair = { s.repair with role := .joiner (asking x j s) } ∧
    (sendRequest x s).vote = (setRelation x (some .joinerOf) s).vote := by
  simp only [sendRequest, hr, setRelation_eq]
  split <;> simp <;> rfl

/-- The search for a source changes nothing of a peer but its relation. -/
theorem beginSequence_peers {α : Type} {g : Peer → α} (hg : ∀ y r, g { y with relation := r } = g y) (s : State) :
    g (beginSequence s).vote.peer0 = g s.vote.peer0 ∧ g (beginSequence s).vote.peer1 = g s.vote.peer1 := by
  have asked (i : Identity) (u : State) :
      g (sendRequest i u).vote.peer0 = g u.vote.peer0 ∧ g (sendRequest i u).vote.peer1 = g u.vote.peer1 := by
    by_cases h : ∃ j, u.repair.role = .joiner j
    · obtain ⟨j, hj⟩ := h
      rw [(sendRequest_asks i hj).2]
      exact setRelation_peers hg i (some .joinerOf) u
    · unfold sendRequest
      split
      · exact absurd ⟨_, ‹_›⟩ h
      · exact ⟨rfl, rfl⟩
  have ended (u : State) : (endSequence u).vote = u.vote := by
    unfold endSequence
    (repeat' split) <;> simp
  have other (h : ∀ j, s.repair.role ≠ .joiner j) : beginSequence s = s := by
    unfold beginSequence
    split
    · exact absurd ‹_› (h _)
    · rfl
  cases hr : s.repair.role with
  | none => rw [other (by simp [hr])]; exact ⟨rfl, rfl⟩
  | source r => rw [other (by simp [hr])]; exact ⟨rfl, rfl⟩
  | joiner j =>
    rw [beginSequence_eq hr]
    cases hn : nextCandidate (afresh j) { s with repair.role := .joiner (afresh j) } with
    | none => rw [tryNext_none (j := afresh j) rfl hn, ended]; exact ⟨rfl, rfl⟩
    | some p => rw [tryNext_some (j := afresh j) rfl hn]; exact asked _ _

/-- The first peer, where it is eligible, is asked; its link need not be UP. -/
theorem beginSequence_asks {s : State} {j : JoinerRole} {x y : Identity} (hr : s.repair.role = .joiner j)
    (ho : otherIds s.mgmt.params.channelId = some (x, y)) (he : eligible s.vote.peer0 = true) :
    (∃ k, (beginSequence s).repair.role = .joiner k ∧ k.phase = .requesting ∧ k.candidate = some x ∧
      k.replyTimer = some s.mgmt.params.voteWindow) ∧ (beginSequence s).vote.peer0.relation = some .joinerOf := by
  obtain ⟨me, hid⟩ : ∃ me, s.mgmt.params.channelId = some me := by
    cases hc : s.mgmt.params.channelId with
    | none => rw [hc] at ho; cases ho
    | some me => exact ⟨me, rfl⟩
  have slot : peerSlot s x = some false := by simp [peerSlot, ho]
  rw [beginSequence_eq hr, tryNext_some (j := afresh j) rfl
    (nextCandidate_first (me := me) (by exact hid) (hid ▸ ho) (by simp [afresh]) (by simp [afresh]) (by exact he))]
  have asked : (setRelation x (some .joinerOf) s).vote.peer0.relation = some .joinerOf := by
    rw [setRelation, updPeer_at _ slot]
    rfl
  obtain ⟨role, vote⟩ := sendRequest_asks (s := { s with repair.role := .joiner { afresh j with tried := [x] } }) x rfl
  refine ⟨⟨_, congrArg RepairUnit.role role, rfl, rfl, rfl⟩, ?_⟩
  refine (congrArg (fun v : VoteUnit => v.peer0.relation) vote).trans ?_
  rw [setRelation_eq] at asked ⊢
  exact asked

end Sys2Proof.Machine
end

section
/-! A LOCAL-DISSENT, at a vote or by the watch in HELD: the channel goes to OUT and asks for a repair (R128, R131, R93). -/

namespace Sys2Proof.Machine
-- One proof after the other: side by side they pass the memory that the check allows.
set_option Elab.async false

/-! ### What both LOCAL-DISSENTs do -/

/-- OUT entered with a source role aborted, before the rollback. -/
def dissenting (s : State) : State := abortSource .sourceState true (emptySlots (setState .out s))

/-- The LOCAL-DISSENT of value `v` on cycle `n`, the peers already marked. -/
def dissented (prev : ChannelState) (v : Word) (n : Cycle) (s : State) : State :=
  let r := requestRollback .dissent (dissenting s)
  handStateChange prev .dissent (handAt .vote voteLocalDissent (.peers false false false) v n (beginPreparation r.2 r.1))

/-- The channel state record in OUT. -/
def outRecord (s : State) : ChannelRecord := { s.csr with state := .out, stateInv := ~~~ (7 : BitVec 8) }

theorem setOfPeers_none (me : Option Identity) : setOfPeers me false false = .peers false false false := by
  cases me with
  | none => rfl
  | some me => cases me <;> rfl

/-- What the preparation leaves of the marks. -/
theorem beginPreparation_peers {α : Type} {g : Peer → α} (hg : ∀ y r, g { y with relation := r } = g y) (r : Option RollbackResult)
    (s : State) : g (beginPreparation r s).vote.peer0 = g s.vote.peer0 ∧ g (beginPreparation r s).vote.peer1 = g s.vote.peer1 := by
  unfold beginPreparation
  split
  · simp only [prepareResult, prepareSignature]
    split
    · simp only [finishPreparation]
      exact beginSequence_peers hg _
    · exact ⟨rfl, rfl⟩
  · exact ⟨rfl, rfl⟩

theorem setCounter_marks {α : Type} {g : Peer → α} (hg : ∀ y, g { y with slot := none } = g y) (n : Cycle) (s : State) :
    g (setCounter n s).vote.peer0 = g s.vote.peer0 ∧ g (setCounter n s).vote.peer1 = g s.vote.peer1 := by
  rw [setCounter_eq]
  dsimp only
  split
  · exact ⟨rfl, rfl⟩
  · exact ⟨hg _, hg _⟩

/-- The end of a rollback changes the vote unit as its counter does. -/
theorem endRollback_vote (stop : Option Nat) (s : State) :
    (endRollback stop s).1.vote = (setCounter s.csr.committed s).vote := by
  have record (b : Prop) [Decidable b] (k : EventKind) (d : Nat) (j : Subject) (v : Word) (u : State) :
      (if b then hand k d j v u else u).vote = u.vote := by split <;> simp
  cases stop with
  | some d =>
    simp only [endRollback, hand_keeps, setCounter_eq]
    rfl
  | none =>
    have signed (b : Prop) [Decidable b] : (setCounter (if b then s else invalidateS s).csr.committed
        (emptyJournal (if b then s else invalidateS s))).vote = (setCounter s.csr.committed s).vote := by
      simp only [setCounter_eq]
      split <;> rfl
    simp only [endRollback, record, signed]

theorem requestRollback_marks {α : Type} {g : Peer → α} (hg : ∀ y, g { y with slot := none } = g y) (why : RollbackReason)
    (s : State) : g (requestRollback why s).1.vote.peer0 = g s.vote.peer0 ∧
    g (requestRollback why s).1.vote.peer1 = g s.vote.peer1 := by
  unfold requestRollback
  dsimp only
  split
  · rw [endRollback_vote]
    exact setCounter_marks hg _ _
  · split
    · rw [endRollback_vote]
      exact setCounter_marks hg _ _
    · exact ⟨rfl, rfl⟩

/-- Neither the roles nor the slots, the rollback or the search for a source touch a peer's marks. -/
theorem dissented_marks {α : Type} {g : Peer → α} (hr : ∀ y r, g { y with relation := r } = g y)
    (hs : ∀ y, g { y with slot := none } = g y) (s : State) :
    let r := requestRollback .dissent (dissenting s)
    g (beginPreparation r.2 r.1).vote.peer0 = g s.vote.peer0 ∧ g (beginPreparation r.2 r.1).vote.peer1 = g s.vote.peer1 := by
  intro r
  obtain ⟨a0, a1⟩ := beginPreparation_peers hr r.2 r.1
  obtain ⟨b0, b1⟩ := requestRollback_marks hs .dissent (dissenting s)
  obtain ⟨c0, c1⟩ := abortSource_peers hr .sourceState true (emptySlots (setState .out s))
  exact ⟨a0.trans (b0.trans (c0.trans (hs _))), a1.trans (b1.trans (c1.trans (hs _)))⟩

/-- A vote's LOCAL-DISSENT, both peers marked AGREE. -/
theorem localDissent_eq {s : State} (h0 : s.vote.peer0.status = .agree) (h1 : s.vote.peer1.status = .agree) :
    localDissent s = dissented s.csr.state (wordOf s.vote.record.snapshot) s.vote.record.cycle s := by
  obtain ⟨m0, m1⟩ := dissented_marks (g := Peer.status) (fun _ _ => rfl) (fun _ => rfl) s
  simp only [localDissent, dissented]
  rw [absentPeers_eq]
  simp only [dissenting] at m0 m1
  rw [m0, m1, h0, h1]
  simp only [ne_eq, not_true_eq_false, decide_false, setOfPeers_none]
  rfl

/-- Both peers marked AGREE by the watch. -/
def bothMarked (s : State) : State :=
  { s with
    vote.peer0.status := .agree, vote.peer0.arrival := none, vote.peer1.status := .agree, vote.peer1.arrival := none }

section
variable {s : State}

theorem heldWatch_both (hs : s.csr.state = .held) (h0 : aheadOf s s.vote.peer0) (h1 : aheadOf s s.vote.peer1) :
    s.csr.state = .held ∧ (decide (s.vote.peer0.state = some .voting) && isAhead s.vote.peer0.committed s.csr.committed) = true ∧
      (decide (s.vote.peer1.state = some .voting) && isAhead s.vote.peer1.committed s.csr.committed) = true := by
  simp only [Bool.and_eq_true, decide_eq_true_eq, isAhead_iff]
  exact ⟨hs, h0, h1⟩

/-- The watch in HELD that finds both peers ahead. -/
theorem heldWatch_acts (hs : s.csr.state = .held) (h0 : aheadOf s s.vote.peer0) (h1 : aheadOf s s.vote.peer1)
    (h : copiesAgree s) : ∃ n, heldWatch s = dissented .held (wordOf s.csr.c) n (bothMarked s) := by
  simp only [heldWatch, if_pos (heldWatch_both hs h0 h1)]
  rw [show recordUpset s = none from h]
  exact ⟨_, by simp [dissented, dissenting, bothMarked, emptySlots, setState]; rfl⟩

theorem heldWatch_upset {x : Nat × Word} (hs : s.csr.state = .held) (h0 : aheadOf s s.vote.peer0) (h1 : aheadOf s s.vote.peer1)
    (h : recordUpset s = some x) : heldWatch s = recordFault x s := by
  simp only [heldWatch, if_pos (heldWatch_both hs h0 h1)]
  rw [h]

end

/-! ### With nothing to undo -/

theorem dissenting_keeps (s : State) : (dissenting s).csr = outRecord s ∧ (dissenting s).sig = s.sig ∧
    (dissenting s).jnl = s.jnl ∧ (dissenting s).mgmt = s.mgmt ∧ (dissenting s).regions = s.regions ∧
    (dissenting s).vote.record = s.vote.record := by
  simp only [dissenting, abortSource_keeps]
  exact ⟨rfl, rfl, rfl, rfl, rfl, rfl⟩

theorem dissenting_slots (s : State) : (dissenting s).vote.peer0.slot = none ∧ (dissenting s).vote.peer1.slot = none := by
  exact abortSource_peers (g := Peer.slot) (fun _ _ => rfl) .sourceState true (emptySlots (setState .out s))

theorem dissenting_undoes {s : State} (h : NothingToUndo s) : NothingToUndo (dissenting s) := by
  obtain ⟨csr, sig, jnl, -⟩ := dissenting_keeps s
  obtain ⟨votingCount, openCount, votingOver, openOver, valid, sum⟩ := h
  constructor <;> simp only [outRecord, *]

/-- The search that a LOCAL-DISSENT begins where nothing is to be undone. -/
def searching (s : State) : State :=
  let e := rollbackEnded .dissent (dissenting s)
  { e with repair.role := .joiner (wanting e) }

/-- The channel has gone to OUT and asks for a repair from its committed cycle. -/
structure AsksForRepair (prev : ChannelState) (v : Word) (n : Cycle) (s t : State) (j : JoinerRole) : Prop where
  csr : t.csr = { outRecord s with counter := s.csr.committed, counterInv := ~~~ s.csr.committed }
  kept : t.mem = s.mem ∧ t.port = s.port ∧ t.sig = s.sig ∧ t.vote.record = s.vote.record ∧
    t.ev.faultLatch = s.ev.faultLatch ∧ t.ev.health = s.ev.health
  slots : t.vote.peer0.slot = none ∧ t.vote.peer1.slot = none
  marks : t.vote.peer0.status = s.vote.peer0.status ∧ t.vote.peer1.status = s.vote.peer1.status ∧
    t.vote.peer0.arrival = s.vote.peer0.arrival ∧ t.vote.peer1.arrival = s.vote.peer1.arrival
  jnl : t.jnl.entries = 0 ∧ t.jnl.rb.rolling = false ∧ t.jnl.rb.reason = some .dissent
  role : t.repair.role = .joiner j ∧ j.base = some s.csr.committed ∧ j.need = []
  asked : ∀ x y, otherIds s.mgmt.params.channelId = some (x, y) → eligible s.vote.peer0 = true →
    j.phase = .requesting ∧ j.candidate = some x ∧ j.replyTimer = some s.mgmt.params.voteWindow ∧
    t.vote.peer0.relation = some .joinerOf
  told : ∀ l, framesOf (dissenting s) l <+: framesOf t l
  records : 0 < s.mgmt.params.rejoinRetries → t.ev = evAfter .stateChange 6 (.channelState prev) (wordOf s.csr.committed.toNat)
    { s with
      csr := t.csr
      ev := evAfter .vote 2 (.peers false false false) v
        { s with csr := { outRecord s with counter := n }, ev := (dissenting s).ev } }

theorem dissented_complete (prev : ChannelState) (v : Word) (n : Cycle) {s : State} (h : NothingToUndo s) :
    dissented prev v n s =
      handStateChange prev .dissent (handAt .vote voteLocalDissent (.peers false false false) v n (beginSequence (searching s))) := by
  have undoes := dissenting_undoes h
  simp only [dissented, requestRollback_complete _ undoes]
  rw [beginPreparation_complete (by rw [rollbackEnded_eq]; exact undoes.valid)]
  rfl

theorem searching_keeps (s : State) :
    (searching s).csr = { outRecord s with counter := s.csr.committed, counterInv := ~~~ s.csr.committed } ∧
    (searching s).jnl = { JournalUnit.reset with rb := requested .dissent false (dissenting s) } ∧
    (searching s).mem = s.mem ∧ (searching s).port = s.port ∧ (searching s).sig = s.sig ∧
    (searching s).vote.record = s.vote.record ∧ (searching s).ev = (dissenting s).ev ∧ (searching s).regions = s.regions ∧
    (searching s).mgmt = s.mgmt := by
  obtain ⟨csr, sig, -, mgmt, regions, record⟩ := dissenting_keeps s
  simp only [searching, rollbackEnded_eq, csr, sig, regions, mgmt]
  refine ⟨rfl, trivial, by simp [dissenting], by simp [dissenting], trivial, ?_, trivial, trivial, trivial⟩
  split <;> exact record

theorem searching_marks {α : Type} {g : Peer → α} (hr : ∀ y r, g { y with relation := r } = g y)
    (hs : ∀ y, g { y with slot := none } = g y) (s : State) :
    g (searching s).vote.peer0 = g s.vote.peer0 ∧ g (searching s).vote.peer1 = g s.vote.peer1 := by
  obtain ⟨b0, b1⟩ := setCounter_marks hs (dissenting s).csr.committed
    { dissenting s with jnl := { JournalUnit.reset with rb := requested .dissent false (dissenting s) } }
  obtain ⟨c0, c1⟩ := abortSource_peers hr .sourceState true (emptySlots (setState .out s))
  exact ⟨b0.trans (c0.trans (hs _)), b1.trans (c1.trans (hs _))⟩

theorem searching_slots (s : State) : (searching s).vote.peer0.slot = none ∧ (searching s).vote.peer1.slot = none := by
  obtain ⟨s0, s1⟩ := dissenting_slots s
  simp only [searching, rollbackEnded_eq]
  split
  · exact ⟨s0, s1⟩
  · exact ⟨rfl, rfl⟩

theorem dissented_asks (prev : ChannelState) (v : Word) (n : Cycle) {s : State} (h : NothingToUndo s) :
    ∃ j, AsksForRepair prev v n s (dissented prev v n s) j := by
  obtain ⟨csr, -, -, mgmt, -, -⟩ := dissenting_keeps s
  obtain ⟨scsr, jnl_eq, kmem, kport, ksig, krecord, kev, kregions, kmgmt⟩ := searching_keeps s
  have marks {α : Type} {g : Peer → α} := searching_marks (g := g) (s := s)
  have slots := searching_slots s
  have role : (searching s).repair.role = .joiner (wanting (rollbackEnded .dissent (dissenting s))) := rfl
  have sought := beginSequence_sought role
  obtain ⟨j, hrep, base, need, -⟩ := sought.role
  have ended := rollbackEnded_eq .dissent (dissenting s)
  have frames (l : LinkId) : framesOf (searching s) l = framesOf (dissenting s) l := by
    cases l <;> simp [searching, ended, framesOf]
  have kretry : (wanting (rollbackEnded .dissent (dissenting s))).retry = s.mgmt.params.rejoinRetries := by
    simp only [wanting, ended, mgmt]
  have kbase : (wanting (rollbackEnded .dissent (dissenting s))).base = some s.csr.committed := by
    simp only [wanting, ended, csr]
    rfl
  have kneed : (wanting (rollbackEnded .dissent (dissenting s))).need = [] := rfl
  rw [dissented_complete prev v n h]
  generalize wanting (rollbackEnded .dissent (dissenting s)) = k at *
  generalize searching s = e at *
  refine ⟨j, ?_⟩
  have last {β : Type} (p : State → β) (hp : ∀ u ev, p { u with ev := ev } = p u) (u : State) :
      p (handStateChange prev .dissent (handAt .vote voteLocalDissent (.peers false false false) v n u)) = p u := by
    rw [handStateChange, hand_as_evAfter, handAt_eq, hp, hp]
  have krole : (beginSequence e).repair.role = .joiner j := congrArg RepairUnit.role hrep
  refine {
    csr := (last (·.csr) (fun _ _ => rfl) _).trans (by simpa using scsr)
    kept := ⟨by simp [handStateChange, kmem], by simp [handStateChange, kport], by simp [handStateChange, ksig],
      by simp [handStateChange, krecord], by simp [handStateChange, kev, dissenting, emptySlots, setState],
      by simp [handStateChange, kev, dissenting, emptySlots, setState]⟩
    slots := ?_
    marks := ?_
    jnl := ?_
    role := ⟨(last (·.repair.role) (fun _ _ => rfl) _).trans krole, base.trans kbase, need.trans kneed⟩
    asked := ?_
    told := fun l => (frames l) ▸ (sought.told l).trans (by cases l <;> simp [framesOf, handStateChange])
    records := ?_ }
  · rw [last (·.vote) fun _ _ => rfl, sought.slots.1, sought.slots.2]
    exact slots
  · rw [last (·.vote) fun _ _ => rfl]
    have through {α : Type} {g : Peer → α} (hr : ∀ y r, g { y with relation := r } = g y) (hs : ∀ y, g { y with slot := none } = g y) :
        g (beginSequence e).vote.peer0 = g s.vote.peer0 ∧ g (beginSequence e).vote.peer1 = g s.vote.peer1 :=
      ⟨(beginSequence_peers hr e).1.trans (marks hr hs).1, (beginSequence_peers hr e).2.trans (marks hr hs).2⟩
    obtain ⟨status0, status1⟩ := through (g := Peer.status) (fun _ _ => rfl) fun _ => rfl
    obtain ⟨arrival0, arrival1⟩ := through (g := Peer.arrival) (fun _ _ => rfl) fun _ => rfl
    exact ⟨status0, status1, arrival0, arrival1⟩
  · rw [last (·.jnl) fun _ _ => rfl, show (beginSequence e).jnl = e.jnl by simp, jnl_eq]
    exact ⟨rfl, rfl, rfl⟩
  · intro x y ho he
    have el := (marks (g := eligible) (fun _ _ => rfl) fun _ => rfl).1
    obtain ⟨⟨j1, r1, p1, c1, t1⟩, relation⟩ := beginSequence_asks role (by rw [kmgmt]; exact ho) (el.trans he)
    obtain rfl : j = j1 := Role.joiner.inj (krole.symm.trans r1)
    exact ⟨p1, c1, by rw [t1, kmgmt], (last (·.vote.peer0.relation) (fun _ _ => rfl) _).trans relation⟩
  · intro hretry
    have ev := sought.records (by rw [kretry]; exact hretry)
    have bcsr : (beginSequence e).csr = { outRecord s with counter := s.csr.committed, counterInv := ~~~ s.csr.committed } := by
      simpa using scsr
    have bregions : (beginSequence e).regions = s.regions := by simpa using kregions
    rw [last (·.csr) (fun _ _ => rfl), handStateChange, hand_as_evAfter, handAt_eq]
    dsimp only
    rw [show (beginSequence e).csr.committed = s.csr.committed by rw [bcsr]; rfl]
    exact evAfter_of _ _ _ _ _ _ rfl rfl bregions
      (evAfter_of _ _ _ _ _ _ (by rw [bcsr]) (by rw [bcsr]) bregions (ev.trans kev))

end Sys2Proof.Machine
end

section
/-! A LOCAL-DISSENT with entries to undo or a broken journal, and what goes on after every outcome (R81, R89, R128). -/

namespace Sys2Proof.Machine
-- One proof after the other: side by side they pass the memory that the check allows.
set_option Elab.async false

/-- With no source role OUT is entered as it is. -/
theorem dissenting_quiet {s : State} (h : ∀ r, s.repair.role ≠ .source r) : dissenting s = emptySlots (setState .out s) :=
  abortSource_other h

/-! ### With entries, or with an overflowed segment -/

theorem dissented_rolls (prev : ChannelState) (v : Word) (n : Cycle) {s : State} (hb : s.jnl.broken = false) (he : s.jnl.entries ≠ 0) :
    dissented prev v n s = handStateChange prev .dissent (handAt .vote voteLocalDissent (.peers false false false) v n
      { dissenting s with
        jnl := { s.jnl with rb := requested .dissent true s }, repair.role := .joiner (freshJoiner false) }) := by
  obtain ⟨csr, sig, jnl, -⟩ := dissenting_keeps s
  have request : requested .dissent true (dissenting s) = requested .dissent true s := by
    simp only [requested, csr, sig]
    rfl
  simp only [dissented, requestRollback_rolls .dissent (s := dissenting s) (by rw [jnl]; exact hb) (by rw [jnl]; exact he), jnl, request]
  rfl

/-- What an overflowed segment leaves of a LOCAL-DISSENT. -/
theorem dissented_broken (prev : ChannelState) (v : Word) (n : Cycle) {s : State} (hb : s.jnl.broken = true) :
    let t := dissented prev v n s
    t.csr.state = .out ∧ t.csr.counter = s.csr.committed ∧ t.jnl.entries = 0 ∧ t.jnl.rb.rolling = false ∧ t.mem = s.mem ∧
    t.repair.role = .joiner { freshJoiner false with result := some .broken } ∧
    t.sig = { s.sig with valid := false, walk := .preparation, cursor := 0, acc := 0, poisoned := [], overflow := false } := by
  obtain ⟨csr, sig, jnl, -⟩ := dissenting_keeps s
  simp only [dissented, requestRollback_broken .dissent (s := dissenting s) (by rw [jnl]; exact hb)]
  rw [beginPreparation_invalid _ rfl, rollbackEnded_eq, sig, csr]
  simp only [handStateChange, hand_keeps, handAt_keeps, startWalk]
  exact ⟨rfl, rfl, rfl, rfl, by simp [dissenting], trivial, trivial⟩

/-! ### What goes on after every outcome -/

/-- From `s` to `t` every link goes on sending, and no source role has begun. -/
structure GoesOn (s t : State) : Prop where
  told : ∀ l, framesOf s l <+: framesOf t l
  map : t.repair.r = s.repair.r
  role : ∀ r, t.repair.role ≠ .source r

namespace GoesOn
variable {s t u : State}

theorem of_out (ho : t.out = s.out) (hr : t.repair.r = s.repair.r) (h : ∀ r, t.repair.role ≠ .source r) : GoesOn s t where
  told l := by
    cases l <;> rw [framesOf, framesOf, ho]
  map := hr
  role := h

theorem after (k : GoesOn u t) (ho : u.out = s.out) (hr : u.repair.r = s.repair.r) : GoesOn s t where
  told l := by
    have told := k.told l
    cases l <;> rw [framesOf, ho] at told <;> exact told
  map := k.map.trans hr
  role := k.role

theorem trans (h : GoesOn s t) (k : GoesOn t u) : GoesOn s u where
  told l := (h.told l).trans (k.told l)
  map := k.map.trans h.map
  role := k.role

theorem hand (h : GoesOn s t) (k : EventKind) (d : Nat) (j : Subject) (v : Word) : GoesOn s (Machine.hand k d j v t) :=
  h.trans (of_out (by simp) (by simp) (by simpa using h.role))

theorem handAt (h : GoesOn s t) (k : EventKind) (d : Nat) (j : Subject) (v : Word) (n : Cycle) :
    GoesOn s (Machine.handAt k d j v n t) :=
  h.trans (of_out (by simp) (by simp) (by simpa using h.role))

theorem beginSequence {j : JoinerRole} (h : s.repair.role = .joiner j) : GoesOn s (Machine.beginSequence s) := by
  have sought := beginSequence_sought h
  obtain ⟨k, role, -⟩ := sought.role
  exact ⟨sought.told, by rw [role], fun r => by rw [role]; exact Role.noConfusion⟩

theorem prepareResult {j : JoinerRole} (res : RollbackResult) (h : s.repair.role = .joiner j) :
    GoesOn s (Machine.prepareResult res s) := by
  simp only [Machine.prepareResult, h, prepareSignature]
  split
  · simp only [finishPreparation]
    exact (beginSequence rfl).after rfl rfl
  · exact of_out rfl rfl fun r => Role.noConfusion

theorem beginPreparation (res : Option RollbackResult) (s : State) : GoesOn s (Machine.beginPreparation res s) := by
  cases res with
  | none => exact of_out rfl rfl fun r => Role.noConfusion
  | some res => exact (prepareResult (s := { s with repair.role := .joiner (freshJoiner false) }) res rfl).after rfl rfl

theorem requestRollback (why : RollbackReason) (h : ∀ r, s.repair.role ≠ .source r) : GoesOn s (Machine.requestRollback why s).1 :=
  of_out (by simp) (by simp) (by simpa using h)

theorem dissented (prev : ChannelState) (v : Word) (n : Cycle) (h : ∀ r, s.repair.role ≠ .source r) :
    GoesOn s (Machine.dissented prev v n s) := by
  refine .hand (.handAt (.trans ?_ (beginPreparation _ _)) _ _ _ _ _) _ _ _ _
  rw [dissenting_quiet h]
  exact (requestRollback (s := emptySlots (setState .out s)) .dissent h).after rfl rfl

theorem enterHalted (c : Cause) (h : s.repair.role = .none) (hr : s.repair.r = []) : GoesOn s (Machine.enterHalted c s) := by
  obtain ⟨-, -, -, -, -, -, repair, -⟩ := haltedBefore_keeps s
  have halted := (enterHalted_halted c s).repair
  refine ⟨fun l => ?_, by rw [halted, hr], fun r => by rw [halted]; exact Role.noConfusion⟩
  have body : (haltedBody s).out = s.out := by
    simp only [haltedBody]
    rw [roles_none _ _ _ (by rw [repair]; exact h)]
    simp [clearDirty, haltedBefore]
  have out : (Machine.enterHalted c s).out = s.out := by
    rw [enterHalted_eq]
    split
    · exact body
    · simp [handStateChange, body]
  cases l <;> rw [framesOf, framesOf, out]

theorem recordFault (x : Nat × Word) (h : s.repair.role = .none) (hr : s.repair.r = []) : GoesOn s (Machine.recordFault x s) :=
  (enterHalted .record (s := setLatch (Machine.hand .internalFault x.1 .none x.2 s)) (by simpa [setLatch] using h)
    (by simpa [setLatch] using hr)).after (by simp [setLatch]) (by simp [setLatch])

theorem heldWatch (h : s.repair.role = .none) (hr : s.repair.r = []) : GoesOn s (Machine.heldWatch s) := by
  by_cases hw : s.csr.state = .held ∧ aheadOf s s.vote.peer0 ∧ aheadOf s s.vote.peer1
  · obtain ⟨hs, h0, h1⟩ := hw
    cases hu : recordUpset s with
    | none =>
      obtain ⟨n, acts⟩ := heldWatch_acts hs h0 h1 hu
      rw [acts]
      exact (dissented (s := bothMarked s) .held _ n (by simp [h, bothMarked])).after rfl rfl
    | some x =>
      rw [heldWatch_upset hs h0 h1 hu]
      exact recordFault x h hr
  · rw [heldWatch_stays hw]
    exact of_out rfl rfl (by simp [h])

end GoesOn

end Sys2Proof.Machine
end

section
/-! NO-MAJORITY: the latch set, the rollback requested, HELD or HALTED (R129, R93). -/

namespace Sys2Proof.Machine
-- One proof after the other: side by side they pass the memory that the check allows.
set_option Elab.async false

/-- The channel state record in HELD, at the committed cycle. -/
def heldRecord (s : State) : ChannelRecord :=
  { s.csr with state := .held, stateInv := ~~~ (6 : BitVec 8), counter := s.csr.committed, counterInv := ~~~ s.csr.committed }

/-- The vote unit once the counter has fallen back to `n`. -/
def voteFallen (n : Cycle) (s : State) : VoteUnit :=
  { s.vote with
    skewReported := s.vote.skewReported && decide (n = s.csr.counter), peer0.slot := none, peer1.slot := none }

/-- The record of a NO-MAJORITY. -/
def noMajorityRecord (s : State) : EventUnit :=
  evAfter .vote voteNoMajority (absentPeers s) (wordOf s.vote.record.snapshot)
    { s with csr := { s.csr with counter := s.vote.record.cycle }, ev := { s.ev with faultLatch := true } }

theorem fallen_eq (n : Cycle) (s : State) : emptySlots (setCounter n s) =
    { s with csr := { s.csr with counter := n, counterInv := ~~~ n }, vote := voteFallen n s } := by
  rw [setCounter_eq]
  by_cases hc : n = s.csr.counter <;> simp [hc, emptySlots, voteFallen]

/-- HELD entered, before the watch. -/
def heldFrom (s : State) : State :=
  { s with
    csr := heldRecord s, jnl := { JournalUnit.reset with rb := requested .noMajority false s }, vote := voteFallen s.csr.committed s
    ev := evAfter .stateChange 7 (.channelState s.csr.state) (wordOf s.csr.committed.toNat)
      { s with csr := heldRecord s, ev := noMajorityRecord s } }

section
variable {s : State} (h : ∀ r, s.repair.role ≠ .source r)
include h

theorem latched_quiet : abortSource .sourceState true (setLatch s) = setLatch s := abortSource_other h

/-- With nothing to undo the channel holds, and the watch begins. -/
theorem noMajority_holds (hn : NothingToUndo s) : noMajority s = heldWatch (heldFrom s) := by
  have undo : NothingToUndo (setLatch s) := ⟨hn.1, hn.2, hn.3, hn.4, hn.5, hn.6⟩
  simp only [noMajority, latched_quiet h, requestRollback_complete .noMajority undo, actOnResult, if_true, enterHeld]
  refine congrArg heldWatch ?_
  have twice : emptySlots (setCounter (rollbackEnded .noMajority (setLatch s)).csr.committed (rollbackEnded .noMajority (setLatch s))) =
      { setLatch s with
        csr := { s.csr with counter := s.csr.committed, counterInv := ~~~ s.csr.committed }
        jnl := { JournalUnit.reset with rb := requested .noMajority false s }, vote := voteFallen s.csr.committed s } := by
    rw [fallen_eq, rollbackEnded_eq]
    by_cases hc : s.csr.committed = s.csr.counter <;> simp [setLatch, voteFallen, hc, requested]
  rw [twice, changeState_eq, handAt_eq]
  exact State.ext_ev rfl (evAfter_of _ _ _ _ _ _ rfl rfl rfl (evAfter_of _ _ _ _ _ _ rfl rfl rfl rfl))

/-- With entries in an intact journal the rollback rolls, the counter at the committed cycle. -/
theorem noMajority_rolls (hb : s.jnl.broken = false) (he : s.jnl.entries ≠ 0) : noMajority s =
    { s with
      csr := { s.csr with counter := s.csr.committed, counterInv := ~~~ s.csr.committed }
      jnl := { s.jnl with rb := requested .noMajority true s }, vote := voteFallen s.csr.committed s, ev := noMajorityRecord s } := by
  simp only [noMajority, latched_quiet h, requestRollback_rolls .noMajority (s := setLatch s) hb he]
  rw [fallen_eq, handAt_eq]
  exact State.ext_ev rfl (evAfter_of _ _ _ _ _ _ rfl rfl rfl rfl)

/-- With an overflowed segment the rollback is BROKEN at once, and the channel halts. -/
theorem noMajority_halts (hb : s.jnl.broken = true) : ∃ u, noMajority s = enterHalted .noMajority u ∧
    u.csr.committed = s.csr.committed ∧ u.mem = s.mem ∧ u.jnl.rb.undone = 0 ∧ u.repair = s.repair ∧ u.out = s.out := by
  simp only [noMajority, latched_quiet h, requestRollback_broken .noMajority (s := setLatch s) hb, actOnResult, reduceCtorEq,
    if_false]
  refine ⟨_, rfl, ?_⟩
  rw [fallen_eq, handAt_eq, rollbackEnded_eq]
  exact ⟨rfl, rfl, rfl, rfl, rfl⟩

end

theorem GoesOn.enterHeld {s : State} (h : s.repair.role = .none) (hr : s.repair.r = []) : GoesOn s (Machine.enterHeld s) :=
  (GoesOn.heldWatch (s := emptySlots (changeState .held .noMajority s)) (by simpa [changeState_eq, emptySlots] using h)
    (by simpa [changeState_eq, emptySlots] using hr)).after (by simp [changeState_eq, emptySlots]) (by simp [changeState_eq, emptySlots])

theorem GoesOn.actOnNoMajority {s : State} (res : RollbackResult) (h : s.repair.role = .none) (hr : s.repair.r = []) :
    GoesOn s (actOnResult (some .noMajority) res s) := by
  simp only [actOnResult]
  split
  · exact .enterHeld h hr
  · exact .enterHalted .noMajority h hr

theorem GoesOn.noMajority {s : State} (h : s.repair.role = .none) (hr : s.repair.r = []) : GoesOn s (Machine.noMajority s) := by
  have quiet : ∀ r, s.repair.role ≠ .source r := by simp [h]
  simp only [Machine.noMajority, latched_quiet quiet, fallen_eq, handAt_eq]
  split
  · exact (GoesOn.actOnNoMajority _ (by simpa [setLatch] using h) (by simpa [setLatch] using hr)).after (by simp [setLatch]) (by simp [setLatch])
  · exact .of_out (by simp [setLatch]) (by simp [setLatch]) (by simpa [setLatch] using quiet)

/-! ### Which outcome -/

section
variable {s : State}

/-- Both peers hold one value that is not this channel's. -/
theorem actOnVote_dissents {v : Nat} {h0 h1 : Arrival} (hv : v < 2 ^ 61 - 1) (a0 : s.vote.record.arrival0 = some (v, h0))
    (a1 : s.vote.record.arrival1 = some (v, h1)) (hn : v ≠ s.vote.record.snapshot) : actOnVote s =
    dissented s.csr.state (wordOf s.vote.record.snapshot) s.vote.record.cycle (markPeers (some v) s) := by
  have alone : (arrivalIs s.vote.record.snapshot s.vote.record.arrival0 || arrivalIs s.vote.record.snapshot s.vote.record.arrival1) =
      false := by simp [a0, a1, arrivalIs, hn]
  have together : peersAgree s.vote.record = some v := by
    rw [peersAgree, a0, a1]
    exact if_pos ⟨rfl, hv⟩
  have marked : (votedPeer (some v) (some (v, h0)) s.vote.peer0).status = .agree ∧
      (votedPeer (some v) (some (v, h1)) s.vote.peer1).status = .agree := by simp [votedPeer]
  simp only [actOnVote, alone, Bool.false_eq_true, if_false, together]
  exact localDissent_eq (s := markPeers (some v) s) (by simp only [markPeers, a0]; exact marked.1) (by simp only [markPeers, a1]; exact marked.2)

theorem actOnVote_undecided (h : noMajorityIn s.vote.record) : actOnVote s = noMajority (markPeers none s) := by
  obtain ⟨alone, apart⟩ := h
  have unheld : (arrivalIs s.vote.record.snapshot s.vote.record.arrival0 || arrivalIs s.vote.record.snapshot s.vote.record.arrival1) =
      false := by
    rw [Bool.or_eq_false_iff, ← Bool.not_eq_true, ← Bool.not_eq_true, arrivalIs_iff, arrivalIs_iff]
    exact ⟨fun ⟨how, e⟩ => (alone how).1 e, fun ⟨how, e⟩ => (alone how).2 e⟩
  have none_ : peersAgree s.vote.record = none := by
    unfold peersAgree
    split
    · rename_i v h0 w h1 a0 a1
      refine if_neg ?_
      rintro ⟨rfl, hv⟩
      exact absurd (apart v h0 h1 a0 a1) (by simpa [modulus] using hv)
    · rfl
  simp only [actOnVote, unheld, Bool.false_eq_true, if_false, none_]

end

end Sys2Proof.Machine
end

section
/-! A source role that a vote ends (R169, R170): the vote goes on as with no role held. -/

namespace Sys2Proof.Machine
-- One proof after the other: side by side they pass the memory that the check allows.
set_option Elab.async false

/-- A source role that a vote has ended from `s`, its record taken with the channel state record `csr`. -/
def sourceParted (r : SourceRole) (me : Identity) (csr : ChannelRecord) (s : State) : State :=
  { setRelation r.joiner none (sentUp r.link (ownFrame me (.abort .sourceState)) s) with
    repair := { s.repair with role := .none, r := [] }
    ev := evAfter .repair 9 (.peer r.joiner) (wordOf r.linesSent) { s with csr := csr } }

theorem sourceParted_eq (r : SourceRole) (me : Identity) (csr : ChannelRecord) (s : State) : sourceParted r me csr s =
    { sentUp r.link (ownFrame me (.abort .sourceState)) s with
      vote := voteWith s.mgmt.params.channelId r.joiner (fun y => { y with relation := none }) s.vote
      repair := { s.repair with role := .none, r := [] }
      ev := evAfter .repair 9 (.peer r.joiner) (wordOf r.linesSent) { s with csr := csr } } := by
  rw [sourceParted, setRelation_eq]
  simp

theorem voteWith_record (me : Option Identity) (x : Identity) (f : Peer → Peer) (v : VoteUnit) : (voteWith me x f v).record = v.record := by
  unfold voteWith
  (repeat' split) <;> rfl

theorem sourceEnded_eq (r : SourceRole) (d : Nat) (s : State) : sourceEnded r d s = { s with
    vote := voteWith s.mgmt.params.channelId r.joiner (fun y => { y with relation := none }) s.vote
    repair := { s.repair with role := .none, r := [] }
    ev := evAfter .repair d (.peer r.joiner) (wordOf r.linesSent) s } := by
  rw [sourceEnded, setRelation_eq]

/-- A record handed with the latch just set. -/
theorem evAfter_latching (k : EventKind) (d : Nat) (j : Subject) (v : Word) {u t : State} (hs : u.csr.state = t.csr.state)
    (hc : u.csr.counter = t.csr.counter) (hr : u.regions = t.regions) (he : u.ev = { t.ev with faultLatch := true }) :
    evAfter k d j v u = { evAfter k d j v t with faultLatch := true } :=
  (evAfter_of k d j v { t with ev := { t.ev with faultLatch := true } } u hs hc hr he).trans (evAfter_latched k d j v true t.ev t)

/-- A vote unit with both peers' entries changed. -/
def votePeers (f g : Peer → Peer) (v : VoteUnit) : VoteUnit := { v with peer0 := f v.peer0, peer1 := g v.peer1 }

theorem voteWith_votePeers {f g h : Peer → Peer} (hf : ∀ y, h (f y) = f (h y)) (hg : ∀ y, h (g y) = g (h y)) (me : Option Identity)
    (x : Identity) (v : VoteUnit) : voteWith me x h (votePeers f g v) = votePeers f g (voteWith me x h v) := by
  simp only [voteWith, votePeers]
  cases otherIds me with
  | none => rfl
  | some p =>
    obtain ⟨a, b⟩ := p
    by_cases xa : x = a <;> by_cases xb : x = b <;> simp [xa, xb, hf, hg]
    all_goals split <;> simp [hf, hg]

theorem votedPeer_relation (m : Option Nat) (a : Option (Nat × Arrival)) (y : Peer) :
    ({ votedPeer m a y with relation := none } : Peer) = votedPeer m a { y with relation := none } := by
  cases a <;> rfl

section
variable {s : State} {r : SourceRole} {me : Identity} (hr : s.repair.role = .source r) (hid : s.mgmt.params.channelId = some me)
  (hu : (getLink s r.link).status = .up)
include hr hid hu

theorem dissenting_parted (m : Option Nat) :
    dissenting (markPeers m s) = dissenting (markPeers m (sourceParted r me (outRecord s) s)) := by
  have quiet : ∀ q, (markPeers m (sourceParted r me (outRecord s) s)).repair.role ≠ .source q := by
    simp [markPeers, sourceParted]
  rw [dissenting_quiet quiet, dissenting, abortSource_told .sourceState (s := emptySlots (setState .out (markPeers m s))) hr hid
    (by cases hl : r.link <;> rw [hl] at hu <;> exact hu), sourceEnded_eq, sourceParted_eq]
  have votes := voteWith_votePeers (f := fun y => { votedPeer m s.vote.record.arrival0 y with slot := none })
    (g := fun y => { votedPeer m s.vote.record.arrival1 y with slot := none }) (h := fun y => { y with relation := none })
    (fun y => by rw [← votedPeer_relation]) (fun y => by rw [← votedPeer_relation]) s.mgmt.params.channelId r.joiner s.vote
  have sent : sentUp r.link (ownFrame me (.abort .sourceState)) (emptySlots (setState .out (markPeers m s))) =
      { sentUp r.link (ownFrame me (.abort .sourceState)) s with
        csr := outRecord s
        vote := votePeers (fun y => { votedPeer m s.vote.record.arrival0 y with slot := none })
          (fun y => { votedPeer m s.vote.record.arrival1 y with slot := none }) s.vote } := by
    cases r.link <;> rfl
  have record := voteWith_record s.mgmt.params.channelId r.joiner (fun y => { y with relation := none }) s.vote
  have kept := sentUp_keeps r.link (ownFrame me (.abort .sourceState)) s
  rw [sent]
  simp only [kept]
  rw [votes]
  generalize voteWith s.mgmt.params.channelId r.joiner (fun y => { y with relation := none }) s.vote = w at *
  refine State.ext_ev ?_ (evAfter_of _ _ _ _ _ _ rfl rfl (by simp) (by simp))
  simp only [emptySlots, setState, markPeers, record, votePeers]
  rfl

theorem latched_parted (m : Option Nat) :
    abortSource .sourceState true (setLatch (markPeers m s)) = setLatch (markPeers m (sourceParted r me s.csr s)) := by
  rw [abortSource_told .sourceState (s := setLatch (markPeers m s)) hr hid (by cases hl : r.link <;> rw [hl] at hu <;> exact hu),
    sourceEnded_eq, sourceParted_eq]
  have votes := voteWith_votePeers (f := votedPeer m s.vote.record.arrival0) (g := votedPeer m s.vote.record.arrival1)
    (h := fun y => { y with relation := none }) (fun y => votedPeer_relation _ _ y) (fun y => votedPeer_relation _ _ y)
    s.mgmt.params.channelId r.joiner s.vote
  have sent : sentUp r.link (ownFrame me (.abort .sourceState)) (setLatch (markPeers m s)) =
      { sentUp r.link (ownFrame me (.abort .sourceState)) s with
        ev := { s.ev with faultLatch := true }
        vote := votePeers (votedPeer m s.vote.record.arrival0) (votedPeer m s.vote.record.arrival1) s.vote } := by
    cases r.link <;> rfl
  have record := voteWith_record s.mgmt.params.channelId r.joiner (fun y => { y with relation := none }) s.vote
  have kept := sentUp_keeps r.link (ownFrame me (.abort .sourceState)) s
  rw [sent]
  simp only [kept]
  rw [votes]
  generalize voteWith s.mgmt.params.channelId r.joiner (fun y => { y with relation := none }) s.vote = w at *
  refine State.ext_ev ?_ ?_
  · simp only [setLatch, markPeers, record, votePeers]
  · exact evAfter_latching _ _ _ _ (t := { s with csr := s.csr }) (by simp [kept]) (by simp [kept]) (by simp [kept]) rfl

theorem undecided_parted (m : Option Nat) : noMajority (markPeers m s) = noMajority (markPeers m (sourceParted r me s.csr s)) := by
  have quiet : ∀ q, (markPeers m (sourceParted r me s.csr s)).repair.role ≠ .source q := by
    simp [markPeers, sourceParted]
  have record : (markPeers m (sourceParted r me s.csr s)).vote.record = (markPeers m s).vote.record := by
    simp only [markPeers, sourceParted_eq, voteWith_record]
  simp only [noMajority, latched_parted hr hid hu m, latched_quiet quiet, record]

end

end Sys2Proof.Machine
end

section
/-! The votes without agreement, assembled (R128, R129, R131, R93). -/

namespace Sys2Proof.Machine
-- One proof after the other: side by side they pass the memory that the check allows.
set_option Elab.async false

/-- A channel that has left for OUT, its counter fallen back, has a record whose copies agree. -/
theorem fallenRecord_agrees {s t : State} {r : ChannelRecord} (h : copiesAgree s) (ht : t.csr = r) (hr : r = { s.csr with
    state := r.state, stateInv := ~~~ BitVec.ofNat 8 r.state.code, counter := s.csr.committed, counterInv := ~~~ s.csr.committed }) :
    copiesAgree t := by
  obtain ⟨-, -, committed, c⟩ := (copiesAgree_iff s).mp h
  rw [copiesAgree_iff, ht, hr]
  exact ⟨rfl, rfl, committed, c⟩

theorem recordUpset_congr {s t : State} (h : t.csr = s.csr) : recordUpset t = recordUpset s := by
  simp only [recordUpset, h]

theorem markPeers_undoes {s : State} (m : Option Nat) (h : NothingToUndo s) : NothingToUndo (markPeers m s) :=
  ⟨h.1, h.2, h.3, h.4, h.5, h.6⟩

/-- With no source role the events before a LOCAL-DISSENT's records are those before it. -/
theorem dissenting_quiet_ev {s : State} (h : ∀ r, s.repair.role ≠ .source r) : (dissenting s).ev = s.ev := by
  rw [dissenting_quiet h]
  rfl

theorem eligible_markPeers (m : Option Nat) (s : State) :
    eligible (markPeers m s).vote.peer0 = eligible s.vote.peer0 := by
  simp only [markPeers, votedPeer]
  split <;> rfl

/-- With no majority both peers count as not agreeing. -/
theorem absentPeers_undecided (s : State) : absentPeers (markPeers none s) = setOfPeers s.mgmt.params.channelId true true := by
  have status (a : Option (Nat × Arrival)) (x : Peer) : decide ((votedPeer none a x).status ≠ .agree) = true := by
    unfold votedPeer
    split <;> simp
  rw [absentPeers_eq]
  exact congrArg₂ (setOfPeers s.mgmt.params.channelId) (status _ _) (status _ _)

/-- The watch in HELD looks at what the peers reported before the vote. -/
theorem heldFrom_ahead {s : State} {x : Option Nat} :
    aheadOf (heldFrom (markPeers x s)) (heldFrom (markPeers x s)).vote.peer0 ∧
      aheadOf (heldFrom (markPeers x s)) (heldFrom (markPeers x s)).vote.peer1 ↔ bothAhead s := by
  have kept (a : Option (Nat × Arrival)) (y : Peer) : (votedPeer x a y).state = y.state ∧ (votedPeer x a y).committed = y.committed := by
    unfold votedPeer
    split <;> exact ⟨rfl, rfl⟩
  obtain ⟨s0, c0⟩ := kept s.vote.record.arrival0 s.vote.peer0
  obtain ⟨s1, c1⟩ := kept s.vote.record.arrival1 s.vote.peer1
  simp only [bothAhead, aheadOf, heldFrom, voteFallen, markPeers, heldRecord, s0, c0, s1, c1, List.mem_cons, List.not_mem_nil,
    or_false, forall_eq_or_imp, forall_eq]

section
variable {s : State} (hg : s.arb.grant = none) (ho : s.vote.record.isOpen = true) (hw : s.vote.record.window ≠ none)
  (agrees : copiesAgree s)
include hg ho hw agrees

theorem exec_dissents {v : Nat} {h0 h1 : Arrival} (hv : v < 2 ^ 61 - 1) (a0 : s.vote.record.arrival0 = some (v, h0))
    (a1 : s.vote.record.arrival1 = some (v, h1)) (hn : v ≠ s.vote.record.snapshot) : exec .voteWindowExpiry s =
    .next (settle (clearVote (dissented s.csr.state (wordOf s.vote.record.snapshot) s.vote.record.cycle (markPeers (some v) s)))) := by
  rw [exec_voteWindowExpiry hg ho hw, resolveVote_acts agrees, actOnVote_dissents hv a0 a1 hn]

theorem exec_undecided (h : noMajorityIn s.vote.record) : exec .voteWindowExpiry s =
    .next (settle (clearVote (noMajority (markPeers none s)))) := by
  rw [exec_voteWindowExpiry hg ho hw, resolveVote_acts agrees, actOnVote_undecided h]

end

/-- A source role that ends with a LOCAL-DISSENT tells its joiner. -/
theorem dissenting_told {s : State} {r : SourceRole} {me : Identity} (hr : s.repair.role = .source r)
    (hid : s.mgmt.params.channelId = some me) (hu : (getLink s r.link).status = .up) :
    framesOf (dissenting s) r.link = framesOf s r.link ++ [ownFrame me (.abort .sourceState)] := by
  rw [dissenting, abortSource_told .sourceState (s := emptySlots (setState .out s)) hr hid (by cases hl : r.link <;> rw [hl] at hu <;> exact hu),
    sourceEnded, setRelation_eq]
  have sent := framesOf_sentUp r.link (ownFrame me (.abort .sourceState)) (emptySlots (setState .out s))
  cases hl : r.link <;> rw [hl] at sent <;> exact sent

theorem mem_drop_of_prefix {α : Type} {x : α} {a b : List α} (h : a ++ [x] <+: b) : x ∈ b.drop a.length := by
  obtain ⟨c, rfl⟩ := h
  simp

/-! ### The watch at a BEAT -/

/-- A BEAT's report of both peers ahead. -/
theorem reported_ahead {l : LinkId} {x : Identity} {st : Option ChannelState} {k n : Cycle} {second : Bool} {s : State}
    (slot : peerSlot s x = some second) :
    let told := reported x st k n (silenceRestarted l s)
    let ahead (c : Cycle) : Prop := 1 ≤ (c - s.csr.committed).toNat ∧ (c - s.csr.committed).toNat < 2 ^ 31
    aheadOf told told.vote.peer0 ∧ aheadOf told told.vote.peer1 ↔
      st = some .voting ∧ ahead n ∧ (getPeer s (!second)).state = some .voting ∧ ahead (getPeer s (!second)).committed := by
  intro told ahead
  have told_eq : told = { silenceRestarted l s with vote := if second then
      { s.vote with peer1 := { s.vote.peer1 with state := st, counter := k, committed := n } }
      else { s.vote with peer0 := { s.vote.peer0 with state := st, counter := k, committed := n } } } := by
    simp only [told, reported]
    rw [updPeer_at (second := second) _ (by simpa [peerSlot] using slot)]
    simp
  rw [told_eq]
  cases second <;> simp only [aheadOf, getPeer, ahead, silenceRestarted_keeps, Bool.not_false, Bool.not_true, if_true,
    Bool.false_eq_true, if_false]
  · tauto
  · tauto

theorem exec_beat {l : LinkId} {raw : List Byte} {s : State} {f : Frame} {st : Option ChannelState} {k n : Cycle}
    (hg : s.arb.grant = none) (acc : accepts l raw f s) (hf : f.payload = .beat st k n) :
    exec (.beatReceive l raw) s = .next (settle (heldWatch (reported f.sender st k n (silenceRestarted l s)))) := by
  refine congrArg (fun t => Host.Outcome.next (settle t)) ((during_none _ _ hg).trans ?_)
  rw [receiveFrame_accepted acc (by simp [Frame.kind, hf, Payload.kind]) (by decide)]
  simp only [useBeat, hf]
  exact updateReport_eq _ _ _ _ _

/-- Settles O33: LOCAL-DISSENT and NO-MAJORITY, with nothing, with entries and with an overflowed segment to undo; the watch in
HELD; and a source role that either ends. -/
theorem votesWithoutAgreement : Obligations.VotesWithoutAgreement := by
  refine ⟨?_, ?_, ?_, ?_, ?_⟩
  · intro s v h0 h1 hv hg ho hw agrees a0 a1 hn role vc oc vo oo valid sum
    have undo : NothingToUndo s := ⟨vc, oc, vo, oo, valid, sum⟩
    obtain ⟨j, asks⟩ := dissented_asks s.csr.state (wordOf s.vote.record.snapshot) s.vote.record.cycle (markPeers_undoes (some v) undo)
    have run := exec_dissents hg ho hw agrees hv a0 a1 hn
    generalize dissented _ _ _ _ = t at *
    obtain ⟨csr, kept, slots, marks, jnl, hrole, asked, told, records⟩ := asks
    obtain ⟨mem, port, sig, record, latch, health⟩ := kept
    refine ⟨clearVote t, j, run, by rw [clearVote, csr]; rfl, by rw [clearVote, csr]; rfl, by rw [clearVote, csr]; rfl,
      by rw [clearVote, csr]; rfl, fallenRecord_agrees agrees (t := clearVote t) csr rfl, latch, health, sig, mem, port, rfl,
      slots.1, slots.2, marks.1.trans ?_, marks.2.1.trans ?_, jnl.1, jnl.2.1, jnl.2.2, hrole.1, hrole.2.1, hrole.2.2,
      fun x y hx he => asked x y hx ((eligible_markPeers _ s).trans he), fun hretry => ?_⟩
    · simp [markPeers, a0, votedPeer]
    · simp [markPeers, a1, votedPeer]
    · refine ⟨csr, (records hretry).trans ?_⟩
      rw [csr, dissenting_quiet_ev (by simp [markPeers, role])]
      exact evAfter_of _ _ _ _ _ _ rfl rfl rfl (evAfter_of _ _ _ _ _ _ rfl rfl rfl rfl)
  · intro s hg ho hw agrees undecided role vc oc vo oo valid sum r after
    have undo : NothingToUndo s := ⟨vc, oc, vo, oo, valid, sum⟩
    set m := markPeers none s with hm
    have run : exec .voteWindowExpiry s = .next (settle (clearVote (heldWatch (heldFrom m)))) := by
      rw [exec_undecided hg ho hw agrees undecided, noMajority_holds (s := m) role (markPeers_undoes none undo)]
    have held : copiesAgree (heldFrom m) := fallenRecord_agrees agrees (t := heldFrom m) rfl rfl
    have latch : (heldFrom m).ev.faultLatch = true ∧ (heldFrom m).ev.health = s.ev.health := by
      simp [heldFrom, evAfter, noMajorityRecord, hm, markPeers]
    refine ⟨fun nb => ?_, fun hb => ?_⟩
    · rw [heldWatch_stays (s := heldFrom m) fun ⟨_, h0, h1⟩ => nb (heldFrom_ahead.mp ⟨h0, h1⟩)] at run
      have peers (a : Option (Nat × Arrival)) (x : Peer) : { votedPeer none a x with slot := none } = after a x := by
        cases a <;> simp [votedPeer, after]
      refine ⟨_, run, rfl, rfl, rfl, rfl, held, latch.1, latch.2, rfl, rfl, rfl, rfl, rfl, peers _ _, peers _ _, rfl, rfl, rfl, ?_⟩
      rw [← absentPeers_undecided]
      exact evAfter_of _ _ _ _ _ _ rfl rfl rfl (evAfter_of _ _ _ _ _ _ rfl rfl rfl rfl)
    · obtain ⟨h0, h1⟩ := heldFrom_ahead.mpr hb
      obtain ⟨n, acts⟩ := heldWatch_acts (s := heldFrom m) rfl h0 h1 held
      rw [acts] at run
      obtain ⟨j, asks⟩ := dissented_asks .held (wordOf (heldFrom m).csr.c) n (s := bothMarked (heldFrom m)) ⟨rfl, rfl, rfl, rfl, valid, sum⟩
      generalize dissented _ _ _ _ = t at *
      obtain ⟨csr, kept, slots, marks, jnl, hrole, -⟩ := asks
      obtain ⟨mem, port, sig, record, tlatch, thealth⟩ := kept
      exact ⟨clearVote t, j, run, by rw [clearVote, csr]; rfl, by rw [clearVote, csr]; rfl, by rw [clearVote, csr]; rfl,
        by rw [clearVote, csr]; rfl, fallenRecord_agrees agrees (t := clearVote t) csr rfl, tlatch.trans latch.1, thealth.trans latch.2,
        sig, mem, rfl, marks.1, marks.2.1, marks.2.2.1, marks.2.2.2, jnl.1, jnl.2.1, jnl.2.2, hrole.1, hrole.2.1, hrole.2.2⟩
  · intro l raw s f st k n second hg acc hf hs slot other ahead both
    have run := exec_beat hg acc hf
    have sees := reported_ahead (l := l) (st := st) (k := k) (n := n) slot
    have csr : (reported f.sender st k n (silenceRestarted l s)).csr = s.csr := by simp
    have sig : (reported f.sender st k n (silenceRestarted l s)).sig = s.sig := by simp
    have jnl : (reported f.sender st k n (silenceRestarted l s)).jnl = s.jnl := by simp
    have ev : (reported f.sender st k n (silenceRestarted l s)).ev = s.ev := by simp
    have mem : (reported f.sender st k n (silenceRestarted l s)).mem = s.mem := by simp
    have repair : (reported f.sender st k n (silenceRestarted l s)).repair = s.repair := by simp
    have mgmt : (reported f.sender st k n (silenceRestarted l s)).mgmt = s.mgmt := by simp
    have up (l1 : LinkId) : (getLink (reported f.sender st k n (silenceRestarted l s)) l1).status = (getLink s l1).status := by
      rw [reported, updPeer_eq]
      cases l <;> cases l1 <;> rfl
    have frames (l1 : LinkId) : framesOf (reported f.sender st k n (silenceRestarted l s)) l1 = framesOf s l1 := by
      cases l1 <;> simp [framesOf]
    generalize reported f.sender st k n (silenceRestarted l s) = told at *
    refine ⟨fun hn => ?_, fun hb upset => ?_, fun hb agrees vc oc vo oo valid sum => ?_⟩
    · rwa [heldWatch_stays fun ⟨_, h0, h1⟩ => hn (sees.mp ⟨h0, h1⟩)] at run
    · obtain ⟨h0, h1⟩ := sees.mpr hb
      obtain ⟨x, hx⟩ := Option.ne_none_iff_exists'.mp (fun e => upset ((recordUpset_congr csr).symm.trans e))
      rw [heldWatch_upset (by rw [csr]; exact hs) h0 h1 hx] at run
      obtain ⟨tcsr, -, -, -, -, -, latch, kept, -⟩ := recordFault_halted x told
      exact ⟨_, run, by rw [tcsr]; rfl, by rw [tcsr, ← csr]; rfl, by rw [tcsr, ← csr]; rfl, haltedRecord_agrees tcsr, latch.1,
        kept.1.trans mem⟩
    · obtain ⟨h0, h1⟩ := sees.mpr hb
      obtain ⟨n1, acts⟩ := heldWatch_acts (s := told) (by rw [csr]; exact hs) h0 h1 ((recordUpset_congr csr).trans agrees)
      rw [acts] at run
      have undo : NothingToUndo (bothMarked told) := by
        refine ⟨?_, ?_, ?_, ?_, ?_, ?_⟩ <;> simp only [bothMarked, csr, sig, jnl, vc, oc, vo, oo, valid, sum]
      obtain ⟨j, asks⟩ := dissented_asks .held (wordOf told.csr.c) n1 undo
      generalize dissented _ _ _ _ = t at *
      obtain ⟨tcsr, kept, slots, marks, tjnl, hrole, -, sent, -⟩ := asks
      obtain ⟨tmem, -, tsig, -, tlatch, thealth⟩ := kept
      rw [show (bothMarked told).csr = s.csr from csr, outRecord, show (bothMarked told).csr = s.csr from csr] at tcsr
      refine ⟨t, j, run, by rw [tcsr], by rw [tcsr], by rw [tcsr], by rw [tcsr], fallenRecord_agrees agrees tcsr rfl,
        tlatch.trans (congrArg EventUnit.faultLatch ev), thealth.trans (congrArg EventUnit.health ev), tsig.trans sig, tmem.trans mem,
        marks.1, marks.2.1, marks.2.2.1, marks.2.2.2, tjnl.1, tjnl.2.1, tjnl.2.2, hrole.1,
        hrole.2.1.trans (congrArg some (congrArg ChannelRecord.committed csr)), hrole.2.2, fun r me hr hid hu => ?_⟩
      have told_ := (dissenting_told (s := bothMarked told) (repair ▸ hr) (mgmt ▸ hid) ((up r.link).trans hu)) ▸ sent r.link
      rw [show framesOf (bothMarked told) r.link = framesOf s r.link from frames r.link] at told_
      have mem_ := mem_drop_of_prefix told_
      cases hl : r.link <;> rw [hl] at mem_ <;> exact mem_
  · intro s hg ho hw agrees role r rolling out heldTo
    refine ⟨fun vo oo he => ⟨fun undecided => ?_, fun v h0 h1 hv a0 a1 hn => ?_⟩,
      fun hb => ⟨fun undecided => ?_, fun v h0 h1 hv a0 a1 hn => ?_⟩⟩
    · have run := exec_undecided hg ho hw agrees undecided
      rw [noMajority_rolls (s := markPeers none s) role (by simp [JournalUnit.broken, markPeers, vo, oo])
        (by simp only [JournalUnit.entries, markPeers]; omega)] at run
      refine ⟨_, run, ⟨rfl, rfl, rfl, rfl, rfl, rfl, rfl⟩, rfl, rfl, rfl, ?_⟩
      rw [← absentPeers_undecided]
      exact evAfter_of _ _ _ _ _ _ rfl rfl rfl rfl
    · have run := exec_dissents hg ho hw agrees hv a0 a1 hn
      rw [dissented_rolls _ _ _ (s := markPeers (some v) s) (by simp [JournalUnit.broken, markPeers, vo, oo])
        (by simp only [JournalUnit.entries, markPeers]; omega), dissenting_quiet (s := markPeers (some v) s) role,
        handStateChange, hand_as_evAfter, handAt_eq] at run
      refine ⟨_, freshJoiner false, run, ⟨rfl, rfl, rfl, rfl, rfl, rfl, rfl⟩, rfl, rfl, rfl, rfl, rfl, rfl, rfl, ?_⟩
      exact evAfter_of _ _ _ _ _ _ rfl rfl rfl (evAfter_of _ _ _ _ _ _ rfl rfl rfl rfl)
    · have broken : s.jnl.broken = true := by simpa [JournalUnit.broken] using hb
      obtain ⟨u, halts, committed, mem, undone, -⟩ := noMajority_halts (s := markPeers none s) role broken
      have run := exec_undecided hg ho hw agrees undecided
      rw [halts] at run
      obtain ⟨csr, jnl, sig, -, -, -, latch, kept, -⟩ := enterHalted_halted .noMajority u
      refine ⟨_, run, ?_⟩
      generalize enterHalted .noMajority u = t at *
      exact ⟨by rw [clearVote, csr]; rfl, by rw [clearVote, csr]; exact committed, by rw [clearVote, csr]; exact committed,
        haltedRecord_agrees csr, sig.1, by rw [clearVote, jnl]; rfl, by rw [clearVote, jnl], by rw [clearVote, jnl]; exact undone,
        kept.1.trans mem, latch.1⟩
    · have broken : s.jnl.broken = true := by simpa [JournalUnit.broken] using hb
      have run := exec_dissents hg ho hw agrees hv a0 a1 hn
      have left := dissented_broken s.csr.state (wordOf s.vote.record.snapshot) s.vote.record.cycle (s := markPeers (some v) s) broken
      generalize dissented _ _ _ _ = t at *
      obtain ⟨state, counter, entries, rolls, mem, hrole, sig⟩ := left
      exact ⟨clearVote t, _, run, state, counter, entries, rolls, mem, hrole, rfl, rfl, sig⟩
  · intro s r me hg ho hw agrees hr hid hu parted asAfter
    -- The part with the role ended goes on to the same outcome.
    have ended (csr : ChannelRecord) : (parted csr).arb.grant = none ∧ (parted csr).vote.record = s.vote.record ∧
        (parted csr).csr = s.csr ∧ (parted csr).repair.role = .none ∧ (parted csr).repair.r = [] := by
      rw [show parted csr = sourceParted r me csr s from rfl, sourceParted_eq]
      simp only [sentUp_keeps, voteWith_record]
      exact ⟨hg, trivial, trivial, trivial, trivial⟩
    have after {csr : ChannelRecord} {x : Option Nat} {t : State} (run : exec .voteWindowExpiry s = .next (settle (clearVote t)))
        (urun : exec .voteWindowExpiry (parted csr) = .next (settle (clearVote t))) (goes : GoesOn (markPeers x (parted csr)) t) :
        asAfter (parted csr) :=
      ⟨run.trans urun.symm, clearVote t, run, goes.told r.link, goes.map.trans (ended csr).2.2.2.2, goes.role⟩
    refine ⟨fun v h0 h1 hv a0 a1 hn => ?_, fun undecided => ?_⟩
    · obtain ⟨ug, ur, ucsr, urole, -⟩ := ended (outRecord s)
      have urun := exec_dissents ug (ur ▸ ho) (ur ▸ hw) ((recordUpset_congr ucsr).trans agrees) hv (by rw [ur]; exact a0)
        (by rw [ur]; exact a1) (by rw [ur]; exact hn)
      rw [ucsr, ur] at urun
      have same : dissented s.csr.state (wordOf s.vote.record.snapshot) s.vote.record.cycle (markPeers (some v) s) =
          dissented s.csr.state (wordOf s.vote.record.snapshot) s.vote.record.cycle (markPeers (some v) (parted (outRecord s))) := by
        simp only [dissented, dissenting_parted hr hid hu (some v)]
        rfl
      exact after (same ▸ exec_dissents hg ho hw agrees hv a0 a1 hn) urun (.dissented _ _ _ (by simp [markPeers, urole]))
    · obtain ⟨ug, ur, ucsr, urole, umap⟩ := ended s.csr
      have urun := exec_undecided ug (ur ▸ ho) (ur ▸ hw) ((recordUpset_congr ucsr).trans agrees) (ur ▸ undecided)
      have same : noMajority (markPeers none s) = noMajority (markPeers none (parted s.csr)) := undecided_parted hr hid hu none
      exact after (same ▸ exec_undecided hg ho hw agrees undecided) urun (.noMajority urole umap)

end Sys2Proof.Machine
end

section
/-! A mark that is taken: the vote opened, SIGN sent, a source's count (R115, R126, R160 to R163). -/

namespace Sys2Proof.Machine
-- One proof after the other: side by side they pass the memory that the check allows.
set_option Elab.async false

/-- The vote opened by a mark, before its SIGN. -/
def opened (s : State) : State :=
  { s with
    csr := { s.csr with counter := s.csr.counter + 1, counterInv := ~~~ (s.csr.counter + 1) }
    jnl := { s.jnl with
      votingCount := s.jnl.openCount, votingOver := s.jnl.openOver, boundary := s.jnl.tail, openCount := 0
      openOver := false, votingPresent := true }
    repair := { s.repair with dv := s.repair.dO, dO := [] }
    port := { s.port with refusalReported := false }
    vote := { s.vote with
      skewReported := false, peer0 := { s.vote.peer0 with slot := none }, peer1 := { s.vote.peer1 with slot := none }
      record := openRecord (s.csr.counter + 1) s } }

theorem openMark_eq (s : State) : openMark s = countMark (sendSign (opened s)) := by
  have moves : ¬ (s.csr.counter + 1 = s.csr.counter) := by
    intro h
    have := congrArg BitVec.toNat h
    rw [BitVec.toNat_add] at this
    have := s.csr.counter.isLt
    simp at *
  simp only [openMark, setCounter_eq, openCycle, if_neg moves]
  rfl

/-- The SIGN of the vote that is open. -/
def signOf (s : State) : Payload :=
  .sign s.vote.record.cycle s.csr.committed (some s.csr.state) (wordOf s.vote.record.snapshot)

/-- A link that is UP has its beat timer started by a frame. -/
def linkBeats (l : LinkId) (s : State) : Link :=
  if linkSends s l = true then { getLink s l with beatTimer := some s.mgmt.params.beat } else getLink s l

theorem send_beats (l : LinkId) {pl : Payload} (s : State) (hk : pl.kind ≠ .hail) :
    send l pl s = linkActs l (linkBeats l s) (framesSent s l pl) s := by
  rw [send_acts _ _ hk, linkBeats]
  split <;> rfl

theorem sendSign_eq (s : State) : sendSign s = { s with
    link1 := linkBeats .link1 s, link2 := linkBeats .link2 s
    out := { s.out with
      tx1 := s.out.tx1 ++ framesSent s .link1 (signOf s), tx2 := s.out.tx2 ++ framesSent s .link2 (signOf s) } } := by
  have sign : (signOf s).kind ≠ .hail := by simp [signOf, Payload.kind]
  have first : sendSign s = send .link2 (signOf s) (send .link1 (signOf s) s) := rfl
  rw [first, send_beats .link1 s sign, send_beats .link2 _ sign]
  rfl

/-! ### Which SIGNs are still to come -/

theorem expected_eq (x : Peer) : x.expected = decide (x.state = some .voting ∨ x.state = some .sealed) :=
  (Bool.decide_or _ _).symm

theorem parkedArrival_eq (n : Cycle) (x : Peer) : parkedArrival n x = (match x.slot with
    | some p => if decide (x.state = some .voting ∨ x.state = some .sealed) = true ∧ p.cycle = n then some (p.signature, p.arrival)
      else none
    | none => none) := by
  unfold parkedArrival
  cases x.slot with
  | none => rfl
  | some p => simp only [expected_eq, Bool.and_eq_true, decide_eq_true_eq]

theorem openRecord_complete (n : Cycle) (s : State) : (openRecord n s).complete = true ↔
    (s.vote.peer0.expected = true → parkedArrival n s.vote.peer0 ≠ none) ∧
    (s.vote.peer1.expected = true → parkedArrival n s.vote.peer1 ≠ none) := by
  have one (b : Bool) (a : Option (Nat × Arrival)) : (!b || a.isSome) = true ↔ (b = true → a ≠ none) := by
    cases b <;> cases a <;> simp
  rw [VoteRecord.complete, Bool.and_eq_true]
  exact and_congr (one _ _) (one _ _)

/-! ### The mark that is taken -/

section
variable {s : State} (hst : s.csr.state = .sealed ∨ s.csr.state = .voting) (agrees : copiesAgree s)
  (ho : s.vote.record.isOpen = false) (hroll : s.jnl.rb.rolling = false)
include hst agrees ho hroll

theorem exec_markTaken (hg : s.arb.grant ≠ some .processor) (hc : inCatchup s = false) :
    exec .cycleMark s = .next (during resolveIfComplete (during openMark s)) := by
  have marking : s.csr.state.marking = true := by rcases hst with h | h <;> rw [h] <;> rfl
  rw [exec_cycleMark hg (by simp [markHold, Hold.any, ho, hc, rolling, hroll]), markDuring,
    show recordUpset s = none from agrees]
  simp only [marking, if_true]

/-- A mark for which a SIGN is still to come, with no source role held, only opens the vote. -/
theorem exec_markOpens (hg : s.arb.grant ≠ some .processor) (hr : ∀ r, s.repair.role ≠ .source r)
    (hn : (openRecord (s.csr.counter + 1) s).complete = false) : exec .cycleMark s = .next (sendSign (opened s)) := by
  have opens : openMark s = sendSign (opened s) := by
    rw [openMark_eq]
    unfold countMark
    split
    · rename_i r h
      exact absurd (by simpa [opened] using h) (hr r)
    · rfl
  have calm : during openMark s = sendSign (opened s) := by
    rw [← opens]
    refine during_undisturbed _ _ ?_
    rw [opens]
    simp [disturbs, ho, opened]
  have waits : resolveIfComplete (sendSign (opened s)) = sendSign (opened s) :=
    resolveIfComplete_waits (by simpa [opened] using hn)
  rw [exec_markTaken hst agrees ho hroll hg ?_, calm, during_undisturbed, waits]
  · rw [waits]
    exact disturbs_of_kept rfl rfl rfl
  · unfold inCatchup
    split
    · exact absurd ‹_› (hr _)
    · rfl

/-- With no grant under way a mark opens the vote, which is resolved when no SIGN is to come. -/
theorem exec_markAlone (hg : s.arb.grant = none) (hc : inCatchup s = false) :
    exec .cycleMark s = .next (resolveIfComplete (countMark (sendSign (opened s)))) := by
  have still : (openMark s).arb.grant = none := by simpa using hg
  rw [exec_markTaken hst agrees ho hroll (by simp [hg]) hc, during_none _ _ hg, during_none _ _ still, openMark_eq]

end

end Sys2Proof.Machine
end

section
/-! What a source counts at a mark, and the mark settled (R115, R160 to R163). -/

namespace Sys2Proof.Machine
-- One proof after the other: side by side they pass the memory that the check allows.
set_option Elab.async false

/-- A source role that has counted a mark. -/
def SourceRole.counted (r : SourceRole) : SourceRole := { r with cycles := r.cycles + 1 }

/-- A source role that has begun catch-up at a mark. -/
def SourceRole.caught (r : SourceRole) (s : State) : SourceRole :=
  { r.counted with
    phase := .catchup, closeCycle := s.vote.record.cycle, target := s.vote.record.snapshot
    catchupTimer := some s.mgmt.params.catchupLimit }

/-- A role changes no link. -/
theorem getLink_role (s : State) (x : Role) (l : LinkId) : getLink { s with repair := { s.repair with role := x } } l = getLink s l := by
  cases l <;> rfl

section
variable {s : State} {r : SourceRole}

theorem countMark_quiet (h : ∀ r, s.repair.role ≠ .source r) : countMark s = s := by
  unfold countMark
  split
  · exact absurd ‹_› (h _)
  · rfl

variable (hr : s.repair.role = .source r)
include hr

theorem countMark_awaits (hp : r.phase ≠ .pass) : countMark s = s := by
  simp only [countMark, hr, if_neg hp]

theorem countMark_eq (hp : r.phase = .pass) : countMark s =
    if s.mgmt.params.repairCycleLimit < r.cycles + 1 then
      abortSource .noConverge true { s with repair.role := .source r.counted }
    else if s.repair.r.length ≤ s.mgmt.params.catchupLines then closeIfDone { s with repair.role := .source (r.caught s) }
    else { s with repair.role := .source r.counted } := by
  simp only [countMark, hr, if_pos hp]
  rfl

/-- Beyond REPAIR-CYCLE-LIMIT the source gives up. -/
theorem countMark_gives_up {me : Identity} (hp : r.phase = .pass) (hl : s.mgmt.params.repairCycleLimit < r.cycles + 1)
    (hid : s.mgmt.params.channelId = some me) (hu : (getLink s r.link).status = .up) :
    let u : State := { s with repair := { s.repair with role := .none } }
    countMark s = { setRelation r.joiner none (sentUp r.link (ownFrame me (.abort .noConverge)) u) with
      repair := { s.repair with role := .none, r := [] }
      ev := evAfter .repair 7 (.peer r.joiner) (wordOf r.linesSent) u } := by
  intro u
  rw [countMark_eq hr hp, if_pos hl, abortSource_told .noConverge (s := { s with repair.role := .source r.counted }) (r := r.counted)
    (me := me) rfl hid ((getLink_role s _ r.link).symm ▸ hu), sourceEnded_eq, setRelation_eq]
  refine State.ext_ev ?_ (evAfter_of _ _ _ _ _ _ (by simp [u]) (by simp [u]) (by simp [u]) (by simp [u]))
  simp only [sentUp_keeps, show r.counted.link = r.link from rfl, show r.counted.joiner = r.joiner from rfl]
  cases r.link <;> rfl

theorem countMark_counts (hp : r.phase = .pass) (hl : ¬ s.mgmt.params.repairCycleLimit < r.cycles + 1)
    (hm : ¬ s.repair.r.length ≤ s.mgmt.params.catchupLines) : countMark s = { s with repair.role := .source r.counted } := by
  rw [countMark_eq hr hp, if_neg hl, if_neg hm]

theorem countMark_catches (hp : r.phase = .pass) (hl : ¬ s.mgmt.params.repairCycleLimit < r.cycles + 1)
    (hm : s.repair.r.length ≤ s.mgmt.params.catchupLines) :
    countMark s = closeIfDone { s with repair.role := .source (r.caught s) } := by
  rw [countMark_eq hr hp, if_neg hl, if_pos hm]

end

theorem inCatchup_quiet {s : State} (h : ∀ r, s.repair.role ≠ .source r) : inCatchup s = false := by
  unfold inCatchup
  split
  · exact absurd ‹_› (h _)
  · rfl

theorem resolves_complete {s : State} (ho : s.vote.record.isOpen = true) (hc : s.vote.record.complete = true) :
    resolveIfComplete s = resolveVote s := if_pos (by rw [ho, hc]; rfl)

/-- The mark opened with no role held, beside the mark opened. -/
theorem sendSign_opened_role (s : State) (x : Role) :
    sendSign (opened { s with repair.role := x }) = { sendSign (opened s) with repair.role := x } := by
  rw [sendSign_eq, sendSign_eq]
  rfl

section
variable {s : State} {l : LinkId}

theorem linkSends_iff : linkSends s l = true ↔ (getLink s l).status = .up ∧ s.mgmt.params.channelId ≠ none := by
  rw [linkSends, Bool.and_eq_true, decide_eq_true_eq, Option.isSome_iff_ne_none]

theorem framesSent_named {me : Identity} {pl : Payload} (hid : s.mgmt.params.channelId = some me) :
    framesSent s l pl = if (getLink s l).status = .up then [ownFrame me pl] else [] := by
  simp only [framesSent, hid, linkSends, Option.isSome_some, Bool.and_true, decide_eq_true_eq]

/-- The opened vote changes nothing of a link. -/
theorem framesSent_opened (pl : Payload) : framesSent (opened s) l pl = framesSent s l pl := by cases l <;> rfl

theorem linkBeats_opened : linkBeats l (opened s) = linkBeats l s := by cases l <;> rfl

theorem linkBeats_up (h : (getLink s l).status = .up ∧ s.mgmt.params.channelId ≠ none) :
    linkBeats l s = { getLink s l with beatTimer := some s.mgmt.params.beat } := if_pos (linkSends_iff.mpr h)

theorem linkBeats_still (h : ¬ ((getLink s l).status = .up ∧ s.mgmt.params.channelId ≠ none)) :
    linkBeats l s = getLink s l := if_neg fun sends => h (linkSends_iff.mp sends)

end

theorem sendSign_opened_status {s : State} (l : LinkId) : (getLink (sendSign (opened s)) l).status = (getLink s l).status := by
  rw [sendSign_eq]
  cases l
  all_goals
    simp only [getLink, linkBeats]
    split <;> rfl

theorem parkedArrival_awaited {n : Cycle} {x : Peer} (h : ∀ p, x.slot = some p → p.cycle ≠ n) : parkedArrival n x = none := by
  unfold parkedArrival
  cases hx : x.slot with
  | none => rfl
  | some p => exact if_neg (by simp [h p hx])

theorem countMark_keeps_record (s : State) : (countMark s).vote.record = s.vote.record := by simp

/-! ### A vote unit mended beside what a source counts -/

/-- A change of the vote unit that a source's count does not see. -/
structure Unseen (f : VoteUnit → VoteUnit) : Prop where
  cycle : ∀ v, (f v).record.cycle = v.record.cycle
  snapshot : ∀ v, (f v).record.snapshot = v.record.snapshot
  relation : ∀ me x rel v, voteWith me x (fun y => { y with relation := rel }) (f v) =
    f (voteWith me x (fun y => { y with relation := rel }) v)

theorem send_vote (l : LinkId) {pl : Payload} (hk : pl.kind ≠ .hail) (v : VoteUnit) (s : State) :
    send l pl { s with vote := v } = { send l pl s with vote := v } := by
  rw [send_beats _ _ hk, send_beats _ _ hk]
  cases l <;> rfl

section
variable {f : VoteUnit → VoteUnit} (unseen : Unseen f) {s : State} {r : SourceRole} (hr : s.repair.role = .source r)
include unseen

theorem sendClose_mended (q : SourceRole) (c : Cycle) (target : Nat) : sendClose q c target { s with vote := f s.vote } =
    { sendClose q c target s with vote := f (sendClose q c target s).vote } := by
  have kind : (Payload.close c (BitVec.ofNat 32 q.linesSent) (wordOf target)).kind ≠ .hail := by simp [Payload.kind]
  simp only [sendClose, setRelation_eq]
  rw [send_vote _ kind]
  simp only [send_keeps, unseen.relation]

include hr

theorem abortSource_mended (why : AbortReason) : abortSource why true { s with vote := f s.vote } =
    { abortSource why true s with vote := f (abortSource why true s).vote } := by
  have acts (u : State) (hu : u.repair.role = .source r) :
      abortSource why true u = sourceEnded r (3 + why.code) (send r.link (.abort why) u) := by
    simp only [abortSource, hu, if_true]
    exact sourceEnded_of r _ _
  rw [acts s hr, acts { s with vote := f s.vote } hr, sourceEnded_eq, sourceEnded_eq, send_vote _ (by simp [Payload.kind])]
  refine State.ext_ev ?_ (evAfter_of _ _ _ _ _ _ rfl rfl rfl rfl)
  simp only [send_keeps, unseen.relation]

theorem closeIfDone_mended (hp : r.phase = .catchup) : closeIfDone { s with vote := f s.vote } =
    { closeIfDone s with vote := f (closeIfDone s).vote } := by
  simp only [closeIfDone, hr, hp]
  split
  · exact sendClose_mended unseen _ _ _
  · rfl

theorem countMark_mended : countMark { s with vote := f s.vote } = { countMark s with vote := f (countMark s).vote } := by
  by_cases hp : r.phase = .pass
  · rw [countMark_eq hr hp, countMark_eq (s := { s with vote := f s.vote }) hr hp]
    have caught : r.caught { s with vote := f s.vote } = r.caught s := by
      simp only [SourceRole.caught, unseen.cycle, unseen.snapshot]
    rw [caught]
    dsimp only
    split
    · exact abortSource_mended (s := { s with repair.role := .source r.counted }) unseen rfl _
    · split
      · exact closeIfDone_mended (s := { s with repair.role := .source (r.caught s) }) unseen rfl rfl
      · rfl
  · rw [countMark_awaits hr hp, countMark_awaits (s := { s with vote := f s.vote }) hr hp]

end

/-- The first peer's state, and what the vote expects of it and has of it. -/
def mendFirst (st : Option ChannelState) (expected : Bool) (arrival : Option (Nat × Arrival)) (v : VoteUnit) : VoteUnit :=
  { v with
    peer0 := { v.peer0 with state := st }, record := { v.record with expected0 := expected, arrival0 := arrival } }

theorem mendFirst_unseen (st : Option ChannelState) (expected : Bool) (arrival : Option (Nat × Arrival)) :
    Unseen (mendFirst st expected arrival) where
  cycle _ := rfl
  snapshot _ := rfl
  relation me x rel v := by
    simp only [voteWith, mendFirst]
    cases otherIds me with
    | none => rfl
    | some p =>
      obtain ⟨a, b⟩ := p
      by_cases xa : x = a
      · simp [xa]
      · by_cases xb : x = b
        · simp [xb, xb ▸ xa]
        · simp [xa, xb]

end Sys2Proof.Machine
end

section
/-! The mark that is taken, assembled (R115, R126, R160 to R163). -/

namespace Sys2Proof.Machine
-- One proof after the other: side by side they pass the memory that the check allows.
set_option Elab.async false

/-- Settles O30: the vote that a mark opens, the vote that it resolves at once, and what a source counts. -/
theorem takenMarkOpensTheVote : Obligations.TakenMarkOpensTheVote := by
  refine ⟨?_, ?_, ?_, ?_⟩
  · intro s hst agrees hg ho hroll hr n expects parked hw sent up
    have incomplete : (openRecord (s.csr.counter + 1) s).complete = false := by
      rw [← Bool.not_eq_true, openRecord_complete, parkedArrival_eq, parkedArrival_eq, expected_eq, expected_eq]
      rintro ⟨h0, h1⟩
      exact hw.elim (fun h => h0 h.1 h.2) fun h => h1 h.1 h.2
    refine ⟨_, exec_markOpens hst agrees ho hroll hg hr incomplete, ?_, by simp [opened], fun me hid => ?_, ?_, ?_, ?_, ?_⟩
    · rw [sendSign_eq]
      simp only [opened, openRecord, expected_eq, parkedArrival_eq]
      rfl
    · rw [sendSign_eq]
      have frames (l : LinkId) : framesSent (opened s) l (signOf (opened s)) = if (getLink s l).status = .up then [sent me] else [] := by
        rw [framesSent_opened, framesSent_named hid]
        rfl
      exact ⟨congrArg (s.out.tx1 ++ ·) (frames .link1), congrArg (s.out.tx2 ++ ·) (frames .link2)⟩
    all_goals
      intro hup
      rw [sendSign_eq]
    · exact linkBeats_opened.trans (linkBeats_up (l := .link1) hup)
    · exact linkBeats_opened.trans (linkBeats_still (l := .link1) hup)
    · exact linkBeats_opened.trans (linkBeats_up (l := .link2) hup)
    · exact linkBeats_opened.trans (linkBeats_still (l := .link2) hup)
  · intro s hst agrees hg ho hroll hr hh n expects parked h0 h1 sent up
    have complete : (openRecord (s.csr.counter + 1) s).complete = true := by
      rw [openRecord_complete, parkedArrival_eq, parkedArrival_eq, expected_eq, expected_eq]
      exact ⟨h0, h1⟩
    have run : exec .cycleMark s = .next (resolveVote (sendSign (opened s))) := by
      rw [exec_markAlone hst agrees ho hroll hg (inCatchup_quiet hr), countMark_quiet (by simpa [opened] using hr),
        resolves_complete (by simp [opened, openRecord]) (by simpa [opened] using complete)]
    have frames (l : LinkId) : framesSent (opened s) l (signOf (opened s)) = if up (getLink s l) = true then sent else [] := by
      rw [framesSent_opened, show up (getLink s l) = linkSends s l from rfl, framesSent]
      by_cases hs : linkSends s l = true
      · simp only [if_pos hs]
        rfl
      · simp only [if_neg hs]
        split <;> rfl
    have same : sendSign (opened s) = _ := sendSign_eq (opened s)
    rw [frames .link1, frames .link2] at same
    have expiry : exec .voteWindowExpiry (sendSign (opened s)) = .next (resolveVote (sendSign (opened s))) := by
      rw [exec_voteWindowExpiry (by simpa [opened] using hg) (by simp [opened, openRecord]) (by simp [opened, openRecord]),
        settle_none _ (by simpa [opened] using hh)]
    refine ⟨_, run, Eq.trans (congrArg _ ?_) expiry⟩
    rw [same]
    simp only [opened, openRecord, expected_eq, parkedArrival_eq]
    rfl
  · intro s r me hst agrees hg ho hroll hr hid hu n waitsFor hw
    have incomplete : (openRecord (s.csr.counter + 1) s).complete = false := by
      rw [← Bool.not_eq_true, openRecord_complete]
      rintro ⟨h0, h1⟩
      exact hw.elim (fun h => h0 (by simpa [expected_eq] using h.1) (parkedArrival_awaited h.2))
        fun h => h1 (by simpa [expected_eq] using h.1) (parkedArrival_awaited h.2)
    have alone : exec .cycleMark { s with repair.role := .none } =
        .next { sendSign (opened s) with repair := { (sendSign (opened s)).repair with role := .none } } := by
      rw [exec_markOpens (s := { s with repair.role := .none }) hst agrees ho hroll (by simp [hg]) (by simp) incomplete,
        sendSign_opened_role]
    refine ⟨_, alone, ?_⟩
    intro counted caught
    have role : (sendSign (opened s)).repair.role = .source r := by simpa [opened] using hr
    have up : (getLink (sendSign (opened s)) r.link).status = .up := (sendSign_opened_status r.link).trans hu
    have mgmt : (sendSign (opened s)).mgmt = s.mgmt := by simp [opened]
    have map : (sendSign (opened s)).repair.r = s.repair.r := by simp [opened]
    have record : (sendSign (opened s)).vote.record = openRecord n s := by simp [opened, n]
    have runs {v : State} (hp : r.phase ≠ .catchup) (h : countMark (sendSign (opened s)) = v) : exec .cycleMark s = .next v := by
      rw [exec_markAlone hst agrees ho hroll hg (by simp [inCatchup, hr, hp]), resolveIfComplete_waits, h]
      rw [countMark_keeps_record, record]
      exact incomplete
    generalize sendSign (opened s) = t at *
    refine ⟨fun hp => runs (by simp [hp]) ?_, fun hp hl => runs (by simp [hp]) ?_, fun hp hl => ⟨fun hmany => runs (by simp [hp]) ?_,
      fun hfew hsome => runs (by simp [hp]) ?_, fun hnone hcap => runs (by simp [hp]) ?_⟩⟩
    · rw [countMark_awaits role (by simp [hp]), ← role]
    · exact countMark_gives_up role hp (by rw [mgmt]; omega) (by rw [mgmt]; exact hid) up
    · exact countMark_counts role hp (by rw [mgmt]; omega) (by rw [mgmt, map]; omega)
    · rw [countMark_catches role hp (by rw [mgmt]; omega) (by rw [mgmt, map]; omega), closeIfDone_waits rfl]
      · simp only [SourceRole.caught, record, mgmt]
        rfl
      · rcases hsome with h | h
        · exact .inl (by simpa [map] using h)
        · exact .inr (.inl h)
    · rw [countMark_catches role hp (by rw [mgmt]; omega) (by simp [map, hnone]),
        closeIfDone_catchup (r := r.caught t) rfl (by simpa [map] using hnone) hcap rfl,
        sendClose_up (me := me) (by rw [← hid, ← mgmt]) ((getLink_role t _ r.link).symm ▸ up)]
      simp only [setRelation_eq, sentUp_keeps, SourceRole.caught, SourceRole.counted, record, mgmt]
      cases r.link <;> rfl
  · intro s r hst agrees hg ho hroll hh hr hp n expects parked h0 h1
    have complete : (openRecord (s.csr.counter + 1) s).complete = true := by
      rw [openRecord_complete, parkedArrival_eq, parkedArrival_eq, expected_eq, expected_eq]
      exact ⟨h0, h1⟩
    set a : State := { s with vote.peer0.state := some .voting, vote.peer0.slot := none } with ha
    have awaited : (openRecord (a.csr.counter + 1) a).complete = false := by
      rw [← Bool.not_eq_true, openRecord_complete]
      exact fun ⟨h, _⟩ => h (by simp [ha, Peer.expected]) (by simp [ha, parkedArrival])
    have calm (t : State) (ht : t.repair = s.repair) : inCatchup t = false := by simp [inCatchup, ht, hr, hp]
    have alone : exec .cycleMark a = .next (countMark (sendSign (opened a))) := by
      rw [exec_markAlone (s := a) hst agrees ho hroll hg (calm a rfl), resolveIfComplete_waits]
      rw [countMark_keeps_record]
      simpa [opened] using awaited
    have mended : sendSign (opened s) = { sendSign (opened a) with
        vote := mendFirst s.vote.peer0.state (expects s.vote.peer0) (parked s.vote.peer0) (sendSign (opened a)).vote } := by
      rw [sendSign_eq, sendSign_eq]
      simp only [opened, openRecord, expected_eq, parkedArrival_eq, mendFirst, ha]
      rfl
    have run : exec .cycleMark s = .next (resolveVote (countMark (sendSign (opened s)))) := by
      rw [exec_markAlone hst agrees ho hroll hg (calm s rfl), resolves_complete] <;>
        simp [opened]
      · simp [openRecord]
      · exact complete
    refine ⟨_, alone, run.trans ?_⟩
    rw [mended, countMark_mended (mendFirst_unseen _ _ _) (r := r) (by simpa [opened] using hr)]
    have kept : (countMark (sendSign (opened a))).arb.grant = none ∧ (countMark (sendSign (opened a))).port.held = none ∧
        (countMark (sendSign (opened a))).vote.record.isOpen = true ∧
        (countMark (sendSign (opened a))).vote.record.window = some s.mgmt.params.voteWindow := by
      refine ⟨by simpa [opened] using hg, by simpa [opened] using hh, ?_, ?_⟩ <;> rw [countMark_keeps_record] <;>
        simp [opened, openRecord, ha]
    obtain ⟨grant, held, isOpen, window⟩ := kept
    refine Eq.symm ((exec_voteWindowExpiry ?_ ?_ ?_).trans ?_)
    · exact grant
    · exact isOpen
    · exact fun h => Option.some_ne_none _ (window.symm.trans h)
    · rw [settle_none _ (by rw [(resolveVote_keeps _).2.1]; exact held)]
      rfl

end Sys2Proof.Machine
end

section
/-! The rebuild walk: the sum of one line, whatever its words (R70, R73, R74, R77). -/

namespace Sys2Proof.Machine
-- One proof after the other: side by side they pass the memory that the check allows.
set_option Elab.async false

/-! ### The words of a line with one that cannot be read -/

/-- The words of a list of reads are CLEAN. -/
def AllClean (rs : List (Nat × ReadOutcome)) : Prop := ∀ x ∈ rs, ∃ v, x.2 = .clean v

theorem badWords_clean {rs : List (Nat × ReadOutcome)} (h : AllClean rs) : badWords rs = [] := by
  induction rs with
  | nil => rfl
  | cons x rs ih =>
    obtain ⟨a, o⟩ := x
    obtain ⟨v, rfl⟩ := h _ List.mem_cons_self
    exact ih fun y hy => h y (List.mem_cons_of_mem _ hy)

theorem badWords_append (xs ys : List (Nat × ReadOutcome)) : badWords (xs ++ ys) = badWords xs ++ badWords ys := by
  induction xs with
  | nil => rfl
  | cons x xs ih =>
    obtain ⟨a, o⟩ := x
    cases o with
    | clean v => exact ih
    | corrected v => exact ih
    | uncorrectable raw => exact congrArg (a :: ·) ih

theorem met_append (by_ : ReadBy) (xs ys : List (Nat × ReadOutcome)) (s : State) :
    met by_ (xs ++ ys) s = met by_ ys (met by_ xs s) := by
  induction xs generalizing s with
  | nil => rfl
  | cons x xs ih =>
    obtain ⟨a, o⟩ := x
    cases o with
    | clean v => exact ih _
    | corrected v => exact ih _
    | uncorrectable raw => exact ih _

/-- A line whose one word `a` cannot be read, between words that are CLEAN. -/
structure OneBad (a : Nat) (raw : Word) (rs : List (Nat × ReadOutcome)) (pre post : List (Nat × ReadOutcome)) : Prop where
  split : rs = pre ++ (a, .uncorrectable raw) :: post
  before : AllClean pre
  behind : AllClean post

theorem outcomesAt_oneBad {s : State} {l k : Nat} {raw : Word} (hk : k < 256)
    (hd : decodeStored (storedAt s (l * 256 + k)) (l * 256 + k) = .uncorrectable raw)
    (hc : ∀ i, i < 256 → i ≠ k → ∃ v, decodeStored (storedAt s (l * 256 + i)) (l * 256 + i) = .clean v) :
    ∃ pre post, OneBad (l * 256 + k) raw (outcomesAt s (lineWords l)) pre post := by
  have nodup : (List.range 256).Nodup := List.nodup_range
  obtain ⟨xs, ys, e⟩ := List.append_of_mem (List.mem_range.mpr hk)
  have apart : k ∉ xs ∧ k ∉ ys := by
    rw [e, List.nodup_append, List.nodup_cons] at nodup
    obtain ⟨-, ⟨hy, -⟩, hx⟩ := nodup
    exact ⟨fun h => hx k h k List.mem_cons_self rfl, hy⟩
  have clean (zs : List Nat) (hz : ∀ i ∈ zs, i < 256 ∧ i ≠ k) :
      AllClean (zs.map fun i => (l * 256 + i, decodeStored (storedAt s (l * 256 + i)) (l * 256 + i))) := by
    intro x hx
    obtain ⟨i, hi, rfl⟩ := List.mem_map.mp hx
    exact hc i (hz i hi).1 (hz i hi).2
  have bound (i : Nat) (hi : i ∈ xs ∨ i ∈ ys) : i < 256 := by
    rw [← List.mem_range, e]
    rcases hi with h | h <;> simp [h]
  refine ⟨_, _, ?_, clean xs fun i hi => ⟨bound i (.inl hi), fun h => apart.1 (h ▸ hi)⟩,
    clean ys fun i hi => ⟨bound i (.inr hi), fun h => apart.2 (h ▸ hi)⟩⟩
  simp only [outcomesAt, lineWords, e, List.map_map, List.map_append, List.map_cons, hd]
  rfl

namespace OneBad
variable {a : Nat} {raw : Word} {rs pre post : List (Nat × ReadOutcome)} (h : OneBad a raw rs pre post)
include h

theorem bad : badWords rs = [a] := by
  rw [h.split, badWords_append, badWords_clean h.before, List.nil_append, badWords, badWords_clean h.behind]

theorem met_eq (by_ : ReadBy) (s : State) : met by_ rs s = reportUncorrectable by_ a raw s := by
  rw [h.split, met_append, met_clean by_ pre s h.before, met, met_clean by_ post _ h.behind]

end OneBad

/-! ### The sum of a line -/

/-- The hashes of the words read, one that cannot be read as zero. -/
def hashSum (k : Keys) (rs : List (Nat × ReadOutcome)) : Nat := (rs.map fun x => wordHash k x.1 (x.2.value.getD 0)).sum

theorem rebuildWords_append (o : Nat) (xs ys : List (Nat × ReadOutcome)) (s : State) :
    rebuildWords o (xs ++ ys) s = rebuildWords o ys (rebuildWords o xs s) := by
  induction xs generalizing s with
  | nil => rfl
  | cons x xs ih =>
    obtain ⟨a, r⟩ := x
    cases r with
    | clean v => exact ih _
    | corrected v => exact ih _
    | uncorrectable raw => exact ih _

/-- CLEAN words only join the accumulator. -/
theorem rebuildWords_clean (o : Nat) {rs : List (Nat × ReadOutcome)} {s : State} (h : AllClean rs) (ha : s.sig.acc < modulus) :
    rebuildWords o rs s = { s with sig := { s.sig with acc := (s.sig.acc + hashSum s.sig.committedKeys rs) % modulus } } := by
  induction rs generalizing s with
  | nil =>
    simp only [rebuildWords, hashSum, List.map_nil, List.sum_nil, Nat.add_zero, Nat.mod_eq_of_lt ha]
  | cons x rs ih =>
    obtain ⟨a, r⟩ := x
    obtain ⟨v, rfl⟩ := h _ List.mem_cons_self
    rw [rebuildWords, ih (fun y hy => h y (List.mem_cons_of_mem _ hy)) (Nat.mod_lt _ (by decide))]
    simp only [addHash, hashSum, List.map_cons, List.sum_cons, ReadOutcome.value, Option.getD_some, Nat.mod_add_mod, Nat.add_assoc]

/-- A line is never empty, so that its sum is reduced whatever the accumulator held. -/
theorem rebuildWords_line (o : Nat) {rs : List (Nat × ReadOutcome)} {s : State} (h : AllClean rs) (hn : rs ≠ []) :
    rebuildWords o rs s = { s with sig := { s.sig with acc := (s.sig.acc + hashSum s.sig.committedKeys rs) % modulus } } := by
  cases rs with
  | nil => exact absurd rfl hn
  | cons x rs =>
    obtain ⟨a, r⟩ := x
    obtain ⟨v, rfl⟩ := h _ List.mem_cons_self
    rw [rebuildWords, rebuildWords_clean o (fun y hy => h y (List.mem_cons_of_mem _ hy)) (Nat.mod_lt _ (by decide))]
    simp only [addHash, hashSum, List.map_cons, List.sum_cons, ReadOutcome.value, Option.getD_some, Nat.mod_add_mod, Nat.add_assoc]

/-- A line's ordinal joins the poisoned-lines list, or its overflow is noted. -/
theorem listPoisoned_eq (o : Nat) (s : State) : listPoisoned o s = { s with sig := { s.sig with
    poisoned := if o ∈ s.sig.poisoned ∨ 8 ≤ s.sig.poisoned.length then s.sig.poisoned else s.sig.poisoned ++ [o]
    overflow := s.sig.overflow || decide (o ∉ s.sig.poisoned ∧ 8 ≤ s.sig.poisoned.length) } } := by
  unfold listPoisoned
  by_cases hm : o ∈ s.sig.poisoned
  · simp [hm]
  · by_cases hl : s.sig.poisoned.length < Config.listDepth
    · have : ¬ 8 ≤ s.sig.poisoned.length := Nat.not_le.mpr hl
      simp [hm, hl, this]
    · have : 8 ≤ s.sig.poisoned.length := Nat.not_lt.mp hl
      simp [hm, hl, this]

/-- A word that cannot be read is stored and counted as zero, and its ordinal listed. -/
theorem OneBad.rebuildWords {a : Nat} {raw : Word} {rs pre post : List (Nat × ReadOutcome)} (h : OneBad a raw rs pre post) (o : Nat)
    {s : State} (ha : s.sig.acc < modulus) : rebuildWords o rs s = { s with
      mem := (writeWord a 0 s).mem
      sig := { (listPoisoned o s).sig with acc := (s.sig.acc + hashSum s.sig.committedKeys rs) % modulus } } := by
  rw [h.split, rebuildWords_append, rebuildWords_clean o h.before ha, Machine.rebuildWords]
  set u : State := { s with sig := { s.sig with acc := (s.sig.acc + hashSum s.sig.committedKeys pre) % modulus } } with hu
  have zero : (ReadOutcome.uncorrectable raw).value.getD (0 : Word) = 0 := rfl
  have stored : (writeWord a 0 u).mem = (writeWord a 0 s).mem := writeWord_mem_congr a 0 rfl rfl rfl
  rw [rebuildWords_clean o h.behind (by simp only [listPoisoned_eq, addHash]; exact Nat.mod_lt _ (by decide))]
  simp only [listPoisoned_eq, addHash, hashSum, List.map_append, List.map_cons, List.sum_append, List.sum_cons, zero]
  rw [writeWord_frame a 0 u, stored]
  simp only [hu, hashSum, Nat.mod_add_mod, Nat.add_assoc]

end Sys2Proof.Machine
end

section
/-! A rebuild step, a seal that completes or is aborted, and the preparation walk (R70, R73, R74, R77 to R79). -/

namespace Sys2Proof.Machine
-- One proof after the other: side by side they pass the memory that the check allows.
set_option Elab.async false

theorem classOf_regions {s t : State} (h : t.regions = s.regions) (l : Nat) : classOf t l = classOf s l := by
  simp only [classOf, regionOf, h]

section
variable {s : State} {l : Nat}

theorem exec_rebuildStep (h : runs .rebuild s) : exec .rebuildStep s = .next (rebuildBody (ungranted s)) :=
  congrArg Host.Outcome.next (runGrant_runs h)

/-- One rebuild step on the line of the cursor. -/
theorem rebuildBody_eq (hl : lineOf s.regions.committed s.sig.cursor = some l) :
    let rs := outcomesAt s (lineWords l)
    rebuildBody s = if s.sig.walk = .seal ∧ badWords rs ≠ [] then consequences .rebuild (badWords rs) (met .rebuild rs s)
      else
        let s1 := rebuildWords s.sig.cursor rs (met .rebuild rs s)
        walkDone { s1 with sig := { s1.sig with cursor := s.sig.cursor + 1 } } := by
  simp only [rebuildBody, hl, readWords_lineWords]

theorem cleanAt_getD {vs : List Word} {a : Nat} (h : cleanAt s a vs) {i : Nat} (hi : i < vs.length) :
    decodeStored (storedAt s (a + i)) (a + i) = .clean (vs.getD i 0) := by
  induction vs generalizing a i with
  | nil => exact absurd hi (Nat.not_lt_zero i)
  | cons v vs ih =>
    obtain ⟨first, rest⟩ := h
    cases i with
    | zero => exact first
    | succ i =>
      rw [show a + (i + 1) = a + 1 + i by omega]
      exact ih rest (by simpa using hi)

/-- The hashes of a line's words, by their place in it. -/
theorem hashSum_line {vs : List Word} (k : Keys)
    (h : ∀ i, i < 256 → (decodeStored (storedAt s (l * 256 + i)) (l * 256 + i)).value.getD 0 = vs.getD i 0) :
    hashSum k (outcomesAt s (lineWords l)) = ((List.range 256).map fun i => wordHash k (l * 256 + i) (vs.getD i 0)).sum := by
  simp only [hashSum, outcomesAt, lineWords, List.map_map]
  refine congrArg List.sum (List.map_congr_left fun i hi => ?_)
  exact congrArg (wordHash k (l * 256 + i)) (h i (List.mem_range.mp hi))

/-- A line of CLEAN words has joined the accumulator, and the cursor has moved. -/
def lineSummed (l : Nat) (vs : List Word) (s : State) : State :=
  { s with sig := { s.sig with
      acc := (s.sig.acc + ((List.range 256).map fun i => wordHash s.sig.committedKeys (l * 256 + i) (vs.getD i 0)).sum) % modulus
      cursor := s.sig.cursor + 1 } }

/-- A line whose words are all CLEAN is summed, and the cursor moves. -/
theorem rebuildBody_clean {vs : List Word} (hl : lineOf s.regions.committed s.sig.cursor = some l) (hv : vs.length = 256)
    (hc : cleanAt s (l * 256) vs) : rebuildBody s = walkDone (lineSummed l vs s) := by
  have word (i : Nat) (hi : i < 256) := cleanAt_getD hc (i := i) (by omega)
  have clean : AllClean (outcomesAt s (lineWords l)) := by
    intro x hx
    simp only [outcomesAt, lineWords, List.map_map, List.mem_map, List.mem_range] at hx
    obtain ⟨i, hi, rfl⟩ := hx
    exact ⟨_, word i hi⟩
  rw [rebuildBody_eq hl, if_neg (by simp [badWords_clean clean]), met_clean _ _ _ clean,
    rebuildWords_line _ clean (by simp [outcomesAt, lineWords]), hashSum_line _ fun i hi => by rw [word i hi]; rfl]
  rfl

theorem walkDone_goesOn (h : s.sig.cursor < numVital s) : walkDone s = s := if_pos h

/-- The state that a seal walk leaves, before its two records. -/
def sealedState (s : State) : State :=
  { s with
    csr := { state := .sealed, counter := 0, committed := 0, c := s.sig.acc, stateInv := ~~~ (4 : BitVec 8), counterInv := ~~~ 0
             committedInv := ~~~ 0, cInv := ~~~ wordOf s.sig.acc }
    sig := { s.sig with s := s.sig.acc, valid := true, walk := .idle, cursor := 0, acc := 0 }
    jnl := { JournalUnit.reset with rb := s.jnl.rb }
    vote := voteFallen 0 s
    repair := { s.repair with dc := [], dv := [], dO := [], dcValid := false } }

theorem walkDone_seals (hw : s.sig.walk = .seal) (h : numVital s ≤ s.sig.cursor) : walkDone s =
    { sealedState s with
      ev := evAfter .commandDone 1 (.command 9) (wordOf s.sig.acc) { sealedState s with
        ev := evAfter .stateChange 3 (.channelState s.csr.state) 0 (sealedState s) } } := by
  have sealed : stopWalk (clearDirty (emptySlots (emptyJournal (setCommitted 0 (setCounter 0
      (setC s.sig.acc { s with sig := { s.sig with s := s.sig.acc, valid := true } })))))) =
      { sealedState s with csr := { (sealedState s).csr with state := s.csr.state, stateInv := s.csr.stateInv } } := by
    have fell := fallen_eq 0 (setC s.sig.acc { s with sig := { s.sig with s := s.sig.acc, valid := true } })
    have order (u : State) : emptySlots (emptyJournal (setCommitted 0 u)) = emptyJournal (setCommitted 0 (emptySlots u)) := rfl
    rw [order, fell]
    rfl
  have completes : walkDone s = sealComplete s := by simp only [walkDone, if_neg (Nat.not_lt.mpr h), hw]
  simp only [completes, sealComplete]
  rw [sealed, changeState_eq, hand_as_evAfter]
  rfl

/-- A line with one vital word that cannot be read. -/
theorem rebuildBody_bad {a : Nat} {raw : Word} {pre post : List (Nat × ReadOutcome)}
    (hl : lineOf s.regions.committed s.sig.cursor = some l) (h : OneBad a raw (outcomesAt s (lineWords l)) pre post) :
    (s.sig.walk = .seal → rebuildBody s = consequences .rebuild [a] (reportUncorrectable .rebuild a raw s)) ∧
    (s.sig.walk = .preparation → rebuildBody s =
      let s1 := rebuildWords s.sig.cursor (outcomesAt s (lineWords l)) (reportUncorrectable .rebuild a raw s)
      walkDone { s1 with sig := { s1.sig with cursor := s.sig.cursor + 1 } }) := by
  refine ⟨fun hw => ?_, fun hw => ?_⟩
  · rw [rebuildBody_eq hl, h.bad, h.met_eq, if_pos ⟨hw, by simp⟩]
  · rw [rebuildBody_eq hl, h.met_eq, if_neg (by simp [hw])]

/-- The base and the need list by the rollback's result (step 4 of R152). -/
theorem baseFor_eq (j : JoinerRole) (s : State) : baseFor j s =
    (if j.forcedFull = false ∧ j.baseLost = false ∧
        (j.result = some .complete ∨ (j.result = some .unsigned ∧ s.sig.overflow = false)) then some s.csr.committed else none,
      if (j.forcedFull = false ∧ j.baseLost = false ∧
        (j.result = some .complete ∨ (j.result = some .unsigned ∧ s.sig.overflow = false))) ∧ j.result = some .unsigned
        then s.sig.poisoned else []) := by
  unfold baseFor
  cases hf : j.forcedFull <;> cases hb : j.baseLost <;> simp
  cases hr : j.result with
  | none => simp
  | some r => cases r <;> cases ho : s.sig.overflow <;> simp

/-- What the last step of a preparation walk settles for the joiner. -/
theorem walkDone_prepares {j : JoinerRole} {me x y : Identity} {k : LinkId} (hw : s.sig.walk = .preparation)
    (h : numVital s ≤ s.sig.cursor) (hr : s.repair.role = .joiner j) (hid : s.mgmt.params.channelId = some me)
    (ho : otherIds (some me) = some (x, y)) (he : eligible s.vote.peer0 = true) (hk : s.vote.peer0.link = some k)
    (hu : (getLink s k).status = .up) :
    let base := (baseFor j s).1
    let need := (baseFor j s).2
    walkDone s = { sentUp k (ownFrame me (.request base (need.map (BitVec.ofNat 32)))) s with
      sig := { s.sig with s := s.sig.acc, valid := true, walk := .idle, cursor := 0, acc := 0 }
      vote := { s.vote with peer0 := { s.vote.peer0 with relation := some .joinerOf } }
      repair := { s.repair with role := .joiner { j with
        base := base, need := need, baseLost := j.baseLost || base.isNone, retry := s.mgmt.params.rejoinRetries
        phase := .requesting, tried := [x], candidate := some x, replyTimer := some s.mgmt.params.voteWindow
        retryTimer := none } } } := by
  intro base need
  have completes : walkDone s = preparationComplete s := by simp only [walkDone, if_neg (Nat.not_lt.mpr h), hw]
  have finishes : preparationComplete s = beginSequence { s with
      sig := { s.sig with s := s.sig.acc, valid := true, walk := .idle, cursor := 0, acc := 0 }
      repair := { s.repair with role := .joiner { j with
        base := base, need := need, baseLost := j.baseLost || base.isNone, retry := s.mgmt.params.rejoinRetries } } } := by
    simp only [preparationComplete, finishPreparation, stopWalk, hr]
    rfl
  rw [completes, finishes]
  refine (beginSequence_asks_first rfl (by exact hid) ho (by exact he) (by exact hk) (by cases k <;> exact hu)).trans ?_
  cases k <;> rfl

end

/-- What a scrub step has done with a vital word that it cannot read, before the consequences. -/
theorem scrubMet_vital {s : State} {l w : Nat} {raw : Word} (hw : w < 255) (hv : classOf s l = some .vital) :
    scrubMet l w raw s = { s with
      arb := { s.arb with grant := none }
      counters := { s.counters with uncorrectable := satSucc s.counters.uncorrectable }
      ev := evAfter .uncorrectable 2 (.word (l * 256 + w)) raw s
      scrub := { s.scrub with
        line := l, word := w + 1, allowance := if w = 0 then s.scrub.allowance - 1 else s.scrub.allowance }
      sig := { s.sig with valid := false } } := by
  have line : (l * 256 + w) / 256 = l := by omega
  have cls : classOf (ungranted s) l = some .vital := hv
  rw [scrubMet, scrubAdvance_word hw, reportUncorrectable_eq, line, spendAllowance_eq]
  refine State.ext_parts rfl rfl rfl rfl rfl rfl rfl rfl rfl ?_ rfl rfl rfl rfl rfl rfl ?_ rfl
  · simp [ungranted, classOf, regionOf] at cls ⊢
    simp [cls]
  · exact evAfter_of _ _ _ _ _ _ rfl rfl rfl rfl

section
variable {s : State} {a o : Nat} {by_ : ReadBy} {j : JoinerRole} (hr : s.repair.role = .joiner j) (hw : s.sig.walk = .preparation)
  (hb : by_ ≠ .rebuild) (ho : wordOrdinal s a = some o)
include hr hw hb ho

/-- A vital word lost at or above the cursor leaves the preparation walk alone (R78). -/
theorem vitalInOut_above (h : s.sig.cursor ≤ o) : vitalInOut by_ [a] s = s := by
  simp [vitalInOut, hr, hw, hb, ho, Nat.not_lt.mpr h]

/-- Below the cursor the walk starts again, with the ordinal listed (R78). -/
theorem vitalInOut_below (h : o < s.sig.cursor) : vitalInOut by_ [a] s =
    { listPoisoned o s with sig := { (listPoisoned o s).sig with cursor := 0, acc := 0 } } := by
  simp [vitalInOut, hr, hw, hb, ho, h, listBelow]

end

/-- Settles O44: a rebuild step, the seal that completes or is aborted, and the preparation walk. -/
theorem rebuildStepSumsOneLine : Obligations.RebuildStepSumsOneLine := by
  refine ⟨?_, ?_, ?_, ?_, ?_⟩
  · intro s l vs hr hl hv hc acc
    have run := exec_rebuildStep hr
    rw [rebuildBody_clean (s := ungranted s) hl hv (cleanAt_grant none vs _ hc)] at run
    refine ⟨fun hn => ?_, fun hw hn => ?_⟩
    · rw [run, walkDone_goesOn (by exact hn)]
      rfl
    · rw [walkDone_seals (by exact hw) (by exact hn)] at run
      refine ⟨_, run, rfl, rfl, rfl, rfl, rfl, ?_, rfl, rfl, rfl, ?_, ?_⟩
      · rw [copiesAgree_iff]
        exact ⟨rfl, rfl, rfl, rfl⟩
      · simp [evAfter, sealedState, lineSummed, ungranted]
      · simp [evAfter, sealedState, lineSummed, ungranted]
  · intro s l k raw hr hl hw hst hk hv hd hc met
    obtain ⟨pre, post, one⟩ := outcomesAt_oneBad hk hd hc
    have line : (l * 256 + k) / 256 = l := by omega
    rw [exec_rebuildStep hr, (rebuildBody_bad (s := ungranted s) hl one).1 hw]
    rw [consequences_sealing (fun a ha => by
      rw [List.mem_singleton.mp ha, line]
      exact (classOf_regions (by simp [ungranted]) l).trans hv) (by simpa [ungranted] using hst), reportUncorrectable_eq]
    have vital : classOf (ungranted s) ((l * 256 + k) / 256) = some .vital := by
      rw [line]
      exact hv
    simp only [vital, ne_eq, not_true_eq_false, decide_false, Bool.and_false, hand_as_evAfter, sealAborted,
      show (ungranted s).csr.state = .sealing from hst]
    refine congrArg Host.Outcome.next (State.ext_ev ?_ (evAfter_of _ _ _ _ _ _ rfl rfl rfl ?_))
    · rfl
    · dsimp only
      exact evAfter_of _ _ _ _ _ _ rfl rfl rfl (evAfter_of _ _ _ _ _ _ rfl rfl rfl rfl)
  · intro s l k raw vs hr hl hw hst hk hv hn hd hlen hz hc hp ha
    obtain ⟨pre, post, one⟩ := outcomesAt_oneBad hk hd fun i hi hne => ⟨_, hc i hi hne⟩
    have line : (l * 256 + k) / 256 = l := by omega
    rw [exec_rebuildStep hr, (rebuildBody_bad (s := ungranted s) hl one).2 hw]
    have vital : classOf (ungranted s) ((l * 256 + k) / 256) = some .vital := by
      rw [line]
      exact hv
    have sum := hashSum_line (s := s) (l := l) (vs := vs) s.sig.committedKeys fun i hi => by
      by_cases hik : i = k
      · rw [hik, hd, hz]
        rfl
      · rw [hc i hi hik]
        rfl
    have reads := one.rebuildWords s.sig.cursor (s := reportUncorrectable .rebuild (l * 256 + k) raw (ungranted s))
      (by rw [reportUncorrectable_eq]; exact ha)
    simp only [show (ungranted s).sig.cursor = s.sig.cursor from rfl, show outcomesAt (ungranted s) = outcomesAt s from rfl] at reads ⊢
    rw [reads, walkDone_goesOn (by simpa [numVital, ungranted] using hn), listPoisoned_eq, reportUncorrectable_eq]
    simp only [vital, ne_eq, not_true_eq_false, decide_false, Bool.and_false]
    refine congrArg Host.Outcome.next (State.ext_parts rfl ?_ rfl rfl rfl rfl rfl rfl rfl ?_ rfl rfl rfl rfl rfl rfl ?_ rfl)
    · exact writeWord_mem_congr _ _ rfl rfl rfl
    · have few : (if 8 ≤ s.sig.poisoned.length then s.sig.poisoned else s.sig.poisoned ++ [s.sig.cursor]) =
          if s.sig.poisoned.length < 8 then s.sig.poisoned ++ [s.sig.cursor] else s.sig.poisoned := by
        by_cases h8 : s.sig.poisoned.length < 8
        · rw [if_pos h8, if_neg (by omega)]
        · rw [if_neg h8, if_pos (by omega)]
      rw [← few, ← sum]
      simp [ungranted, hp]
    · exact evAfter_of _ _ _ _ _ _ rfl rfl rfl rfl
  · intro s l w o raw j hr hp hw hd hv hord hst hrole hwalk read
    have line : (l * 256 + w) / 256 = l := by omega
    have run := exec_scrubStep_uncorrectable hr hp hd
    rw [scrubMet_vital hw hv, consequences_vital (s := read) (fun a ha => by rw [List.mem_singleton.mp ha, line]; exact hv)] at run
    simp only [show read.csr.state = .out from hst] at run
    have ord : wordOrdinal read (l * 256 + w) = some o := by
      rw [wordOrdinal, line]
      exact hord
    refine ⟨fun h => ?_, fun h => ?_⟩
    · rw [run, vitalInOut_above (s := read) (j := j) hrole hwalk (by decide) ord h]
    · rw [run, vitalInOut_below (s := read) (j := j) hrole hwalk (by decide) ord h, listPoisoned_eq]
  · intro s l vs j me x y k hr hl hw hlen hc hn hrole hid ho he hk hu acc based base need
    have run := exec_rebuildStep hr
    rw [rebuildBody_clean (s := ungranted s) hl hlen (cleanAt_grant none vs _ hc), walkDone_prepares (by exact hw) (by exact hn)
      (by exact hrole) (by exact hid) ho (by exact he) (by exact hk) (by cases k <;> exact hu)] at run
    have settled (u : State) (hcsr : u.csr = s.csr) (hp : u.sig.poisoned = s.sig.poisoned) (ho : u.sig.overflow = s.sig.overflow) :
        baseFor j u = (base, need) := by
      rw [baseFor_eq, hcsr, hp, ho]
    rw [run, settled (lineSummed l vs (ungranted s)) rfl rfl rfl]
    refine congrArg Host.Outcome.next ?_
    cases k <;> rfl

end Sys2Proof.Machine
end

section
/-! The end of a rollback, with each of its results (R81, R91, R93). -/

namespace Sys2Proof.Machine
-- One proof after the other: side by side they pass the memory that the check allows.
set_option Elab.async false

/-- A rollback has ended: the journal emptied, the counter at the committed cycle. -/
def rolledBack (s : State) : State :=
  { s with
    csr := { s.csr with counter := s.csr.committed, counterInv := ~~~ s.csr.committed }
    jnl := { JournalUnit.reset with rb := { s.jnl.rb with rolling := false } }
    vote := if s.csr.committed = s.csr.counter then s.vote
      else { s.vote with skewReported := false, peer0.slot := none, peer1.slot := none } }

/-- The channel state record at the committed cycle. -/
def backRecord (s : State) : ChannelRecord :=
  { s.csr with counter := s.csr.committed, counterInv := ~~~ s.csr.committed }

/-- The report of a rollback's end. -/
def rollbackReport (detail : Nat) (v : Word) (s : State) : EventUnit :=
  evAfter .rollbackCheck detail (.region (journalIndex s)) v { s with csr := backRecord s }

section
variable {s : State}

/-- A step that stops the rollback: its report, S invalid, the result BROKEN. -/
theorem endRollback_stopped (d : Nat) : endRollback (some d) s =
    ({ rolledBack s with sig := { s.sig with valid := false }, ev := rollbackReport d (wordOf s.jnl.rb.undone) s }, .broken) := by
  simp only [endRollback, reduceCtorEq, if_false, hand_as_evAfter, setCounter_eq]
  exact Prod.ext (State.ext_ev rfl (evAfter_of _ _ _ _ _ _ rfl rfl rfl rfl)) rfl

theorem endRollback_complete (hs : s.jnl.rb.validAtStart = true) (hv : s.sig.valid = true) (hc : s.sig.s = s.csr.c) :
    endRollback none s = (rolledBack s, .complete) := by
  simp only [endRollback, hs, hv, hc, Bool.and_self, if_true, reduceCtorEq, if_false, setCounter_eq]
  rfl

theorem endRollback_differs (hs : s.jnl.rb.validAtStart = true) (hv : s.sig.valid = true) (hc : s.sig.s ≠ s.csr.c) :
    endRollback none s =
      ({ rolledBack s with sig := { s.sig with valid := false }, ev := rollbackReport 1 (wordOf s.sig.s) s }, .checkFailed) := by
  simp only [endRollback, hs, hv, hc, Bool.and_self, if_true, reduceCtorEq, if_false, hand_as_evAfter, setCounter_eq]
  exact Prod.ext (State.ext_ev rfl (evAfter_of _ _ _ _ _ _ rfl rfl rfl rfl)) rfl

theorem endRollback_unsigned (h : ¬ (s.jnl.rb.validAtStart = true ∧ s.sig.valid = true)) :
    endRollback none s = ({ rolledBack s with sig := { s.sig with valid := false } }, .unsigned) := by
  have hb : (s.jnl.rb.validAtStart && s.sig.valid) = false := by simpa [Bool.and_eq_false_iff] using h
  simp only [endRollback, hb, Bool.false_eq_true, if_false, reduceCtorEq, setCounter_eq]
  rfl

/-! ### What the requester makes of the result -/

/-- After DISSENT and WITHDRAWAL the joiner takes the result (R152). -/
theorem finishRollback_joins {stop : Option Nat} (h : s.jnl.rb.reason = some .dissent ∨ s.jnl.rb.reason = some .withdrawal) :
    finishRollback stop s = prepareResult (endRollback stop s).2 (endRollback stop s).1 := by
  rcases h with h | h <;> simp only [finishRollback, h, actOnResult]

theorem finishRollback_undecided {stop : Option Nat} (h : s.jnl.rb.reason = some .noMajority) : finishRollback stop s =
    if (endRollback stop s).2 = .complete then enterHeld (endRollback stop s).1 else enterHalted .noMajority (endRollback stop s).1 := by
  simp only [finishRollback, h, actOnResult]

/-- The rollback has ended with S invalid, and the joiner's preparation walk has begun. -/
def walksBack (j : JoinerRole) (res : RollbackResult) (ev : EventUnit) (s : State) : State :=
  { rolledBack s with
    ev := ev
    sig := { s.sig with valid := false, walk := .preparation, cursor := 0, acc := 0, poisoned := [], overflow := false }
    repair := { s.repair with role := .joiner { j with result := some res } } }

/-- With S invalid the joiner walks. -/
theorem prepareResult_walks {j : JoinerRole} {res : RollbackResult} (hr : s.repair.role = .joiner j) (hv : s.sig.valid = false) :
    prepareResult res s = startWalk .preparation { s with repair.role := .joiner { j with result := some res } } := by
  simp only [prepareResult, hr]
  exact prepareSignature_walks hv

theorem finishRollback_walks {j : JoinerRole} (d : Nat) (h : s.jnl.rb.reason = some .dissent ∨ s.jnl.rb.reason = some .withdrawal)
    (hr : s.repair.role = .joiner j) :
    finishRollback (some d) s = walksBack j .broken (rollbackReport d (wordOf s.jnl.rb.undone) s) s := by
  rw [finishRollback_joins h, endRollback_stopped]
  exact prepareResult_walks (j := j) hr rfl

theorem finishRollback_halts (d : Nat) (h : s.jnl.rb.reason = some .noMajority) : finishRollback (some d) s =
    enterHalted .noMajority { rolledBack s with
      sig := { s.sig with valid := false }, ev := rollbackReport d (wordOf s.jnl.rb.undone) s } := by
  rw [finishRollback_undecided h, endRollback_stopped]
  exact if_neg (by simp)

/-- A segment marked broken by the step that stops is empty behind it. -/
theorem finishRollback_marked (d : Nat) (x y : Bool) :
    finishRollback (some d) { s with jnl := { s.jnl with votingOver := x, openOver := y } } = finishRollback (some d) s := by
  simp only [finishRollback, endRollback_stopped]
  exact congrArg (actOnResult s.jnl.rb.reason .broken) (State.ext_ev rfl (evAfter_of _ _ _ _ _ _ rfl rfl rfl rfl))

end

/-! ### The segments that an unreadable entry marks -/

/-- Only the marks of the two segments have changed. -/
def Marked (s t : State) : Prop := ∃ x y, t = { s with jnl := { s.jnl with votingOver := x, openOver := y } }

theorem Marked.refl (s : State) : Marked s s := ⟨_, _, rfl⟩

theorem Marked.trans {s t u : State} (h : Marked s t) (k : Marked t u) : Marked s u := by
  obtain ⟨x, y, rfl⟩ := h
  obtain ⟨x', y', rfl⟩ := k
  exact ⟨x', y', rfl⟩

theorem markNewest_marked (s : State) : Marked s (markNewest s) := by
  unfold markNewest
  split
  · exact ⟨_, _, rfl⟩
  · exact ⟨_, _, rfl⟩

theorem markSegment_marked (a : Nat) (s : State) : Marked s (markSegment a s) := by
  unfold markSegment
  split
  · exact .refl s
  · dsimp only
    split
    · exact ⟨_, _, rfl⟩
    · split
      · exact ⟨_, _, rfl⟩
      · exact .refl s

theorem markSegments_marked (bad : List Nat) (s : State) : Marked s (markSegments bad s) := by
  induction bad generalizing s with
  | nil => exact .refl s
  | cons a as ih =>
    rw [markSegments]
    split
    · exact (markSegment_marked a s).trans (ih _)
    · exact ih s

/-- Words of the journal that cannot be read mark their segments and have no other consequence. -/
theorem consequences_journal {by_ : ReadBy} {bad : List Nat} {s : State} (h : ∀ a ∈ bad, classOf s (a / 256) = some .journal) :
    Marked s (consequences by_ bad s) := by
  have marked := markSegments_marked bad s
  have none_ : bad.filter (fun a => decide (classOf (markSegments bad s) (a / 256) = some .vital)) = [] := by
    rw [List.filter_eq_nil_iff]
    intro a ha
    rw [classOf_regions (s := s) (by simp), h a ha]
    simp
  simp only [consequences, none_]
  exact marked

theorem Marked.finishRollback {s t : State} (h : Marked s t) (d : Nat) :
    Machine.finishRollback (some d) t = Machine.finishRollback (some d) s := by
  obtain ⟨x, y, rfl⟩ := h
  exact finishRollback_marked d x y

end Sys2Proof.Machine
end

section
/-! A rollback step: the newest entry read and undone (R89, R90, R92). -/

namespace Sys2Proof.Machine
-- One proof after the other: side by side they pass the memory that the check allows.
set_option Elab.async false

section
variable {s : State}

/-- The place of the newest entry in the ring. -/
def newestPlace (s : State) : Nat := (s.jnl.tail + journalCapacity s - 1) % journalCapacity s

/-- The two words of the newest entry. -/
def newestSlot (s : State) : Nat := journalSlot s (newestPlace s)

theorem journalSlot_fits (s : State) (i : Nat) : journalSlot s i % 256 + 2 ≤ 256 := by
  unfold journalSlot
  split
  · omega
  · decide

/-- Both words of an entry lie in one line. -/
theorem readWords_newest (s : State) : readWords .rollback [newestSlot s, newestSlot s + 1] s =
    (outcomesAt s [newestSlot s, newestSlot s + 1], met .rollback (outcomesAt s [newestSlot s, newestSlot s + 1]) s) := by
  have line := wordsFrom_inLine (newestSlot s) 2 (journalSlot_fits s _)
  exact readWords_met .rollback _ s _ line.1 line.2

theorem exec_rollbackStep (h : runs .rollback s) (hb : s.jnl.broken = false) :
    exec .rollbackStep s = .next (settle (rollbackBody (ungranted s))) := by
  refine congrArg (fun t => Host.Outcome.next (settle t)) ?_
  rw [rollbackStep, if_neg (by simp [hb]), runGrant_runs h]

/-- What a rollback step does, by the outcomes of the two reads. -/
theorem rollbackBody_eq (s : State) : rollbackBody s =
    let seen := outcomesAt s [newestSlot s, newestSlot s + 1]
    match seen.map (fun x => x.2.value) with
    | [some w0, some w1] =>
      if (wordOrdinal s (journalAddr w0)).isSome ∧ journalTag w0 = expectedTag s.jnl then
        undoEntry (newestPlace s) (journalAddr w0) w1 (met .rollback seen s)
      else finishRollback (some rollbackEntry) (markNewest (met .rollback seen s))
    | _ => finishRollback (some rollbackUnreadable) (consequences .rollback (badWords seen) (met .rollback seen s)) := by
  have reads := readWords_newest s
  have other : newestSlot s + 1 ≠ newestSlot s := Nat.succ_ne_self _
  simp only [rollbackBody, show (s.jnl.tail + journalCapacity s - 1) % journalCapacity s = newestPlace s from rfl,
    show journalSlot s (newestPlace s) = newestSlot s from rfl, reads]
  simp only [outcomesAt, List.map_cons, List.map_nil, deliveredFor, if_true, if_neg other]
  generalize (decodeStored (storedAt s (newestSlot s)) (newestSlot s)).value = v0
  generalize (decodeStored (storedAt s (newestSlot s + 1)) (newestSlot s + 1)).value = v1
  cases v0 <;> cases v1 <;> rfl

/-! ### The entry undone -/

/-- The journal with its newest entry taken off (step 6 of R89). -/
def pointersBack (i : Nat) (s : State) : JournalUnit :=
  if s.jnl.openCount = 0 then
    { s.jnl with
      tail := i, boundary := i, votingCount := s.jnl.votingCount - 1, rb := { s.jnl.rb with undone := s.jnl.rb.undone + 1 }
      pressure := s.jnl.pressure && decide (pressureLevel s ≤ s.jnl.votingCount - 1) }
  else
    { s.jnl with
      tail := i, openCount := s.jnl.openCount - 1, rb := { s.jnl.rb with undone := s.jnl.rb.undone + 1 }
      pressure := s.jnl.pressure && decide (pressureLevel s ≤ s.jnl.votingCount + s.jnl.openCount - 1) }

theorem rearmPressure_eq (s : State) : rearmPressure s = { s with jnl := { s.jnl with
    pressure := s.jnl.pressure && decide (pressureLevel s ≤ s.jnl.entries) } } := by
  unfold rearmPressure
  by_cases h : s.jnl.entries < pressureLevel s
  · rw [if_pos h, show decide (pressureLevel s ≤ s.jnl.entries) = false from by simpa using h, Bool.and_false]
  · rw [if_neg h, show decide (pressureLevel s ≤ s.jnl.entries) = true from by simpa using h, Bool.and_true]

theorem rollbackPointers_eq (i : Nat) (s : State) : rollbackPointers i s = { s with jnl := pointersBack i s } := by
  have level (j : JournalUnit) : pressureLevel { s with jnl := j } = pressureLevel s := rfl
  unfold rollbackPointers pointersBack
  by_cases h : s.jnl.openCount = 0
  · simp only [h, if_true, rearmPressure_eq, level, JournalUnit.entries, Nat.add_zero]
  · have left : s.jnl.votingCount + (s.jnl.openCount - 1) = s.jnl.votingCount + s.jnl.openCount - 1 := by omega
    simp only [h, if_false, rearmPressure_eq, level, JournalUnit.entries, left]

theorem pointersBack_congr {i : Nat} {t : State} (hj : t.jnl = s.jnl) (hr : t.regions = s.regions) (hm : t.mgmt = s.mgmt) :
    pointersBack i t = pointersBack i s := by
  simp only [pointersBack, hj, pressureLevel_congr hr hm]

theorem pointersBack_entries (i : Nat) (s : State) : (pointersBack i s).entries = s.jnl.votingCount + s.jnl.openCount - 1 := by
  unfold pointersBack
  split <;> simp only [JournalUnit.entries] <;> omega

/-- The newest entry undone: its old value stored, the change folded into S, the entry taken off. -/
def entryUndone (i a : Nat) (old cur : Word) (s : State) : State :=
  { s with
    mem := (writeWord a old s).mem
    sig := { s.sig with s := if s.sig.valid then foldChange s.sig.committedKeys s.sig.s a cur old else s.sig.s }
    jnl := pointersBack i s }

theorem undoEntry_clean {i a : Nat} {old cur : Word} (h : decodeStored (storedAt s a) a = .clean cur) :
    undoEntry i a old s = rollbackIfDone (entryUndone i a old cur s) := by
  have folded : updateS a cur old s =
      { s with sig := { s.sig with s := if s.sig.valid then foldChange s.sig.committedKeys s.sig.s a cur old else s.sig.s } } := by
    unfold updateS
    split <;> rfl
  simp only [undoEntry, readWord_clean h, folded]
  rw [rollbackPointers_eq, pointersBack_congr (s := s) (by simp) (by simp) (by simp), writeWord_frame,
    writeWord_mem_congr (s := s) a old (by simp) (by simp) (by simp)]
  rfl

/-- An entry whose word cannot be read is undone all the same, with what such a read does. -/
theorem undoEntry_bad {i a : Nat} {old raw : Word} (h : decodeStored (storedAt s a) a = .uncorrectable raw) :
    undoEntry i a old s = rollbackIfDone (consequences .rollback [a] { reportUncorrectable .rollback a raw s with
      mem := (writeWord a old s).mem, jnl := pointersBack i s }) := by
  simp only [undoEntry, readWord_uncorrectable h]
  rw [rollbackPointers_eq, pointersBack_congr (s := s) (by simp) (by simp) (by simp), writeWord_frame,
    writeWord_mem_congr (s := s) a old (by simp) (by simp) (by simp)]

theorem rollbackIfDone_goesOn (h : s.jnl.entries ≠ 0) : rollbackIfDone s = s := if_neg h

theorem rollbackIfDone_ends (h : s.jnl.entries = 0) : rollbackIfDone s = finishRollback none s := if_pos h

end

end Sys2Proof.Machine
end

section
/-! The step that takes the last entry, with every result and requester (R91, R93, R129, R152). -/

namespace Sys2Proof.Machine
-- One proof after the other: side by side they pass the memory that the check allows.
set_option Elab.async false

section
variable {s : State}

/-- What every end of a rollback leaves, before its requester acts. -/
theorem endRollback_leaves (stop : Option Nat) (s : State) : (endRollback stop s).1.csr = backRecord s ∧
    (endRollback stop s).1.jnl = { JournalUnit.reset with rb := { s.jnl.rb with rolling := false } } ∧
    (endRollback stop s).1.mem = s.mem := by
  cases stop with
  | some d => rw [endRollback_stopped]; exact ⟨rfl, rfl, rfl⟩
  | none =>
    by_cases h : s.jnl.rb.validAtStart = true ∧ s.sig.valid = true
    · by_cases hc : s.sig.s = s.csr.c
      · rw [endRollback_complete h.1 h.2 hc]; exact ⟨rfl, rfl, rfl⟩
      · rw [endRollback_differs h.1 h.2 hc]; exact ⟨rfl, rfl, rfl⟩
    · rw [endRollback_unsigned h]; exact ⟨rfl, rfl, rfl⟩

/-- The rollback of a NO-MAJORITY that is COMPLETE, before the watch in HELD. -/
def heldBack (s : State) : State :=
  { rolledBack s with
    csr := heldRecord s
    vote := { (rolledBack s).vote with
      peer0 := { (rolledBack s).vote.peer0 with slot := none }, peer1 := { (rolledBack s).vote.peer1 with slot := none } }
    ev := evAfter .stateChange 7 (.channelState s.csr.state) (wordOf s.csr.committed.toNat) { s with csr := heldRecord s } }

theorem enterHeld_rolledBack (s : State) : enterHeld (rolledBack s) = heldWatch (heldBack s) := by
  refine congrArg heldWatch ?_
  rw [changeState_eq]
  exact State.ext_ev rfl (evAfter_of _ _ _ _ _ _ rfl rfl rfl rfl)

/-- What the peers reported is not touched by the rollback's end. -/
theorem heldBack_ahead (s : State) :
    aheadOf (heldBack s) (heldBack s).vote.peer0 ∧ aheadOf (heldBack s) (heldBack s).vote.peer1 ↔ bothAhead s := by
  have peers : (rolledBack s).vote.peer0.state = s.vote.peer0.state ∧ (rolledBack s).vote.peer1.state = s.vote.peer1.state ∧
      (rolledBack s).vote.peer0.committed = s.vote.peer0.committed ∧ (rolledBack s).vote.peer1.committed = s.vote.peer1.committed := by
    simp only [rolledBack]
    split <;> exact ⟨rfl, rfl, rfl, rfl⟩
  obtain ⟨s0, s1, c0, c1⟩ := peers
  simp only [bothAhead, aheadOf, heldBack, heldRecord, s0, c0, s1, c1, List.mem_cons, List.not_mem_nil,
    or_false, forall_eq_or_imp, forall_eq]

/-- S valid throughout and equal to C. -/
def Signed (s : State) : Prop := s.jnl.rb.validAtStart = true ∧ s.sig.valid = true

theorem finishRollback_holds (h : s.jnl.rb.reason = some .noMajority) (hs : Signed s) (hc : s.sig.s = s.csr.c) :
    finishRollback none s = heldWatch (heldBack s) := by
  rw [finishRollback_undecided h, endRollback_complete hs.1 hs.2 hc, if_pos rfl]
  exact enterHeld_rolledBack s

/-- Any other result of a NO-MAJORITY's rollback halts the channel. -/
theorem finishRollback_fails (h : s.jnl.rb.reason = some .noMajority) (hn : ¬ (Signed s ∧ s.sig.s = s.csr.c)) :
    finishRollback none s = enterHalted .noMajority (endRollback none s).1 := by
  rw [finishRollback_undecided h, if_neg]
  by_cases hs : Signed s
  · rw [endRollback_differs hs.1 hs.2 fun hc => hn ⟨hs, hc⟩]
    simp
  · rw [endRollback_unsigned hs]
    simp

/-- What every last step leaves, unless the watch in HELD goes on from it. -/
theorem finishRollback_leaves (hb : s.jnl.rb.reason = some .noMajority → Signed s → s.sig.s = s.csr.c → ¬ bothAhead s) :
    let t := finishRollback none s
    t.mem = s.mem ∧ t.jnl.entries = 0 ∧ t.jnl.rb.rolling = false ∧ t.jnl.rb.undone = s.jnl.rb.undone ∧
    t.csr.counter = s.csr.committed ∧ t.csr.committed = s.csr.committed := by
  obtain ⟨csr, jnl, mem⟩ := endRollback_leaves none s
  by_cases h : s.jnl.rb.reason = some .noMajority
  · by_cases hs : Signed s ∧ s.sig.s = s.csr.c
    · rw [finishRollback_holds h hs.1 hs.2, heldWatch_stays fun ⟨_, h0, h1⟩ => hb h hs.1 hs.2 ((heldBack_ahead s).mp ⟨h0, h1⟩)]
      exact ⟨rfl, rfl, rfl, rfl, rfl, rfl⟩
    · rw [finishRollback_fails h hs]
      obtain ⟨hcsr, hjnl, -, -, -, -, -, hkept, -⟩ := enterHalted_halted .noMajority (endRollback none s).1
      intro t
      refine ⟨hkept.1.trans mem, ?_⟩
      rw [show t = enterHalted .noMajority (endRollback none s).1 from rfl, hcsr, hjnl, haltedRecord, csr, jnl]
      exact ⟨rfl, rfl, rfl, rfl, rfl⟩
  · have other (r : RollbackResult) (u : State) : actOnResult s.jnl.rb.reason r u = prepareResult r u := by
      unfold actOnResult
      split
      · exact absurd ‹_› h
      · rfl
    simp only [finishRollback, other, prepareResult_keeps, csr, jnl, mem]
    exact ⟨trivial, rfl, trivial, trivial, rfl, rfl⟩

/-! ### After DISSENT and WITHDRAWAL -/

section
variable {j : JoinerRole} (h : s.jnl.rb.reason = some .dissent ∨ s.jnl.rb.reason = some .withdrawal)
  (hr : s.repair.role = .joiner j)
include h hr

theorem finishRollback_differs (hs : Signed s) (hc : s.sig.s ≠ s.csr.c) :
    finishRollback none s = walksBack j .checkFailed (rollbackReport 1 (wordOf s.sig.s) s) s := by
  rw [finishRollback_joins h, endRollback_differs hs.1 hs.2 hc]
  exact prepareResult_walks (j := j) hr rfl

theorem finishRollback_unsigned (hs : ¬ Signed s) : finishRollback none s = walksBack j .unsigned s.ev s := by
  rw [finishRollback_joins h, endRollback_unsigned hs]
  exact prepareResult_walks (j := j) hr rfl

/-- After COMPLETE no walk is run: the search for a source begins. -/
theorem finishRollback_searches (hs : Signed s) (hc : s.sig.s = s.csr.c) :
    let t := finishRollback none s
    t.csr = backRecord s ∧ t.sig = s.sig ∧ ∃ j1, t.repair.role = .joiner j1 ∧ j1.result = some .complete ∧ j1.phase ≠ .preparing ∧
      (j.forcedFull = false → j.baseLost = false → j1.base = some s.csr.committed ∧ j1.need = []) := by
  have prepares : finishRollback none s = finishPreparation { rolledBack s with
      repair := { s.repair with role := .joiner { j with result := some .complete } } } := by
    rw [finishRollback_joins h, endRollback_complete hs.1 hs.2 hc]
    simp only [prepareResult, show (rolledBack s).repair.role = .joiner j from hr, prepareSignature,
      show (rolledBack s).sig.valid = true from hs.2, if_true]
    rfl
  rw [prepares]
  simp only [finishPreparation]
  set k : JoinerRole := { j with result := some .complete } with hk
  set b := baseFor k { rolledBack s with repair := { s.repair with role := .joiner k } } with hb
  have sought := beginSequence_sought (s := { rolledBack s with repair := { s.repair with role := .joiner { k with
    base := b.1, need := b.2, baseLost := k.baseLost || b.1.isNone, retry := (rolledBack s).mgmt.params.rejoinRetries } } }) rfl
  obtain ⟨j1, role, base, need, -, -, result⟩ := sought.role
  obtain ⟨j2, role2, phase⟩ := sought.phase
  obtain rfl : j1 = j2 := Role.joiner.inj ((congrArg RepairUnit.role role).symm.trans role2)
  refine ⟨by simp only [beginSequence_keeps]; rfl, by simp only [beginSequence_keeps]; rfl, j1, role2, result, ?_, fun hf hl => ?_⟩
  · rcases phase with p | p | p <;> rw [p] <;> decide
  · have settled : b = (some s.csr.committed, []) := by
      rw [hb, baseFor_eq]
      simp [hk, hf, hl, rolledBack]
    rw [base, need, settled]
    exact ⟨rfl, rfl⟩

end

end

end Sys2Proof.Machine
end

section
/-! The rollback step on words that are read CLEAN, with every tag (R89, R92). -/

namespace Sys2Proof.Machine
-- One proof after the other: side by side they pass the memory that the check allows.
set_option Elab.async false

section
variable {s : State} {w0 old : Word} {o : Nat}

/-- The newest entry read: its tag decides. -/
theorem rollbackBody_clean (hc : cleanAt s (newestSlot s) [w0, old])
    (ho : ordinalOf s.regions.committed (journalAddr w0 / 256) = some o) : rollbackBody s =
    if journalTag w0 = expectedTag s.jnl then undoEntry (newestPlace s) (journalAddr w0) old s
    else finishRollback (some 4) s := by
  obtain ⟨first, second, -⟩ := hc
  have clean : met .rollback (outcomesAt s [newestSlot s, newestSlot s + 1]) s = s :=
    met_clean _ _ _ (by simp [outcomesAt, first, second])
  have ordinal : (wordOrdinal s (journalAddr w0)).isSome = true := by rw [wordOrdinal, ho]; rfl
  have values : (outcomesAt s [newestSlot s, newestSlot s + 1]).map (fun x => x.2.value) = [some w0, some old] := by
    simp [outcomesAt, first, second, ReadOutcome.value]
  simp only [rollbackBody_eq, clean, values, ordinal, true_and, (markNewest_marked s).finishRollback]
  rfl

/-- A rollback step whose newest entry is read CLEAN and carries the tag of its segment. -/
theorem exec_undoes (hr : runs .rollback s) (hb : s.jnl.broken = false) (hc : cleanAt s (newestSlot s) [w0, old])
    (ho : ordinalOf s.regions.committed (journalAddr w0 / 256) = some o) (ht : journalTag w0 = expectedTag s.jnl) :
    exec .rollbackStep s = .next (settle (undoEntry (newestPlace s) (journalAddr w0) old (ungranted s))) := by
  rw [exec_rollbackStep hr hb, rollbackBody_clean (s := ungranted s) (cleanAt_grant none _ _ hc) ho]
  exact congrArg (fun t => Host.Outcome.next (settle t)) (if_pos ht)

/-- The same entry undone, with its word read CLEAN. -/
theorem exec_undoesClean {cur : Word} (hr : runs .rollback s) (hb : s.jnl.broken = false)
    (hc : cleanAt s (newestSlot s) [w0, old]) (ho : ordinalOf s.regions.committed (journalAddr w0 / 256) = some o)
    (ht : journalTag w0 = expectedTag s.jnl)
    (hd : decodeStored (storedAt s (journalAddr w0)) (journalAddr w0) = .clean cur) :
    exec .rollbackStep s = .next (settle (rollbackIfDone (entryUndone (newestPlace s) (journalAddr w0) old cur (ungranted s)))) := by
  rw [exec_undoes hr hb hc ho ht, undoEntry_clean (s := ungranted s) (cur := cur) hd]

/-- A rollback step whose newest entry carries another tag stops the rollback. -/
theorem exec_foreign (hr : runs .rollback s) (hb : s.jnl.broken = false) (hc : cleanAt s (newestSlot s) [w0, old])
    (ho : ordinalOf s.regions.committed (journalAddr w0 / 256) = some o) (ht : journalTag w0 ≠ expectedTag s.jnl) :
    exec .rollbackStep s = .next (settle (finishRollback (some 4) (ungranted s))) := by
  rw [exec_rollbackStep hr hb, rollbackBody_clean (s := ungranted s) (cleanAt_grant none _ _ hc) ho]
  exact congrArg (fun t => Host.Outcome.next (settle t)) (if_neg ht)

theorem expectedTag_open (h : 1 ≤ s.jnl.openCount) : expectedTag s.jnl = s.jnl.rb.tagOpen :=
  if_neg (Nat.one_le_iff_ne_zero.mp h)

theorem expectedTag_voting (h : s.jnl.openCount = 0) : expectedTag s.jnl = s.jnl.rb.tagVoting := if_pos h

/-- A rollback with more than one entry left goes on. -/
theorem entryUndone_left {i a : Nat} {cur : Word} (h : 2 ≤ s.jnl.votingCount + s.jnl.openCount) :
    (entryUndone i a old cur s).jnl.entries ≠ 0 := by
  have left := pointersBack_entries i s
  simp only [entryUndone]
  omega

/-! ### The rollback that a NO-MAJORITY stops -/

/-- A NO-MAJORITY's rollback that stops halts the channel, with its record. -/
theorem finishRollback_halted (d : Nat) (h : s.jnl.rb.reason = some .noMajority) :
    HaltedFrom .noMajority { rolledBack s with
      sig := { s.sig with valid := false }, ev := rollbackReport d (wordOf s.jnl.rb.undone) s } (finishRollback (some d) s) := by
  rw [finishRollback_halts d h]
  exact enterHalted_halted _ _

/-- Its records where no role and no seal walk end with it. -/
theorem finishRollback_haltedEv (d : Nat) (h : s.jnl.rb.reason = some .noMajority) (hr : s.repair.role = .none)
    (hw : s.sig.walk ≠ .seal) (hs : s.csr.state ≠ .halted) : (finishRollback (some d) s).ev =
    evAfter .stateChange 7 (.channelState s.csr.state) (wordOf s.csr.committed.toNat)
      { s with
        csr := (finishRollback (some d) s).csr
        ev := { rollbackReport d (wordOf s.jnl.rb.undone) s with faultLatch := true } } := by
  have halted := finishRollback_halted d h
  have records := halted.records hr hw
  rw [records.trans (if_neg hs), halted.csr]
  exact evAfter_of _ _ _ _ _ _ rfl rfl rfl rfl

end

end Sys2Proof.Machine
end

section
/-! The rollback step on words that are read CLEAN: the entry undone, the last one, a foreign tag. -/

namespace Sys2Proof.Machine
-- One proof after the other: side by side they pass the memory that the check allows.
set_option Elab.async false

section
variable {s : State} {old cur : Word} {i a : Nat}

/-- The sum with one word's change folded in while it is valid. -/
def sumMoved (a : Nat) (cur old : Word) (s : State) : Nat :=
  if s.sig.valid then foldChange s.sig.committedKeys s.sig.s a cur old else s.sig.s

theorem ungranted_written : (writeWord a old (ungranted s)).mem = (writeWord a old s).mem :=
  writeWord_mem_congr a old rfl rfl rfl

/-- The newest entry of the open segment undone. -/
theorem entryUndone_open (h : 1 ≤ s.jnl.openCount) : entryUndone i a old cur (ungranted s) = { s with
    arb.grant := none
    mem := (writeWord a old s).mem
    sig.s := sumMoved a cur old s
    jnl := { s.jnl with
      tail := i, openCount := s.jnl.openCount - 1, rb.undone := s.jnl.rb.undone + 1
      pressure := s.jnl.pressure && decide (pressureLevel s ≤ s.jnl.votingCount + s.jnl.openCount - 1) } } := by
  have pointers : pointersBack i (ungranted s) = _ := if_neg (Nat.one_le_iff_ne_zero.mp h)
  rw [entryUndone, pointers, ungranted_written]
  rfl

/-- The newest entry of the voting segment undone, the open one empty. -/
theorem entryUndone_voting (h : s.jnl.openCount = 0) : entryUndone i a old cur (ungranted s) = { s with
    arb.grant := none
    mem := (writeWord a old s).mem
    sig.s := sumMoved a cur old s
    jnl := { s.jnl with
      tail := i, boundary := i, votingCount := s.jnl.votingCount - 1, rb.undone := s.jnl.rb.undone + 1
      pressure := s.jnl.pressure && decide (pressureLevel s ≤ s.jnl.votingCount - 1) } } := by
  have pointers : pointersBack i (ungranted s) = _ := if_pos h
  rw [entryUndone, pointers, ungranted_written]
  rfl

/-- What the undoing leaves of the rollback's own record. -/
theorem entryUndone_record : (entryUndone i a old cur s).jnl.rb = { s.jnl.rb with undone := s.jnl.rb.undone + 1 } := by
  simp only [entryUndone, pointersBack]
  split <;> rfl

/-- The last entry undone: none is left, and the rollback ends. -/
theorem entryUndone_last (h : s.jnl.votingCount + s.jnl.openCount = 1) :
    rollbackIfDone (entryUndone i a old cur s) = finishRollback none (entryUndone i a old cur s) :=
  rollbackIfDone_ends ((pointersBack_entries i s).trans (by omega))

/-- The report that names S, by the state before the entry was undone. -/
theorem rollbackReport_congr {t : State} (d : Nat) (v : Word) (hc : t.csr = s.csr) (hr : t.regions = s.regions) (he : t.ev = s.ev) :
    rollbackReport d v t = rollbackReport d v s := by
  rw [rollbackReport, rollbackReport, journalIndex_congr hr]
  exact evAfter_of _ _ _ _ _ _ (by simp [backRecord, hc]) (by simp [backRecord, hc]) hr he

end

end Sys2Proof.Machine
end

section
/-! What a NO-MAJORITY makes of its rollback's end: HELD, the watch there, HALTED (R93, R129, R132). -/

namespace Sys2Proof.Machine
-- One proof after the other: side by side they pass the memory that the check allows.
set_option Elab.async false

section
variable {s : State} (h : s.jnl.rb.reason = some .noMajority)
include h

/-- COMPLETE holds the channel. -/
theorem finishRollback_held (hs : Signed s) (hc : s.sig.s = s.csr.c) (hb : ¬ bothAhead s) :
    let t := finishRollback none s
    t.csr.state = .held ∧ t.sig = s.sig ∧ t.repair = s.repair ∧
    t.ev = evAfter .stateChange 7 (.channelState s.csr.state) (wordOf s.csr.committed.toNat) { s with csr := t.csr } := by
  rw [finishRollback_holds h hs hc, heldWatch_stays fun ⟨_, h0, h1⟩ => hb ((heldBack_ahead s).mp ⟨h0, h1⟩)]
  exact ⟨rfl, rfl, rfl, rfl⟩

/-- Every other result halts it. -/
theorem finishRollback_failed (hn : ¬ (Signed s ∧ s.sig.s = s.csr.c)) :
    let t := finishRollback none s
    t.csr.state = .halted ∧ t.sig.valid = false ∧ t.ev.faultLatch = true := by
  intro t
  have halted := enterHalted_halted .noMajority (endRollback none s).1
  rw [← finishRollback_fails h hn] at halted
  exact ⟨by rw [halted.csr]; rfl, halted.sig.1, halted.latch.1⟩

/-- COMPLETE with both peers ahead: the watch in HELD takes the channel on to OUT. -/
theorem finishRollback_watched (hs : Signed s) (hc : s.sig.s = s.csr.c) (hb : bothAhead s) (agrees : copiesAgree s) :
    ∃ j, let t := finishRollback none s
      t.mem = s.mem ∧ t.sig = s.sig ∧ t.csr.state = .out ∧ t.csr.counter = s.csr.committed ∧
      t.csr.committed = s.csr.committed ∧ t.csr.c = s.csr.c ∧ copiesAgree t ∧ t.ev.faultLatch = s.ev.faultLatch ∧
      t.ev.health = s.ev.health ∧ t.jnl.entries = 0 ∧ t.jnl.rb.rolling = false ∧ t.jnl.rb.reason = some .dissent ∧
      t.vote.peer0.status = .agree ∧ t.vote.peer1.status = .agree ∧ t.repair.role = .joiner j ∧
      j.base = some s.csr.committed ∧ j.need = [] := by
  rw [finishRollback_holds h hs hc]
  have held : copiesAgree (heldBack s) := fallenRecord_agrees agrees (t := heldBack s) rfl rfl
  have latch : (heldBack s).ev.faultLatch = s.ev.faultLatch ∧ (heldBack s).ev.health = s.ev.health := by
    simp [heldBack, evAfter]
  obtain ⟨h0, h1⟩ := (heldBack_ahead s).mpr hb
  obtain ⟨n, acts⟩ := heldWatch_acts (s := heldBack s) rfl h0 h1 held
  obtain ⟨j, asks⟩ := dissented_asks .held (wordOf (heldBack s).csr.c) n (s := bothMarked (heldBack s))
    ⟨rfl, rfl, rfl, rfl, hs.2, hc⟩
  rw [acts]
  refine ⟨j, ?_⟩
  generalize dissented _ _ _ _ = t at *
  obtain ⟨csr, ⟨mem, -, sig, -, tlatch, thealth⟩, -, ⟨status0, status1, -⟩, ⟨entries, rolls, reason⟩, ⟨role, base, need⟩, -⟩ := asks
  exact ⟨mem, sig, by rw [csr]; rfl, by rw [csr]; rfl, by rw [csr]; rfl, by rw [csr]; rfl,
    fallenRecord_agrees agrees (t := t) csr rfl, tlatch.trans latch.1, thealth.trans latch.2, entries, rolls, reason,
    status0, status1, role, base, need⟩

end

end Sys2Proof.Machine
end

section
/-! A rollback step that meets a word it cannot read (R90, R92, R27). -/

namespace Sys2Proof.Machine
-- One proof after the other: side by side they pass the memory that the check allows.
set_option Elab.async false

section
variable {s : State} {w0 old raw : Word} {o : Nat}

/-- A line with a vital ordinal is one of a VITAL region. -/
theorem classOf_of_ordinal {l : Nat} (h : ordinalOf s.regions.committed l = some o) : classOf s l = some .vital := by
  unfold ordinalOf at h
  unfold classOf regionOf
  split at h
  · rename_i found
    rw [found]
    split at h
    · rename_i vital
      exact congrArg some vital
    · exact absurd h (by simp)
  · exact absurd h (by simp)

/-- The newest entry of the open segment undone over a word that cannot be read. -/
def undoneOver (a : Nat) (old raw : Word) (s : State) : State :=
  { s with
    arb.grant := none
    mem := (writeWord a old s).mem
    counters.uncorrectable := satSucc s.counters.uncorrectable
    sig.valid := false
    ev := evAfter .uncorrectable 8 (.word a) raw s
    jnl := { s.jnl with
      tail := newestPlace s, openCount := s.jnl.openCount - 1, rb.undone := s.jnl.rb.undone + 1
      pressure := s.jnl.pressure && decide (pressureLevel s ≤ s.jnl.votingCount + s.jnl.openCount - 1) } }

theorem exec_undoesBad (hr : runs .rollback s) (hb : s.jnl.broken = false) (hc : cleanAt s (newestSlot s) [w0, old])
    (ho : ordinalOf s.regions.committed (journalAddr w0 / 256) = some o) (ht : journalTag w0 = s.jnl.rb.tagOpen)
    (hn : 1 ≤ s.jnl.openCount) (hd : decodeStored (storedAt s (journalAddr w0)) (journalAddr w0) = .uncorrectable raw) :
    exec .rollbackStep s =
      .next (settle (rollbackIfDone (consequences .rollback [journalAddr w0] (undoneOver (journalAddr w0) old raw s)))) := by
  rw [exec_undoes hr hb hc ho (ht.trans (expectedTag_open hn).symm), undoEntry_bad (s := ungranted s) hd]
  refine congrArg (fun t => Host.Outcome.next (settle (rollbackIfDone (consequences .rollback [journalAddr w0] t)))) ?_
  have pointers : pointersBack (newestPlace s) (ungranted s) = _ := if_neg (Nat.one_le_iff_ne_zero.mp hn)
  have vital : classOf (ungranted s) (journalAddr w0 / 256) = some .vital := classOf_of_ordinal (s := ungranted s) ho
  rw [reportUncorrectable_eq, pointers, ungranted_written]
  refine State.ext_parts rfl rfl rfl rfl rfl rfl rfl rfl rfl ?_ rfl rfl rfl rfl rfl rfl ?_ rfl
  · simp only [vital, ne_eq, not_true, decide_false, Bool.and_false]
    rfl
  · exact evAfter_of _ _ _ _ _ _ rfl rfl rfl rfl

/-- In OUT before the preparation walk such a word has no consequence beyond S. -/
theorem vitalInOut_preparing {by_ : ReadBy} {bad : List Nat} {j : JoinerRole} (hr : s.repair.role = .joiner j)
    (hp : j.phase = .preparing) (hw : s.sig.walk ≠ .preparation) : vitalInOut by_ bad s = s := by
  simp [vitalInOut, hr, hp, hw]

/-- A withdrawal while a rollback runs takes that rollback over (R81). -/
theorem withdraw_rolling (h : rolling s = true) : withdraw s = { partedForOut s with
    jnl := { s.jnl with rb.reason := some .withdrawal }
    repair := { (partedForOut s).repair with role := .joiner (freshJoiner false) } } := by
  obtain ⟨-, -, -, -, -, -, -, -, -, -, jnl, -⟩ := partedForOut_keeps s
  have parts : abortSource .sourceFault true (cancelVote (emptySlots (changeState .out .withdrawal (setLatch s)))) = partedForOut s := rfl
  unfold withdraw
  simp only [parts]
  rw [if_pos (by rw [rolling, jnl]; exact h), jnl]
  rfl

theorem partedForOut_latched (s : State) : (partedForOut s).ev.faultLatch = true := by
  rw [partedForOut_ev, partedEvents]
  split <;> simp [evAfter, leftEvents]

/-! ### An entry that cannot be read -/

theorem rollbackBody_unreadable
    (h : badWords (outcomesAt s [newestSlot s, newestSlot s + 1]) ≠ []) : rollbackBody s =
    let seen := outcomesAt s [newestSlot s, newestSlot s + 1]
    finishRollback (some 3) (consequences .rollback (badWords seen) (met .rollback seen s)) := by
  rw [rollbackBody_eq]
  generalize hseen : outcomesAt s [newestSlot s, newestSlot s + 1] = seen at h
  obtain ⟨x, y, rfl⟩ : ∃ x y, seen = [x, y] := ⟨_, _, hseen.symm⟩
  obtain ⟨a, x⟩ := x
  obtain ⟨b, y⟩ := y
  cases x with
  | uncorrectable _ => rfl
  | clean _ | corrected _ =>
    cases y with
    | uncorrectable _ => rfl
    | clean _ | corrected _ => exact absurd rfl h

end

end Sys2Proof.Machine
end

section
/-! A rollback step, whatever its entry, its words and its reason (05 5.4). -/

namespace Sys2Proof.Machine
-- One proof after the other: side by side they pass the memory that the check allows.
set_option Elab.async false

/-- A newest entry of the open segment: undone, or foreign to it. -/
theorem rollbackStep_open {s : State} {w0 old cur : Word} {o : Nat} (hr : runs .rollback s) (hb : s.jnl.broken = false)
    (hn : 1 ≤ s.jnl.openCount) (h2 : 2 ≤ s.jnl.votingCount + s.jnl.openCount) (hc : cleanAt s (newestSlot s) [w0, old])
    (ho : ordinalOf s.regions.committed (journalAddr w0 / 256) = some o) (ht : journalTag w0 = s.jnl.rb.tagOpen)
    (hd : decodeStored (storedAt s (journalAddr w0)) (journalAddr w0) = .clean cur) :
    exec .rollbackStep s = .next (settle (entryUndone (newestPlace s) (journalAddr w0) old cur (ungranted s))) := by
  rw [exec_undoesClean hr hb hc ho (ht.trans (expectedTag_open hn).symm) hd]
  exact congrArg (fun t => Host.Outcome.next (settle t)) (rollbackIfDone_goesOn (entryUndone_left h2))

/-- The waiting records of a rollback that halts the channel, where no role and no seal walk end with it. -/
theorem finishRollback_haltedWaiting {s : State} (d : Nat) (h : s.jnl.rb.reason = some .noMajority) (hr : s.repair.role = .none)
    (hw : s.sig.walk ≠ .seal) (hs : s.csr.state ≠ .halted) : (finishRollback (some d) s).ev.waiting =
    (evAfter .stateChange 7 (.channelState s.csr.state) (wordOf s.csr.committed.toNat)
      { s with csr := (finishRollback (some d) s).csr, ev := rollbackReport d (wordOf s.jnl.rb.undone) s }).waiting := by
  have latched := congrArg EventUnit.waiting (evAfter_latched .stateChange 7 (.channelState s.csr.state)
    (wordOf s.csr.committed.toNat) true (rollbackReport d (wordOf s.jnl.rb.undone) s)
    { s with csr := (finishRollback (some d) s).csr })
  exact (congrArg EventUnit.waiting (finishRollback_haltedEv d h hr hw hs)).trans latched

section
variable {s : State}

/-- Why a rollback step stops: an entry that cannot be read (3), or one that is not its segment's (4). -/
def Stops (s : State) (d : Nat) : Prop :=
  let seen := outcomesAt s [newestSlot s, newestSlot s + 1]
  (d = 3 ∧ badWords seen ≠ [] ∧ ∀ b ∈ badWords seen, classOf s (b / 256) = some .journal) ∨
  (d = 4 ∧ ∃ w0 old, seen.map (fun x => x.2.value) = [some w0, some old] ∧
    (ordinalOf s.regions.committed (journalAddr w0 / 256) = none ∨ journalTag w0 ≠ expectedTag s.jnl))

/-- A step that stops the rollback has the end of it, once the words read have had what each read does. -/
theorem exec_stops {d : Nat} (hr : runs .rollback s) (hb : s.jnl.broken = false) (h : Stops s d) : exec .rollbackStep s =
    .next (settle (finishRollback (some d) (met .rollback (outcomesAt s [newestSlot s, newestSlot s + 1]) (ungranted s)))) := by
  rw [exec_rollbackStep hr hb]
  refine congrArg (fun t => Host.Outcome.next (settle t)) ?_
  rcases h with ⟨rfl, bad, journal⟩ | ⟨rfl, w0, old, values, foreign⟩
  · refine (rollbackBody_unreadable (s := ungranted s) bad).trans ((consequences_journal fun b hb => ?_).finishRollback 3)
    rw [classOf_regions (s := s) (by simp [met_keeps, ungranted])]
    exact journal b hb
  · have stops : ¬ ((wordOrdinal s (journalAddr w0)).isSome ∧ journalTag w0 = expectedTag s.jnl) := by
      rintro ⟨some_, tag⟩
      rcases foreign with none_ | other
      · simp [wordOrdinal, none_] at some_
      · exact other tag
    have read : (outcomesAt (ungranted s) [newestSlot s, newestSlot s + 1]).map (fun x => x.2.value) = [some w0, some old] := values
    refine (rollbackBody_eq (ungranted s)).trans ?_
    simp only [show newestSlot (ungranted s) = newestSlot s from rfl, read]
    exact (if_neg stops).trans ((markNewest_marked _).finishRollback 4)

end

/-- A joiner's rollback ends with the record at the committed cycle. -/
theorem finishRollback_joinedRecord {s : State} {stop : Option Nat}
    (h : s.jnl.rb.reason = some .dissent ∨ s.jnl.rb.reason = some .withdrawal) : (finishRollback stop s).csr = backRecord s := by
  rw [finishRollback_joins h]
  simp only [prepareResult_keeps]
  exact (endRollback_leaves stop s).1

/-- The words read change no more of the signature unit than S's validity. -/
theorem met_sigInvalid (by_ : ReadBy) (rs : List (Nat × ReadOutcome)) (s : State) :
    ({ (met by_ rs s).sig with valid := false } : SignatureUnit) = { s.sig with valid := false } := by
  induction rs generalizing s with
  | nil => rfl
  | cons x rs ih =>
    obtain ⟨a, o⟩ := x
    cases o with
    | clean _ => exact ih s
    | corrected v => exact (ih _).trans (by simp)
    | uncorrectable raw => exact (ih _).trans (by rw [reportUncorrectable_eq])

theorem badWords_place {s : State} {a b : Nat} (h : b ∈ badWords (outcomesAt s [a, a + 1])) : b = a ∨ b = a + 1 := by
  have sub (rs : List (Nat × ReadOutcome)) (h : b ∈ badWords rs) : b ∈ rs.map (·.1) := by
    induction rs with
    | nil => exact h
    | cons x rs ih =>
      obtain ⟨c, o⟩ := x
      cases o with
      | clean _ | corrected _ => exact List.mem_cons_of_mem _ (ih h)
      | uncorrectable _ => exact (List.mem_cons.mp h).elim (fun e => e ▸ List.mem_cons_self) fun h => List.mem_cons_of_mem _ (ih h)
  simpa [outcomesAt] using sub _ h

/-- The one word of two that cannot be read, and where. -/
theorem oneUnreadable {s : State} {a : Nat} {raw w : Word}
    (h : decodeStored (storedAt s a) a = .uncorrectable raw ∧ decodeStored (storedAt s (a + 1)) (a + 1) = .clean w ∨
      decodeStored (storedAt s a) a = .clean w ∧ decodeStored (storedAt s (a + 1)) (a + 1) = .uncorrectable raw) :
    ∃ b, (b = a ∨ b = a + 1) ∧ decodeStored (storedAt s b) b = .uncorrectable raw ∧
      badWords (outcomesAt s [a, a + 1]) = [b] ∧
      ∀ by_ u, met by_ (outcomesAt s [a, a + 1]) u = reportUncorrectable by_ b raw u := by
  rcases h with ⟨h0, h1⟩ | ⟨h0, h1⟩
  · exact ⟨a, .inl rfl, h0, by simp [outcomesAt, h0, h1, badWords], fun _ _ => by simp [outcomesAt, h0, h1, met]⟩
  · exact ⟨a + 1, .inr rfl, h1, by simp [outcomesAt, h0, h1, badWords], fun _ _ => by simp [outcomesAt, h0, h1, met]⟩

/-- Settles O45: a rollback step, whatever its entry, its words and its reason. -/
theorem rollbackStepUndoesTheNewestEntry : Obligations.RollbackStepUndoesTheNewestEntry := by
  refine ⟨?_, ?_⟩
  · intro s w0 old cur o cap i slot a tag hr hb hn h2 hc ho
    have foreign (ht : tag ≠ s.jnl.rb.tagOpen) :=
      exec_foreign hr hb hc ho (show journalTag w0 ≠ expectedTag s.jnl from (expectedTag_open hn).symm ▸ ht)
    refine ⟨fun ht hd => ?_, fun ht why => ?_, fun ht why j hj => ?_⟩
    · rw [rollbackStep_open hr hb hn h2 hc ho ht hd, entryUndone_open hn]
      rfl
    · have halted := finishRollback_halted (s := ungranted s) 4 why
      refine ⟨_, foreign ht, by rw [halted.csr]; rfl, by rw [halted.csr]; rfl, by rw [halted.jnl]; rfl, by rw [halted.jnl],
        halted.sig.1, halted.kept.1, halted.latch.1, fun hrole hwalk hstate => ?_⟩
      refine (finishRollback_haltedWaiting (s := ungranted s) 4 why hrole hwalk hstate).trans
        (congrArg EventUnit.waiting (evAfter_of _ _ _ _ _ _ rfl rfl rfl ?_))
      exact rollbackReport_congr (s := s) (t := ungranted s) _ _ rfl rfl rfl
    · rw [foreign ht, finishRollback_walks (s := ungranted s) (j := j) 4 why hj]
      refine ⟨_, rfl, rfl, ?_, rfl, rfl, rfl, rfl, rfl⟩
      exact rollbackReport_congr (s := s) _ _ rfl rfl rfl
  · intro s cap i slot count back report walk hr hb
    refine ⟨?_, ?_, ?_⟩
    · intro w0 old o a tag hc ho
      refine ⟨?_, ?_⟩
      · intro cur hd mem sum
        have run (ht : tag = expectedTag s.jnl) := exec_undoesClean hr hb hc ho ht hd
        have mem_eq : (writeWord a old (ungranted s)).mem = mem := ungranted_written
        set e := entryUndone (newestPlace s) (journalAddr w0) old cur (ungranted s) with he
        have record : e.jnl.rb = { s.jnl.rb with undone := s.jnl.rb.undone + 1 } := entryUndone_record
        refine ⟨?_, ?_, ?_⟩
        · intro hn h2 ht
          rw [run (ht.trans (expectedTag_voting hn).symm), he, entryUndone_voting hn, rollbackIfDone_goesOn]
          · rfl
          · exact Nat.ne_of_gt (show 0 < s.jnl.votingCount - 1 + s.jnl.openCount by omega)
        · intro hl ht signed hn
          rw [run ht, entryUndone_last (s := ungranted s) hl]
          have reason : e.jnl.rb.reason = s.jnl.rb.reason := by rw [record]
          have signed_iff : Signed e ↔ signed := by rw [Signed, record]; rfl
          obtain ⟨kmem, entries, rolls, undone, counter, committed⟩ := finishRollback_leaves (s := e) fun h hs hc hb =>
            hn (reason ▸ h) (signed_iff.mp hs) hc hb
          refine ⟨_, rfl, kmem.trans mem_eq, entries, rolls, undone.trans (by rw [record]), counter, committed, ?_, ?_⟩
          · intro j why hj
            rw [← reason] at why
            refine ⟨?_, fun hs hc => ?_, fun hs hc => ?_, fun hs => ?_⟩
            · exact finishRollback_joinedRecord (s := e) why
            · obtain ⟨-, sig, role⟩ := finishRollback_searches (s := e) why hj (signed_iff.mpr hs) hc
              exact ⟨sig, role⟩
            · rw [finishRollback_differs (s := e) (j := j) why hj (signed_iff.mpr hs) hc]
              exact ⟨rfl, rfl, rollbackReport_congr (s := s) (t := e) _ _ rfl rfl rfl⟩
            · rw [finishRollback_unsigned (s := e) (j := j) why hj fun h => hs (signed_iff.mp h)]
              exact ⟨rfl, rfl, rfl⟩
          · intro why
            rw [← reason] at why
            refine ⟨fun hs hc => ?_, fun hs => ?_⟩
            · obtain ⟨state, sig, repair, ev⟩ := finishRollback_held (s := e) why (signed_iff.mpr hs) hc (hn (reason ▸ why) hs hc)
              exact ⟨state, sig, repair, ev.trans (evAfter_of _ _ _ _ _ _ rfl rfl rfl rfl)⟩
            · exact finishRollback_failed (s := e) why fun h => hs ⟨signed_iff.mp h.1, h.2⟩
        · intro hl ht why ahead agrees hv hs hsum
          rw [run ht, entryUndone_last (s := ungranted s) hl]
          obtain ⟨j, kmem, rest⟩ := finishRollback_watched (s := e) (by rw [record]; exact why) ⟨by rw [record]; exact hv, hs⟩ hsum ahead agrees
          exact ⟨_, j, rfl, kmem.trans mem_eq, rest⟩
      · intro raw j hd h2 hn ht undone
        have run : exec .rollbackStep s = .next (settle (rollbackIfDone (consequences .rollback [a] (undoneOver a old raw s)))) :=
          exec_undoesBad hr hb hc ho ht hn hd
        have vital : ∀ x ∈ [a], classOf (undoneOver a old raw s) (x / 256) = some .vital := by
          simpa using classOf_of_ordinal (s := undoneOver a old raw s) ho
        have left (u : State) (hj : u.jnl.entries = (undoneOver a old raw s).jnl.entries) : rollbackIfDone u = u :=
          rollbackIfDone_goesOn (hj ▸ Nat.ne_of_gt (show 0 < s.jnl.votingCount + (s.jnl.openCount - 1) by omega))
        refine ⟨?_, ?_⟩
        · intro hout hj hp hw
          have unchanged : consequences .rollback [a] (undoneOver a old raw s) = undoneOver a old raw s := by
            rw [consequences_vital vital, show (undoneOver a old raw s).csr.state = .out from hout]
            exact vitalInOut_preparing (j := j) hj hp hw
          rw [run, unchanged, left _ rfl]
          rfl
        · intro hst why hnr
          have rolls : rolling (undoneOver a old raw s) = true := hr.2
          obtain ⟨kmem, -, -, -, -, -, -, -, -, ksig, -, kcsr, -⟩ := partedForOut_keeps (undoneOver a old raw s)
          rw [run, consequences_signed vital (hst.elim .inl fun h => .inr (.inl h)), withdraw_rolling rolls]
          refine ⟨_, congrArg (fun t => Host.Outcome.next (settle t)) (left _ rfl), kmem, rfl, by rw [kcsr], by rw [kcsr]; rfl,
            partedForOut_latched _, ksig, _, rfl, rfl⟩
    · intro raw w j hd h0 h1 why hj
      obtain ⟨b, place, bad, words, mets⟩ := oneUnreadable (a := newestSlot s) hd
      have class_ : classOf s (b / 256) = some .journal := place.elim (fun h => h ▸ h0) fun h => h ▸ h1
      have run := exec_stops hr hb (d := 3) (.inl ⟨rfl, by rw [words]; simp, by
        rw [words]; simpa using class_⟩)
      rw [mets, finishRollback_walks (j := j) 3 (by simpa [ungranted] using why) (by simpa [ungranted] using hj),
        reportUncorrectable_eq] at run
      exact ⟨_, b, place, bad, run, rfl, rfl, rfl, rfl, rfl, rfl, rfl, rfl, rollbackReport_congr (s := { s with
        ev := evAfter .uncorrectable 8 (.word b) raw s }) _ _ rfl rfl (evAfter_of _ _ _ _ _ _ rfl rfl rfl rfl)⟩
    · intro detail seen read tag told stopped h
      have line : (newestSlot s + 1) / 256 = newestSlot s / 256 := by
        have fits := journalSlot_fits s (newestPlace s)
        simp only [newestSlot]
        omega
      have stops : Stops s detail := h.imp (fun ⟨hd, bad, journal⟩ => ⟨hd, bad, fun b hb => by
        rcases badWords_place hb with rfl | rfl
        · exact journal
        · rw [line]; exact journal⟩) id
      have run : exec .rollbackStep s = .next (settle (finishRollback (some detail) read)) := exec_stops hr hb stops
      have csr : read.csr = s.csr := by simp [read, met_keeps]
      have jnl : read.jnl = s.jnl := by simp [read, met_keeps]
      have regions : read.regions = s.regions := by simp [read, met_keeps]
      have repair : read.repair = s.repair := by simp [read, met_keeps]
      have report_eq : rollbackReport detail (wordOf read.jnl.rb.undone) read = told := by
        rw [jnl, rollbackReport, journalIndex_congr regions]
        exact evAfter_of _ _ _ _ _ _ (by simp [back, backRecord, csr]) (by simp [back, backRecord, csr]) regions rfl
      refine ⟨?_, ?_⟩
      · intro why
        have why' : read.jnl.rb.reason = some .noMajority := jnl ▸ why
        have halted := finishRollback_halted detail why'
        refine ⟨_, run, ⟨halted.kept.1, ?_, halted.kept.2.2.2.1, by rw [halted.jnl]; rfl, by rw [halted.jnl],
          by rw [halted.jnl]; exact congrArg (·.rb.undone) jnl, by rw [halted.csr]; exact congrArg (·.committed) csr,
          by rw [halted.csr]; exact congrArg (·.committed) csr, by rw [halted.csr]; exact congrArg (·.c) csr, halted.sig.1⟩,
          by rw [halted.csr]; rfl, haltedRecord_agrees halted.csr, halted.latch.1, ?_⟩
        · rw [finishRollback_halts detail why']
          simp only [enterHalted_keeps]
          rfl
        · intro hrole hwalk hstate
          rw [finishRollback_haltedEv detail why' (repair ▸ hrole) (by simpa [read, met_keeps] using hwalk) (by rw [csr]; exact hstate),
            report_eq, csr]
          exact evAfter_of _ _ _ _ _ _ rfl rfl regions rfl
      · intro why j hj
        rw [finishRollback_walks (j := j) detail (jnl ▸ why) (repair ▸ hj), report_eq] at run
        have sig : walk { read.sig with valid := false } = walk { s.sig with valid := false } :=
          congrArg walk (met_sigInvalid .rollback seen _)
        exact ⟨_, run, ⟨rfl, rfl, rfl, rfl, rfl, congrArg (·.rb.undone) jnl, congrArg (·.committed) csr,
          congrArg (·.committed) csr, congrArg (·.c) csr, rfl⟩,
          congrArg (fun r => { r with counter := r.committed, counterInv := ~~~ r.committed }) csr, sig, rfl, rfl⟩

end Sys2Proof.Machine
end

section
/-! An open vote beside a rollback that runs: the withdrawal that comes before NO-MAJORITY leaves the counter (R81, R102). -/

namespace Sys2Proof.Machine
-- One proof after the other: side by side they pass the memory that the check allows.
set_option Elab.async false

/-- A head that is decided stays in the queue or is answered. -/
theorem decideHead_answers {t : State} (hp : t.port.queue ≠ []) :
    (decideHead t).port.queue ≠ [] ∨ (decideHead t).out.responses ≠ [] := by
  have answered (r : Response) (s : State) : (answerHead r s).out.responses ≠ [] := by simp [answerHead, respond]
  unfold decideHead
  split
  · exact .inl hp
  · split
    · exact absurd ‹_› hp
    · split
      · exact .inr (answered _ _)
      · exact .inl hp
      · unfold apertureHead
        split
        · exact .inr (answered _ _)
        · exact .inr (answered _ _)
      · unfold grantHead
        split
        · exact .inl hp
        · exact .inl hp

/-- Where the queue is empty and nothing has been answered, no transaction was decided again. -/
theorem settle_unanswered {t : State} (hq : (settle t).port.queue = []) (hr : (settle t).out.responses = []) : settle t = t := by
  cases hh : t.port.held with
  | none => exact settle_none t hh
  | some h =>
    cases hp : t.port.queue with
    | nil => simp only [settle, hh, hp]
    | cons x xs =>
      exfalso
      by_cases he : h.ended (holdFor x t) = true
      · rw [settle_ended hh hp he] at hq hr
        exact (decideHead_answers (t := { t with port.held := none }) (by simp [hp])).elim (· hq) (· hr)
      · rw [settle_stands hh hp (by simpa using he)] at hq
        simp [hp] at hq

/-- A window that expires over a scrub grant which meets a vital word it cannot read, in VOTING with nothing in the journal, no
value sent, and a rollback under way. -/
def expiryWhileRolling : State :=
  { State.reset with
    csr := { ChannelRecord.reset with state := .voting, stateInv := ~~~ (5 : BitVec 8), counter := 1, counterInv := ~~~ (1 : Cycle) }
    regions.committed := [{ valid := true, base := 0, count := 1, cls := .vital, scrub := false }]
    mem := [(7, poisonWord 9)]
    scrub.word := 7
    arb.grant := some .scrub
    jnl.rb.rolling := true
    vote.record := { VoteRecord.cleared with isOpen := true, cycle := 1, window := some 1 } }

/-- What the expiry leaves there: OUT, and the counter at its cycle. -/
theorem expiryWhileRolling_leaves : ∃ u, exec .voteWindowExpiry expiryWhileRolling = .next u ∧
    u.port.queue = [] ∧ u.out.responses = [] ∧ u.csr.counter = 1 :=
  ⟨_, rfl, by decide, by decide, by decide⟩

/-- Refutes O19: its last clause asks for the counter at the committed cycle behind a withdrawal that comes before NO-MAJORITY, and
its hypotheses leave room for a rollback that already runs beside the open vote. The withdrawal then takes that rollback over, and
the counter stays at its cycle until the rollback ends. The journal is empty there, so that NO-MAJORITY would end in HALTED and the
withdrawal goes first (log entry 34). -/
theorem not_deferredEffectsWaitForTheGrant : ¬ Obligations.DeferredEffectsWaitForTheGrant := by
  rintro ⟨-, -, -, -, -, -, -, withdraws⟩
  obtain ⟨u, run, queue, responses, counter⟩ := expiryWhileRolling_leaves
  obtain ⟨t, -, expires, -, -, back, -⟩ := withdraws expiryWhileRolling 0 7 9 rfl (by decide) (by decide)
    (by decide) (by decide) (.inr rfl) (by unfold copiesAgree; decide) rfl (by decide)
    ⟨fun _ => ⟨nofun, nofun⟩, nofun⟩
  have settled : settle t = u := by
    rw [run] at expires
    injection expires with same
    exact same.symm
  have same := settle_unanswered (settled ▸ queue) (settled ▸ responses)
  rw [← same, settled, counter] at back
  exact absurd back (by decide)

end Sys2Proof.Machine
end
